-- ==== Sys2Proof/Word.lean ====
section
/-! DEFINITION. Bytes, sets of small numbers, tables, and the part's unit of time.

The line carries bytes (R193); a set of floors, zones, detectors, call points or ringers is numbered
by its members and goes onto the line bit by bit (R194), so each is kept as a bit vector. -/

namespace Sys2Proof

/-- One byte of a frame (R193). -/
abbrev Byte := BitVec 8

/-- A floors mask: floor `f` is in the set when bit `f` is set (00_scope, "Floors and masks"; R194). -/
abbrev FloorSet := BitVec 8

/-- A zones mask, zones 0 to 15. -/
abbrev ZoneSet := BitVec 16

/-- A set of detector indices 0 to 47 (the confirmer set, R46). -/
abbrev DetSet := BitVec 48

/-- A set of call-point indices 0 to 23. -/
abbrev PointSet := BitVec 24

/-- A ringers mask, ringers 0 to 15. -/
abbrev RingerSet := BitVec 16

/-- The set of lock causes; FIRE is member 0 and STOP_TIMEOUT member 6 (R194, Paternoster notice). -/
abbrev CauseSet := BitVec 8

/-- A loadable table: its present entries with their indices, indices strictly rising. -/
abbrev Table (α : Type) := List (Nat × α)

/-- Ticks in one second: one tick is 8 µs, which divides every time the manual names.
DESIGN CHOICE (safe), log 1. -/
abbrev ticksPerSec : Nat := 125000

/-- Ticks in one millisecond. -/
abbrev ticksPerMs : Nat := 125

end Sys2Proof
end

