-- ==== Sys2Proof/Syntax.lean ====
section
/-! DEFINITION. The commands: one constructor per row of spec/opcode_table.json, in its order.

A request carries its frame's source and tag and its payload's fields; a panel order and a station's
frame carry the frame's head and payload fields (R193, R194). A time event carries the index of the item
whose timer it is. -/

namespace Sys2Proof

/-- Destination, source and tag of a frame (R193). -/
structure Hdr where
  dst : Byte
  src : Byte
  tag : Byte
deriving DecidableEq, Repr

/-- A report of a station with its payload fields (R194, class 1). -/
inductive Report where
  | presence
  | detectorLevel (level : Byte)
  | callPoint (value : Byte)
  | chain (position : BitVec 16) (motion condition : Byte)
  | landing (up down guard stop : Byte)
  | shutterPosition (value : Byte)
  | push (key : Byte)
  | answer (cell : Byte)
  | ringDone (number : Byte)
  | phraseDone (number : Byte)
deriving DecidableEq, Repr

/-- The broad sort of a frame (R193: classes 1 to 5). -/
inductive FrameClass where
  | report | order | request | reply | notice
deriving DecidableEq, Repr

/-- A command of the block: a row of spec/opcode_table.json. -/
inductive Instr where
  | powerOn
  | resetPinReset
  | readStatus (src tag : Byte)
  | readEntry (src tag table index : Byte) (part : Option Byte)
  | writeEntry (src tag table index : Byte) (data : List Byte)
  | deleteEntry (src tag table index : Byte)
  | readRecord (src tag kind index part : Byte)
  | arm (src tag : Byte)
  | disarm (src tag : Byte)
  | setClock (src tag : Byte) (second : BitVec 24) (weekday : Byte)
  | acknowledgeZone (src tag zone : Byte)
  | cancelZone (src tag zone : Byte)
  | resetZone (src tag zone : Byte)
  | isolateZone (src tag zone : Byte)
  | restoreZone (src tag zone : Byte)
  | evacuate (src tag : Byte) (zones : ZoneSet)
  | silence (src tag : Byte)
  | resound (src tag : Byte)
  | raiseShutter (src tag shutter : Byte)
  | retryShutter (src tag shutter : Byte)
  | releasePaternoster (src tag : Byte)
  | clearCall (src tag push : Byte)
  | beginClosing (src tag : Byte)
  | abortClosing (src tag : Byte)
  | boardMode (src tag mode : Byte)
  | runOrder (h : Hdr)
  | haltOrder (h : Hdr)
  | restOrder (h : Hdr)
  | stopAtOrder (h : Hdr) (target : BitVec 16)
  | cutOrder (h : Hdr)
  | dropOrder (h : Hdr)
  | raiseOrder (h : Hdr)
  | warnOrder (h : Hdr)
  | ringOrder (h : Hdr) (strokes spacing number : Byte)
  | ringCancelOrder (h : Hdr)
  | phraseOrder (h : Hdr) (phrase number : Byte)
  | gateOrder (h : Hdr) (value : Byte)
  | pollOrder (h : Hdr)
  /-- `none`: the frame fails the line check. `some (h, c)`: a valid frame with head `h` of class `c`. -/
  | portAFrameDropped (frame : Option (Hdr × FrameClass))
  | presenceReport (h : Hdr)
  | detectorLevelReport (h : Hdr) (level : Byte)
  | callPointReport (h : Hdr) (value : Byte)
  | chainReport (h : Hdr) (position : BitVec 16) (motion condition : Byte)
  | landingReport (h : Hdr) (up down guard stop : Byte)
  | shutterPositionReport (h : Hdr) (value : Byte)
  | pushReport (h : Hdr) (key : Byte)
  | answerReport (h : Hdr) (cell : Byte)
  | ringDoneReport (h : Hdr) (number : Byte)
  | phraseDoneReport (h : Hdr) (number : Byte)
  /-- `report` is `none` when the valid frame is not of class report. -/
  | frameFromAnotherKnownStation (h : Hdr) (report : Option Report)
  | strangerFrame (h : Hdr) (report : Option Report)
  | garbledFrame
  | unusableFrame
  | frameWithoutOutstandingPoll
  | answerWindowExpiry
  | stopTimerExpiry
  | resumeTimerExpiry
  | stageTimerExpiry (zone : Nat)
  | warnTimerExpiry (shutter : Nat)
  | travelTimerExpiry (shutter : Nat)
  | retryTimerExpiry (shutter : Nat)
  | ringTimerExpiry (ringer : Nat)
  | nextRingTimeReached (push : Nat)
  | fireRepeatTimerExpiry
  | phraseTimerExpiry (floor : Nat)
  | gapTimerExpiry (floor : Nat)
  | panelTimerExpiry
  | flashPhaseChange
  | midnightStep
  | automaticStart
  | stepOffsetReached
  | chimeNoteEnd (gen : Nat)
  | chimeEnd (gen : Nat)
  | scanningPassCompletion
  | testPassCompletion
  | orderTransmissionComplete
  | pollTransmissionComplete
  | portATransmissionComplete
deriving DecidableEq, Repr

end Sys2Proof
end

