-- ==== Sys2Proof/Decode.lean ====
section
/-! DEFINITION. Words of the command table. The block has no instruction words: no row of the table gives
bits. How the line's bytes spell commands is Machine/Wire.lean. -/

namespace Sys2Proof

/-- The command that a word spells by the table's bits: none, for no row gives bits (log 20). -/
def decodeTableWord (_nbits _w : Nat) : Option Instr := none

end Sys2Proof
end

