-- ==== Sys2Proof/Config.lean ====
section
/-! DEFINITION. Capacities the manual fixes, and the values it leaves open.

The `opaque` constants have no body: nothing in Lean can evaluate one, so a statement holds for every
value they could have. -/

namespace Sys2Proof.Config

/-- Capacity of the forwarded-order FIFO (R173). -/
abbrev orderFifo : Nat := 16

/-- Capacity of the forwarded-report FIFO (R176). -/
abbrev reportFifo : Nat := 24

/-- Capacity of the call list (R99). -/
abbrev callList : Nat := 32

/-- Capacity of the ring queue (R101). -/
abbrev ringQueue : Nat := 24

/-- Capacity of the guard trip history (R21). -/
abbrev tripHistory : Nat := 8

/-- Capacity of the station table (R158). -/
abbrev stationTable : Nat := 96

/-- Where the fairness counts of both arbiters stop (R179, R180). -/
abbrev runLimit : Nat := 4

/-- What a panel Gate order with an unlisted value (R194 lists 0, 1 and 2) is noted as: a FREE VALUE of
the draw's number and the value the order carries, taken modulo 3. R155 states no result for it.
DESIGN CHOICE (safe), log 14. -/
opaque gateReading : Nat → Nat → Nat

/-- The bytes of a quantity that does not fit its field of `bytes` bytes (a running time past
4,294,967,295 s, an elapsed time past 65,535 s): a FREE VALUE of the field's length and the quantity.
R194 states no encoding for it. DESIGN CHOICE (safe), log 15. -/
opaque overflowField : Nat → Nat → Nat

end Sys2Proof.Config
end

