-- ==== Sys2Proof/Machine/State.lean ====
section
/-! DEFINITION. The part's state, unit by unit, as plain data, and its value after power-on.

A timer is `none` when it is not running and otherwise holds its remaining time in ticks. A table lists
its present entries with their indices; the entry of a role table holds its loaded fields and the
run-time fields the owner keeps for it. The named values of each type stand in the order in which the
manual lists them, which is the order of their numbers on the line (R194). -/

namespace Sys2Proof.Machine

/-! ## Frames and orders on the line -/

/-- Refusal codes of replies, in the order of their list in 00_scope. -/
inductive Code where
  | ok | badFormat | badTable | badIndex | badValue | inUse | armedLocked | notArmed | configError
  | alarmActive | wrongState | detectorActive | zoneInAlarm | busy
deriving DecidableEq, Repr

/-- A frame without its check, which the part computes when it begins transmission (R193). -/
structure Frame where
  dst : Byte
  src : Byte
  kind : Byte
  tag : Byte
  payload : List Byte
deriving DecidableEq, Repr

/-- The kind of an order with its payload fields (R194, class 2). -/
inductive OrderBody where
  | poll | run | halt | rest
  | stopAt (target : Nat)
  | cut | warn | drop | raise
  | ring (strokes spacing number : Byte)
  | ringCancel
  | phrase (phrase number : Byte)
  | gate (value : Byte)
deriving DecidableEq, Repr

/-- An order frame: its head and its kind. -/
structure Order where
  head : Hdr
  body : OrderBody
deriving DecidableEq, Repr

/-- Veto reasons, in the order of their list in 00_scope. -/
inductive VetoReason where
  | notArmed | chainNotIdle | shutterNotOpen | fire | chainMoving | landingBlocked | zoneInAlarm
  | evacuation | unknownStation | forbiddenKind
deriving DecidableEq, Repr

/-- Where an order was vetoed (R174, R192). -/
inductive VetoStage where
  | arrival | sending
deriving DecidableEq, Repr

/-- The veto slot's contents (R174, R192): the vetoed order's destination and kind byte, reason, stage. -/
structure Veto where
  dst : Byte
  kind : Byte
  reason : VetoReason
  stage : VetoStage
deriving DecidableEq, Repr

/-- What occupies Port B (9.6, R162): nothing, an order in transmission, a Poll in transmission, or a
poll outstanding with the time left in its answer window. -/
inductive PortB where
  | free
  | sending (order : Order)
  | polling (address : Nat)
  | awaiting (address window : Nat)
deriving DecidableEq, Repr

/-- The Line Unit with the Order Filter's veto slot (R162 to R181). -/
structure LineUnit where
  orders : List Order
  reports : List Frame
  reply : Option Frame
  veto : Option Veto
  vetoMark : Bool
  portA : Option Frame
  portB : PortB
  orderRun : Nat
  localRun : Nat
  requestOverrun : Bool
  forwardOverflow : Bool
  reportOverflow : Bool
  stranger : Option Nat
  cycle : Nat
  position : Option Nat
deriving DecidableEq, Repr

/-! ## Station Register (chapter 8) -/

/-- Roles, in the order of R158's table. -/
inductive Role where
  | detector | callPoint | shutter | drive | landing | push | desk | ringer | amplifier
deriving DecidableEq, Repr

/-- Poll classes (R158). -/
inductive PollClass where
  | fast | slow
deriving DecidableEq, Repr

/-- Presence of a station (R159). -/
inductive Presence where
  | unseen | present | missing
deriving DecidableEq, Repr

/-- An entry of the station table with its run-time fields (R158, R159, R168). -/
structure Station where
  role : Role
  floor : Nat
  cls : PollClass
  missLimit : Nat
  presence : Presence
  miss : Nat
  mark : Bool
deriving DecidableEq, Repr

/-- The line settings record (R160): panel address, answer window in ms, panel timeout in s. -/
structure LineSettings where
  panel : Nat
  window : Nat
  timeout : Nat
deriving DecidableEq, Repr

/-- The Station Register (R158 to R169). `awaySecs` is the number of whole seconds from the latest
loss of the panel to its return (R168). -/
structure StationRegister where
  stations : Table Station
  settings : Option LineSettings
  panelLost : Bool
  panelTimer : Option Nat
  lostTime : Option Nat
  awaySecs : Option Nat
  panelMark : Bool
deriving DecidableEq, Repr

/-! ## Paternoster Monitor (chapters 1 and 2) -/

/-- The geometry record (R1); L and W are computed from it. -/
structure Geometry where
  pitch : Nat
  cars : Nat
  carLength : Nat
  margin : Nat
  braking : Nat
  slipLimit : Nat
  stopTimeout : Nat
  resumeDelay : Nat
  guardLimit : Nat
  guardWindow : Nat
deriving DecidableEq, Repr

/-- A beam-check record (R28). `settling` true is phase SETTLING, false CHECKING. -/
structure Beam where
  expected : Nat
  miss : Nat
  settling : Bool
  travel : Nat
deriving DecidableEq, Repr

/-- A beam-check record at its starting value (R28). -/
abbrev Beam.start : Beam := { expected := 0, miss := 0, settling := true, travel := 0 }

/-- An entry of the landing table with its run-time records (R2, R4, R28). -/
structure Landing where
  up : Nat
  down : Nat
  station : Nat
  restClear : Bool
  rank : Nat
  tripped : Bool
  stopSwitch : Bool
  upBeam : Beam
  downBeam : Beam
deriving DecidableEq, Repr

/-- Motion in the chain record (R3). -/
inductive Motion where
  | stopped | moving | none
deriving DecidableEq, Repr

/-- The chain record (R3). `fault` true is condition FAULT. -/
structure Chain where
  position : Option Nat
  motion : Motion
  fault : Bool
  lastMove : Nat
deriving DecidableEq, Repr

/-- Paternoster states (1.3). -/
inductive PatState where
  | unknown | idle | running | runout | resting | stopping | held | locked
deriving DecidableEq, Repr

/-- A running state that is intended or remembered: RUNNING, or RUNOUT with its revolutions (1.3). -/
inductive Intended where
  | running
  | runout (revs : Nat)
deriving DecidableEq, Repr

/-- The searched set of a stop record (R36). -/
inductive SearchSet where
  | rest | fire
deriving DecidableEq, Repr

/-- The stop record (1.3, R14, R36). -/
structure Stop where
  target : Option Nat
  searched : Option SearchSet
  halted : Bool
deriving DecidableEq, Repr

/-- The orders the Monitor places in the drive order slot (R7). -/
inductive DriveOrder where
  | run | halt
  | stopAt (target : Nat)
  | cut
deriving DecidableEq, Repr

/-- Lock causes, in the order of 1.3; member numbers of the lock-cause set (R194). -/
inductive LockCause where
  | fire | slip | emergency | driveFault | driveMissing | guardLimit | stopTimeout
deriving DecidableEq, Repr

/-- The Paternoster Monitor (R1 to R31). -/
structure Paternoster where
  geometry : Option Geometry
  landings : Table Landing
  state : PatState
  chain : Chain
  revs : Option Nat
  remembered : Option Intended
  start : Option Intended
  stop : Option Stop
  removed : List Nat
  causes : CauseSet
  fireStop : FloorSet
  trips : List Nat
  stopTimer : Option Nat
  resumeTimer : Option Nat
  slot : Option DriveOrder
  mark : Bool
deriving DecidableEq, Repr

/-! ## Fire Zone Unit (chapter 3) -/

/-- An entry of the detector table with its run-time fields (R44). -/
structure Detector where
  station : Nat
  zone : Nat
  alarm : Nat
  restore : Nat
  confirm : Nat
  level : Nat
  run : Nat
  active : Bool
  fault : Bool
deriving DecidableEq, Repr

/-- An entry of the call-point table with its run-time fields (R45). -/
structure CallPoint where
  station : Nat
  zone : Nat
  operated : Bool
  fault : Bool
deriving DecidableEq, Repr

/-- Zone states (3.3). -/
inductive ZoneState where
  | quiet | preAlarm | fullAlarm | isolated
deriving DecidableEq, Repr

/-- An entry of the zone table with its run-time fields (R46). `tableIsolated` is the table's
isolated flag, which is read only at Arm. -/
structure Zone where
  ackTime : Nat
  investTime : Nat
  coincidence : Bool
  evacFloors : FloorSet
  tableIsolated : Bool
  state : ZoneState
  timer : Option Nat
  acked : Bool
  confirmers : DetSet
  fault : Bool
  mark : Bool
deriving DecidableEq, Repr

/-- The fire settings record (R47). -/
structure FireSettings where
  evacPhrase : Nat
  alertPhrase : Nat
  pattern : Nat
  gap : Nat
deriving DecidableEq, Repr

/-- The Fire Zone Unit (R44 to R67). -/
structure FireUnit where
  detectors : Table Detector
  callPoints : Table CallPoint
  zones : Table Zone
  settings : Option FireSettings
  silence : Bool
deriving DecidableEq, Repr

/-! ## Shutter Unit (chapter 4) -/

/-- Kinds of shutter (R68). -/
inductive ShutterKind where
  | department | shaft
deriving DecidableEq, Repr

/-- Shutter states (R69). -/
inductive ShutterState where
  | unknown | open | awaitClear | warning | descending | closed | obstructed | raising | faulted
deriving DecidableEq, Repr

/-- Why a shutter closes (R69). -/
inductive Reason where
  | none | fire | night | manual
deriving DecidableEq, Repr

/-- What obstructs a shutter (R69). -/
inductive Obstruction where
  | car | jam
deriving DecidableEq, Repr

/-- Fault causes of a shutter (R69). -/
inductive FaultCause where
  | travelTimeout | retriesSpent | stationMissing | unexpectedReport
deriving DecidableEq, Repr

/-- The state a raise began from (R69, R87). -/
inductive Prior where
  | closed
  | obstructed (o : Obstruction)
  | faulted (c : FaultCause)
deriving DecidableEq, Repr

/-- Values of a Shutter Position report (4.2). -/
inductive Position where
  | open | lowering | raising | closed | part | jammed
deriving DecidableEq, Repr

/-- Orders in a shutter's order slot (R69). -/
inductive ShutterOrder where
  | warn | drop | raise
deriving DecidableEq, Repr

/-- An entry of the shutter table with its run-time record and order slot (R68, R69). -/
structure Shutter where
  station : Nat
  zoneA : Nat
  zoneB : Option Nat
  kind : ShutterKind
  landing : Option Nat
  floor : Nat
  warnTime : Nat
  travelLimit : Nat
  night : Bool
  state : ShutterState
  reason : Reason
  obstruction : Option Obstruction
  fault : Option FaultCause
  timer : Option Nat
  attempts : Nat
  prior : Option Prior
  last : Option Position
  slot : Option ShutterOrder
  mark : Bool
deriving DecidableEq, Repr

/-! ## Call Unit (chapter 5) -/

/-- An entry of the push table (R96). `escalation` is the escalation ringer and pattern. -/
structure Push where
  station : Nat
  key : Nat
  floor : Nat
  priority : Nat
  pattern : Nat
  ringer : Nat
  escalation : Option (Nat × Nat)
deriving DecidableEq, Repr

/-- An entry of the pattern table (R97); spacing in units of 100 ms. `repeating` is `none` for mode
NORMAL and the repeat interval and limit for mode REPEAT. -/
structure Pattern where
  strokes : Nat
  spacing : Nat
  repeating : Option (Nat × Nat)
deriving DecidableEq, Repr

/-- Where a ring request comes from (R101). -/
inductive Origin where
  | call (push : Nat)
  | fire
  | closing
deriving DecidableEq, Repr

/-- A ring request (R101). `age` is the running time at which it joined; `seq` numbers requests in the
order in which they first joined (log 13). -/
structure Req where
  ringer : Nat
  pattern : Nat
  priority : Nat
  origin : Origin
  age : Nat
  seq : Nat
deriving DecidableEq, Repr

/-- What a RINGING ringer rings (R98). -/
inductive Ring where
  | request (r : Req)
  | panel (strokes spacing : Nat)
deriving DecidableEq, Repr

/-- Orders in a ringer's order slot (R98). -/
inductive RingerOrder where
  | ring (strokes spacing number : Nat)
  | cancel
deriving DecidableEq, Repr

/-- An entry of the ringer table with its run-time record and order slot (R98). The state is RINGING
when `ring` is present and IDLE when it is absent. -/
structure Ringer where
  station : Nat
  floor : Nat
  ring : Option Ring
  number : Option Nat
  timer : Option Nat
  slot : Option RingerOrder
deriving DecidableEq, Repr

/-- Call states, in the order of their codes (R100, R196). -/
inductive CallState where
  | waiting | rung | deferred
deriving DecidableEq, Repr

/-- A call record (R99). -/
structure Call where
  push : Nat
  priority : Nat
  arrival : Nat
  presses : Nat
  rings : Nat
  nextRing : Option Nat
  escalated : Bool
  owed : Bool
  state : CallState
deriving DecidableEq, Repr

/-- The Call Unit (R96 to R121). -/
structure CallUnit where
  pushes : Table Push
  patterns : Table Pattern
  ringers : Table Ringer
  counter : Nat
  calls : List Call
  queue : List Req
  nextSeq : Nat
  closingLevel : Nat
  fireLevel : Nat
  fireRound : Nat
  fireTimer : Option Nat
  listFull : Bool
  lastIgnored : Option Nat
  mark : Bool
deriving DecidableEq, Repr

/-! ## Annunciator Driver (chapter 6) -/

/-- Fixed conditions (R122, R126). -/
inductive Fixed where
  | paternosterLocked | listFull | panelLost | stationMissing | closing
deriving DecidableEq, Repr

/-- What a cell is assigned (R122). -/
inductive Assignment where
  | none
  | push (i : Nat)
  | zone (i : Nat)
  | shutter (i : Nat)
  | fixed (f : Fixed)
deriving DecidableEq, Repr

/-- Display modes (6.2). -/
inductive Display where
  | off | steady | emphasis | flash
deriving DecidableEq, Repr

/-- The on-time settings record (R123). -/
structure OnTimes where
  n1 : Nat
  n2 : Nat
  limit : Nat
deriving DecidableEq, Repr

/-- Board modes (R130). -/
inductive BoardMode where
  | dark | scanning | test
deriving DecidableEq, Repr

/-- Pass kinds (R128, R133). -/
inductive PassKind where
  | scan | test
deriving DecidableEq, Repr

/-- Degrade steps (R129). -/
inductive Degrade where
  | none | step1 | step2
deriving DecidableEq, Repr

/-- One slot of a pass plan (R128): the drive times in µs of its lamps in rows `row` and `row + 4` of
column `col`, absent for a lamp that is not lit. -/
structure Slot where
  row : Nat
  col : Nat
  upper : Option Nat
  lower : Option Nat
deriving DecidableEq, Repr

/-- A pass in flight (R128, R129): its kind, the plan it fixed at its start, its pass time in µs, its
degrade step with t′, and the time left in ticks. -/
structure Pass where
  kind : PassKind
  plan : List Slot
  time : Nat
  degrade : Degrade
  reduced : Option Nat
  left : Nat
deriving DecidableEq, Repr

/-- The board pass record (R133). -/
structure PassRecord where
  number : Nat
  kind : Option PassKind
  slots : Nat
  time : Nat
  degrade : Degrade
  reduced : Option Nat
deriving DecidableEq, Repr

/-- The Annunciator Driver (R122 to R134). -/
structure Board where
  layout : Table Assignment
  settings : Option OnTimes
  image : List Display
  lit : Bool
  flashTimer : Option Nat
  mode : BoardMode
  returnMode : Option BoardMode
  pass : Option Pass
  record : PassRecord
  testDone : Bool
  mark : Bool
deriving DecidableEq, Repr

/-! ## Announcement Unit (chapter 7) -/

/-- The store clock (R135); `sub` is the part of the running second in ticks. -/
structure Clock where
  set : Bool
  second : Nat
  weekday : Nat
  sub : Nat
deriving DecidableEq, Repr

/-- A closing step's kind with its parameters (R138). -/
inductive StepKind where
  | chime (chime : Nat) (floors : FloorSet)
  | phrase (phrase : Nat) (floors : FloorSet)
  | ring (pattern : Nat) (ringers : RingerSet)
  | level (level : Nat)
  | runout (revs : Nat)
  | night (floors : FloorSet)
  | finish
deriving DecidableEq, Repr

/-- A step of the closing programme (R138). -/
structure Step where
  offset : Nat
  kind : StepKind
deriving DecidableEq, Repr

/-- Closing states (R139). -/
inductive ClosingState where
  | waiting | running | finished | aborted
deriving DecidableEq, Repr

/-- Clocks of a note (R149), in the order of their codes (R195). -/
inductive NoteClock where
  | mhz1 | khz250 | khz62 | khz15
deriving DecidableEq, Repr

/-- A note of a chime (R149): `pitch` is the divider and clock, or `none` for a REST. -/
structure Note where
  pitch : Option (Nat × NoteClock)
  duration : Nat
  gap : Nat
deriving DecidableEq, Repr

/-- An entry of the chime table (R149). -/
structure Chime where
  notes : List Note
  repeats : Nat
deriving DecidableEq, Repr

/-- Where a SOUNDING generator stands (R150): the round from 1, the note's place in the list from 0,
whether its gap is under way, and the time left of the note or gap. -/
structure Sounding where
  round : Nat
  note : Nat
  inGap : Bool
  left : Nat
deriving DecidableEq, Repr

/-- A PLAYING tone generator (R150): its chime, its gated set, and its phase, GATING when `sounding` is
`none` and SOUNDING otherwise. -/
structure Playing where
  chime : Nat
  gated : FloorSet
  sounding : Option Sounding
deriving DecidableEq, Repr

/-- Amplifier states (R146). -/
inductive AmpState where
  | idle | playing | gated
deriving DecidableEq, Repr

/-- Origins of a phrase or gate (R146). -/
inductive AmpOrigin where
  | closing | fire | panel
deriving DecidableEq, Repr

/-- Orders in an amplifier's order slot (R146). -/
inductive AmpOrder where
  | phrase (phrase number : Nat)
  | gateOn (gen : Nat)
  | gateOff
deriving DecidableEq, Repr

/-- An entry of the amplifier table with its run-time record and order slot (R146). `owed` is set while
a returned amplifier is to be given its fire phrase once IDLE (R148, log 10). -/
structure Amp where
  station : Nat
  floor : Nat
  state : AmpState
  origin : Option AmpOrigin
  phrase : Option Nat
  number : Option Nat
  phraseTimer : Option Nat
  gen : Option Nat
  gapTimer : Option Nat
  owed : Bool
  slot : Option AmpOrder
deriving DecidableEq, Repr

/-- The Announcement Unit (R135 to R157). -/
structure Announce where
  clock : Clock
  days : Table Nat
  programme : Table Step
  closing : ClosingState
  startTime : Option Nat
  nextStep : Option Nat
  waitGen : Bool
  waitFloors : FloorSet
  chimes : Table Chime
  gen0 : Option Playing
  gen1 : Option Playing
  amps : Table Amp
  counter : Nat
  mark : Bool
deriving DecidableEq, Repr

/-! ## Management Unit (chapter 10) -/

/-- Part modes (R182). -/
inductive Mode where
  | configuring | armed
deriving DecidableEq, Repr

/-- Start causes (R182). -/
inductive StartCause where
  | power | pin
deriving DecidableEq, Repr

/-- The Management Unit (R182, R183) with the part's running time in ticks, the running time of the latest
Arm in seconds (R99), the source of the latest frame taken as from the panel (R191), and the number
of free values drawn (the model's own, log 14). -/
structure Mgmt where
  mode : Mode
  cause : StartCause
  time : Nat
  armedAt : Nat
  lastPanel : Option Nat
  draws : Nat
deriving DecidableEq, Repr

/-- The whole part, and the queue of the commands that are waiting, first in, first out. -/
structure State where
  line : LineUnit
  reg : StationRegister
  pat : Paternoster
  fire : FireUnit
  shut : Table Shutter
  call : CallUnit
  board : Board
  ann : Announce
  mgmt : Mgmt
  pending : List Instr
deriving DecidableEq, Repr

/-- What executing a request gives: the state it leaves, the refusal code, the reply data (R184). -/
structure Result where
  state : State
  code : Code
  data : List Byte
deriving DecidableEq, Repr

/-- Faults: none. The manual describes no condition in which the part stops (INVENTORY, Faults), so no
meaning raises one and the type has no constructor (safe). -/
inductive Fault where
deriving DecidableEq, Repr

/-- Refusals of the model. -/
inductive Refusal where
  /-- Raised by `exec` alone, for a command that has no meaning yet; no arm raises it (safe). -/
  | notModelled (mnemonic : String)
deriving DecidableEq, Repr

/-! ## Values after power-on -/

/-- R169, R181. -/
def LineUnit.reset : LineUnit :=
  { orders := [], reports := [], reply := none, veto := none, vetoMark := false, portA := none,
    portB := .free, orderRun := 0, localRun := 0, requestOverrun := false, forwardOverflow := false,
    reportOverflow := false, stranger := none, cycle := 0, position := none }

/-- R158, R160, R169. -/
def StationRegister.reset : StationRegister :=
  { stations := [], settings := none, panelLost := false, panelTimer := none, lostTime := none,
    awaySecs := none, panelMark := false }

/-- The chain record's starting value (R3). -/
abbrev Chain.start : Chain := { position := none, motion := .none, fault := false, lastMove := 0 }

/-- R1, R2, R31. -/
def Paternoster.reset : Paternoster :=
  { geometry := none, landings := [], state := .unknown, chain := Chain.start, revs := none,
    remembered := none, start := none, stop := none, removed := [], causes := 0, fireStop := 0,
    trips := [], stopTimer := none, resumeTimer := none, slot := none, mark := false }

/-- R44 to R47, R67. -/
def FireUnit.reset : FireUnit :=
  { detectors := [], callPoints := [], zones := [], settings := none, silence := false }

/-- R96 to R98, R121. -/
def CallUnit.reset : CallUnit :=
  { pushes := [], patterns := [], ringers := [], counter := 1, calls := [], queue := [], nextSeq := 0,
    closingLevel := 0, fireLevel := 0, fireRound := 0, fireTimer := none, listFull := false,
    lastIgnored := none, mark := false }

/-- The board pass record's starting value (R134). -/
abbrev PassRecord.start : PassRecord :=
  { number := 0, kind := none, slots := 0, time := 0, degrade := .none, reduced := none }

/-- R122, R123, R134: DARK, flash phase LIT at the start of its first half of 500 ms. -/
def Board.reset : Board :=
  { layout := [], settings := none, image := List.replicate 64 .off, lit := true,
    flashTimer := some (500 * ticksPerMs), mode := .dark, returnMode := none, pass := none,
    record := PassRecord.start, testDone := false, mark := false }

/-- R137, R138, R146, R149, R157. -/
def Announce.reset : Announce :=
  { clock := { set := false, second := 0, weekday := 0, sub := 0 }, days := [], programme := [],
    closing := .waiting, startTime := none, nextStep := none, waitGen := false, waitFloors := 0,
    chimes := [], gen0 := none, gen1 := none, amps := [], counter := 1, mark := false }

/-- R183. -/
def Mgmt.reset (c : StartCause) : Mgmt :=
  { mode := .configuring, cause := c, time := 0, armedAt := 0, lastPanel := none, draws := 0 }

/-- The part afresh after the reset of cause `c` (R183), its command queue empty. -/
def State.afresh (c : StartCause) : State :=
  { line := LineUnit.reset, reg := StationRegister.reset, pat := Paternoster.reset,
    fire := FireUnit.reset, shut := [], call := CallUnit.reset, board := Board.reset,
    ann := Announce.reset, mgmt := Mgmt.reset c, pending := [] }

/-- The part right after power-on (R183). The start cause POWER is the reset's own; the manual has two
resets and the host asks for one: DESIGN CHOICE (unsafe), log 21. -/
def State.reset : State := State.afresh .power

end Sys2Proof.Machine
end

