-- ==== Sys2Proof/Machine/Ops.lean ====
section
/-! DEFINITION. Named operations over tables, sets, the units of the state, time, and the records that
several units read. -/

namespace Sys2Proof.Machine

/-! ## Tables -/

/-- The entry at index `i`, if present. -/
def tget {α : Type} : Table α → Nat → Option α
  | [], _ => none
  | (k, v) :: r, i => if k = i then some v else tget r i

/-- Write the whole entry at index `i`, in rising order of index. -/
def tput {α : Type} : Table α → Nat → α → Table α
  | [], i, v => [(i, v)]
  | (k, w) :: r, i, v =>
    if i < k then (i, v) :: (k, w) :: r else if i = k then (i, v) :: r else (k, w) :: tput r i v

/-- Make the entry at index `i` absent. -/
def tdel {α : Type} : Table α → Nat → Table α
  | [], _ => []
  | (k, w) :: r, i => if k = i then tdel r i else (k, w) :: tdel r i

/-- Change the entry at index `i`, if present. -/
def tmod {α : Type} : Table α → Nat → (α → α) → Table α
  | [], _, _ => []
  | (k, w) :: r, i, f => if k = i then (k, f w) :: tmod r i f else (k, w) :: tmod r i f

/-- Change every present entry. -/
def tmap {α : Type} : Table α → (Nat → α → α) → Table α
  | [], _ => []
  | (k, w) :: r, f => (k, f k w) :: tmap r f

/-- Whether some present entry meets `p`. -/
def tany {α : Type} (t : Table α) (p : α → Bool) : Bool := t.any fun e => p e.2

/-- The indices of the present entries that meet `p`, rising. -/
def tkeys {α : Type} (t : Table α) (p : α → Bool) : List Nat :=
  (t.filter fun e => p e.2).map Prod.fst

/-! ## Sets kept as bit vectors -/

/-- `m` with member `i`. -/
def addBit {n : Nat} (m : BitVec n) (i : Nat) : BitVec n := m ||| BitVec.twoPow n i

/-- `m` without member `i`. -/
def dropBit {n : Nat} (m : BitVec n) (i : Nat) : BitVec n := m &&& ~~~(BitVec.twoPow n i)

/-- The members of `m`, rising. -/
def members {n : Nat} (m : BitVec n) : List Nat := (List.range n).filter fun i => m.getLsbD i

/-- The set of the numbers listed. -/
def ofMembers {n : Nat} (l : List Nat) : BitVec n := l.foldl addBit 0

/-! ## One unit of the state at a time -/

def State.onLine (s : State) (f : LineUnit → LineUnit) : State := { s with line := f s.line }
def State.onReg (s : State) (f : StationRegister → StationRegister) : State := { s with reg := f s.reg }
def State.onPat (s : State) (f : Paternoster → Paternoster) : State := { s with pat := f s.pat }
def State.onFire (s : State) (f : FireUnit → FireUnit) : State := { s with fire := f s.fire }
def State.onShut (s : State) (f : Table Shutter → Table Shutter) : State := { s with shut := f s.shut }
def State.onCall (s : State) (f : CallUnit → CallUnit) : State := { s with call := f s.call }
def State.onBoard (s : State) (f : Board → Board) : State := { s with board := f s.board }
def State.onAnn (s : State) (f : Announce → Announce) : State := { s with ann := f s.ann }
def State.onMgmt (s : State) (f : Mgmt → Mgmt) : State := { s with mgmt := f s.mgmt }

/-- Change zone `z`, if present. -/
def onZone (s : State) (z : Nat) (f : Zone → Zone) : State :=
  s.onFire fun u => { u with zones := tmod u.zones z f }

/-- Change shutter `i`, if present. -/
def onShutter (s : State) (i : Nat) (f : Shutter → Shutter) : State := s.onShut fun t => tmod t i f

/-- Change ringer `r`, if present. -/
def onRinger (s : State) (r : Nat) (f : Ringer → Ringer) : State :=
  s.onCall fun u => { u with ringers := tmod u.ringers r f }

/-- Change the amplifier on floor `f`, if present. -/
def onAmp (s : State) (fl : Nat) (f : Amp → Amp) : State :=
  s.onAnn fun u => { u with amps := tmod u.amps fl f }

/-- Change the station at address `a`, if present. -/
def onStation (s : State) (a : Nat) (f : Station → Station) : State :=
  s.onReg fun u => { u with stations := tmod u.stations a f }

/-! ## Requests -/

/-- A refused request changes nothing (R184). -/
def refuse (s : State) (c : Code) : Result := { state := s, code := c, data := [] }

/-- An accepted request with no reply data leaves `s`. -/
def accept (s : State) : Result := { state := s, code := .ok, data := [] }

/-- Run a request's own conditions only while the part is ARMED; NOT_ARMED otherwise (R184). -/
def whenArmed (s : State) (r : Result) : Result :=
  if s.mgmt.mode = .armed then r else refuse s .notArmed

/-! ## Time -/

/-- `n` seconds in ticks. -/
abbrev secs (n : Nat) : Nat := n * ticksPerSec

/-- The running time: whole seconds from power-on (1.3). -/
def State.now (s : State) : Nat := s.mgmt.time / ticksPerSec

/-- A timer's remaining time in whole seconds, 0 when it is not running. Whole seconds are taken by the
floor: DESIGN CHOICE (unsafe), log 16. -/
def wholeSecs (t : Option Nat) : Nat := t.getD 0 / ticksPerSec

/-! ## What several units read -/

/-- The part mode is ARMED (R182). -/
def State.armed (s : State) : Bool := s.mgmt.mode == .armed

/-- Zone `z` is in FULL_ALARM. -/
def State.zoneFull (s : State) (z : Nat) : Bool :=
  (tget s.fire.zones z).any fun e => e.state == .fullAlarm

/-- Zone `z` is in PRE_ALARM or FULL_ALARM. -/
def State.zoneAlarm (s : State) (z : Nat) : Bool :=
  (tget s.fire.zones z).any fun e => e.state == .fullAlarm || e.state == .preAlarm

/-- Some zone is in FULL_ALARM. -/
def State.anyFull (s : State) : Bool := tany s.fire.zones fun z => z.state == .fullAlarm

/-- The station at address `a` is MISSING in the Station Register. -/
def State.missing (s : State) (a : Nat) : Bool :=
  (tget s.reg.stations a).any fun e => e.presence == .missing

/-- The station at address `a` is PRESENT in the Station Register. -/
def State.present (s : State) (a : Nat) : Bool :=
  (tget s.reg.stations a).any fun e => e.presence == .present

/-- The station table holds address `a` with role `r`. -/
def State.hasRole (s : State) (a : Nat) (r : Role) : Bool :=
  (tget s.reg.stations a).any fun e => e.role == r

/-- The drive station: the station of role DRIVE (R3). -/
def State.driveStation (s : State) : Option Nat :=
  (tkeys s.reg.stations fun e => e.role == .drive).head?

/-- The shutter's zone A or zone B satisfies `p`. -/
def Shutter.inZone (sh : Shutter) (p : Nat → Bool) : Bool := p sh.zoneA || sh.zoneB.any p

/-- Every SHAFT shutter is OPEN (R11). -/
def State.shaftsOpen (s : State) : Bool :=
  s.shut.all fun e => e.2.kind != .shaft || e.2.state == .open

/-- Set the pending mark of the paternoster (R30). -/
def markPat (s : State) : State := s.onPat fun p => { p with mark := true }

/-- Set the pending mark of the call list (R120). -/
def markCalls (s : State) : State := s.onCall fun u => { u with mark := true }

/-- Set the pending mark of the closing (R156). -/
def markClosing (s : State) : State := s.onAnn fun u => { u with mark := true }

end Sys2Proof.Machine
end

