-- ==== Sys2Proof/Machine/Calls.lean ====
section
/-! DEFINITION. The Call Unit (chapter 5): the ring queue and the call list, dispatch to the ringers,
repeat and escalation, fire rings, closing rings, answers and panel rings. -/

namespace Sys2Proof.Machine

/-! ## Levels and states -/

/-- The effective bell level (R103). -/
def CallUnit.level (u : CallUnit) : Nat := max u.closingLevel u.fireLevel

/-- A call's state by R100, from the queue, the ring owed flag, rings done and the bell level. -/
def CallUnit.stateOf (u : CallUnit) (c : Call) : CallState :=
  if c.owed || u.queue.any (fun r => r.origin == .call c.push && r.priority < u.level) then .deferred
  else if c.rings ≥ 1 then .rung
  else .waiting

/-- Recompute the state of every call (R100, R103). -/
def CallUnit.refresh (u : CallUnit) : CallUnit :=
  { u with calls := u.calls.map fun c => { c with state := u.stateOf c } }

/-- The push has a call in the call list. -/
def CallUnit.hasCall (u : CallUnit) (push : Nat) : Bool := u.calls.any fun c => c.push == push

/-- Change the call of a push. -/
def CallUnit.onCallOf (u : CallUnit) (push : Nat) (f : Call → Call) : CallUnit :=
  { u with calls := u.calls.map fun c => if c.push = push then f c else c }

/-! ## The ring queue -/

/-- `a` stands before `b` in queue order (R101). -/
def Req.before (a b : Req) : Bool :=
  a.priority > b.priority ||
    (a.priority == b.priority && (a.age < b.age || (a.age == b.age && a.seq < b.seq)))

/-- Two requests are identical when ringer, pattern and origin agree (R101). -/
def Req.same (a b : Req) : Bool :=
  a.ringer == b.ringer && a.pattern == b.pattern && a.origin == b.origin

/-- Put a request at its place in queue order (R101). -/
def insertReq (r : Req) : List Req → List Req
  | [] => [r]
  | x :: l => if r.before x then r :: x :: l else x :: insertReq r l

/-- Put every request back at the place its priority gives (R101, R111). -/
def reorder (q : List Req) : List Req := q.foldl (fun q r => insertReq r q) []

/-- Mark the call of a CALL request as owed, when its push has a listed call (R102). -/
def CallUnit.owe (u : CallUnit) (r : Req) : CallUnit :=
  match r.origin with
  | .call p => u.onCallOf p fun c => { c with owed := true }
  | _ => u

/-- A request joins, is merged with an identical one, displaces the newest of a lower lowest priority, or
does not join (R101, R102). The newest request of the lowest priority is the last in queue order. A queued
request that a merge raises moves to the place of its new priority: DEDUCED (unsafe), log 35. -/
def CallUnit.join (u : CallUnit) (r : Req) : CallUnit :=
  if u.queue.any r.same then
    { u with queue := reorder (u.queue.map fun x =>
        if r.same x then { x with priority := max x.priority r.priority } else x) }
  else if u.queue.length < Config.ringQueue then
    { u with queue := insertReq r u.queue, mark := true }
  else
    match u.queue.getLast? with
    | none => u
    | some low =>
      if low.priority < r.priority then
        { u with queue := insertReq r u.queue.dropLast, mark := true }.owe low
      else u.owe r

/-- A new request, with its age now and the next number of first joining, joins (R101). -/
def joinNew (ringer pattern priority : Nat) (o : Origin) (s : State) : State :=
  let now := s.now
  s.onCall fun u =>
    { u with nextSeq := u.nextSeq + 1 }.join
      { ringer := ringer, pattern := pattern, priority := priority, origin := o, age := now,
        seq := u.nextSeq }

/-- An identical request is queued, or a ringer is sounding it (R102). -/
def CallUnit.queuedOrSounding (u : CallUnit) (r : Req) : Bool :=
  u.queue.any r.same || u.ringers.any fun e =>
    match e.2.ring with
    | some (.request x) => r.same x
    | _ => false

/-- Re-offer the owed call of one push while the queue has room (R102). -/
def reofferOne (s : State) (push : Nat) : State :=
  match s.call.calls.find? (fun c => c.push == push), tget s.call.pushes push with
  | some c, some p =>
    if c.owed && s.call.queue.length < Config.ringQueue then
      let s1 := s.onCall fun u => u.onCallOf push fun c => { c with owed := false }
      let r : Req := { ringer := p.ringer, pattern := p.pattern, priority := c.priority,
                       origin := .call push, age := 0, seq := 0 }
      if s1.call.queuedOrSounding r then s1
      else joinNew p.ringer p.pattern c.priority (.call push) s1
    else s
  | _, _ => s

/-- Re-offer the owed calls in call-list order (R102). -/
def reoffer (s : State) : State := (s.call.calls.map fun c => c.push).foldl reofferOne s

/-! ## Dispatch -/

/-- The ring timer of a ring: strokes × spacing + 5 s, with spacing in units of 100 ms (R106, R118). -/
def ringTicks (strokes spacing : Nat) : Nat := strokes * spacing * (100 * ticksPerMs) + secs 5

/-- The ring counter advances by 1, from 255 round to 1 (R98). -/
def nextCounter (n : Nat) : Nat := if n ≥ 255 then 1 else n + 1

/-- A ringer takes a request: the request leaves the queue, a Ring order is placed and the ringer is RINGING
(R106), less the re-offer for the departure. -/
def takeReq (i : Nat) (r : Req) (pat : Pattern) (s : State) : State :=
  let n := s.call.counter
  let s1 := s.onCall fun u =>
    { u with queue := u.queue.filter (fun x => !(r.same x)), counter := nextCounter n, mark := true }
  onRinger s1 i fun g =>
    { g with ring := some (.request r), number := some n,
             timer := some (ringTicks pat.strokes pat.spacing),
             slot := some (.ring pat.strokes pat.spacing n) }

/-- A free ringer takes the first request in queue order that names it at or above the effective level, if
any (R106). -/
def dispatchOne (i : Nat) (s : State) : State :=
  match tget s.call.ringers i with
  | none => s
  | some g =>
    if g.ring.isSome || s.missing g.station then s
    else
      match s.call.queue.find? fun r => r.ringer == i && r.priority ≥ s.call.level with
      | none => s
      | some r =>
        match tget s.call.patterns r.pattern with
        | none => s
        | some pat => takeReq i r pat s

/-- One round: the ringers in ascending index, each departure followed by its re-offer (R102, R106). -/
def dispatchRound (s : State) : State :=
  (s.call.ringers.map Prod.fst).foldl
    (fun s i =>
      let s1 := dispatchOne i s
      if s1.call.counter = s.call.counter then s else reoffer s1) s

/-- Rounds until one takes nothing: a request re-offered in a round is itself a dispatch occasion. -/
def dispatchRounds : Nat → State → State
  | 0, s => s
  | n + 1, s =>
    let s1 := dispatchRound s
    if s1.call.counter = s.call.counter then s else dispatchRounds n s1

/-- A dispatch occasion (R106). Every round but the last makes a ringer RINGING, so 17 rounds are enough. -/
def dispatch (s : State) : State := dispatchRounds 17 s

/-- A new request joins, which is a dispatch occasion. -/
def joinAndDispatch (ringer pattern priority : Nat) (o : Origin) (s : State) : State :=
  dispatch (joinNew ringer pattern priority o s)

/-- Requests leave the queue (R102): the owed calls are re-offered, and their joining is a dispatch
occasion. -/
def departures (s : State) : State := dispatch (reoffer s)

/-! ## Ringers -/

/-- The ringer becomes IDLE: ring timer stopped, no ring, no number (R98). -/
def Ringer.idle (g : Ringer) : Ringer := { g with ring := none, number := none, timer := none }

/-- Stop a ringer's ring: the slot is emptied if the Ring order is unsent, or a Ring Cancel is placed if it
was sent, and the ringer becomes IDLE (R112, R114, R115, R116). -/
def Ringer.stop (g : Ringer) : Ringer :=
  { g.idle with slot := match g.slot with
      | some (.ring _ _ _) => none
      | _ => some .cancel }

/-- The priority a ring counts with; a panel ring counts as 7 (R112, R118). -/
def Ring.priority : Ring → Nat
  | .request r => r.priority
  | .panel _ _ => 7

/-- The ring is a request whose origin meets `p`. -/
def Ring.originMeets (p : Origin → Bool) : Ring → Bool
  | .request r => p r.origin
  | .panel _ _ => false

/-- Stop every ringer whose ring's origin meets `p`. -/
def CallUnit.stopFrom (u : CallUnit) (p : Origin → Bool) : CallUnit :=
  { u with ringers := tmap u.ringers fun _ g => if g.ring.any (Ring.originMeets p) then g.stop else g }

/-- Withdraw every queued request whose origin meets `p`. -/
def CallUnit.withdraw (u : CallUnit) (p : Origin → Bool) : CallUnit :=
  let q := u.queue.filter fun r => !p r.origin
  { u with queue := q, mark := u.mark || decide (q.length ≠ u.queue.length) }

/-- A request that was being rung rejoins the queue with its original age (R107, R112, R118). -/
def rejoin (g : Option Ring) (s : State) : State :=
  match g with
  | some (.request r) => s.onCall fun u => u.join r
  | _ => s

/-! ## Pushes, repeat and escalation -/

/-- A call escalates (R111), less the dispatch occasion. An escalated call does not escalate again. -/
def escalate (push : Nat) (s : State) : State :=
  match s.call.calls.find? (fun c => c.push == push) with
  | none => s
  | some c =>
    if c.escalated then s
    else
      let pr := min (c.priority + 1) 6
      let s1 := s.onCall fun u =>
        let u1 := u.onCallOf push fun c =>
          { c with priority := pr, escalated := true, nextRing := none }
        { u1 with
          mark := true,
          queue := reorder (u1.queue.map fun r =>
            if r.origin = .call push then { r with priority := pr } else r) }
      match (tget s.call.pushes push).bind fun p => p.escalation with
      | some (rg, pt) => joinNew rg pt pr (.call push) s1
      | none => s1

/-- A tapped Push report for push entry `i` (R104, R105). The arrival time is the difference of two running
times in whole seconds: DESIGN CHOICE (unsafe), log 36. -/
def pushPressed (i : Nat) (s : State) : State :=
  match tget s.call.pushes i with
  | none => s
  | some p =>
    match s.call.calls.find? (fun c => c.push == i) with
    | some c =>
      let n := min (c.presses + 1) 15
      let s1 := s.onCall fun u => u.onCallOf i fun c => { c with presses := n }
      if n ≥ 3 ∧ !c.escalated then dispatch (escalate i s1) else s1
    | none =>
      let s1 :=
        if s.call.calls.length < Config.callList then
          let c : Call :=
            { push := i, priority := p.priority, arrival := s.now - s.mgmt.armedAt, presses := 1,
              rings := 0, nextRing := none, escalated := false, owed := false, state := .waiting }
          s.onCall fun u => { u with calls := u.calls ++ [c], mark := true }
        else s.onCall fun u => { u with listFull := true, mark := true }
      joinAndDispatch p.ringer p.pattern p.priority (.call i) s1

/-- The ring was of the push's own ringer and pattern (R108, R109). -/
def Push.owns (p : Push) (r : Req) : Bool := p.ringer == r.ringer && p.pattern == r.pattern

/-- The repeat fields of a completed or dropped ring, when it was of the push's own ringer and pattern, the
pattern is REPEAT and the call is not escalated (R108, R109). -/
def repeatOf (s : State) (push : Nat) (r : Req) : Option (Nat × Nat) :=
  match tget s.call.pushes push, s.call.calls.find? (fun c => c.push == push),
      tget s.call.patterns r.pattern with
  | some p, some c, some pat => if p.owns r && !c.escalated then pat.repeating else none
  | _, _, _ => none

/-- What a completed ring does by its origin (R108). -/
def ringCompleted (ring : Ring) (s : State) : State :=
  match ring with
  | .request r =>
    match r.origin with
    | .call push =>
      match s.call.calls.find? (fun c => c.push == push) with
      | none => s
      | some c =>
        let n := min (c.rings + 1) 15
        let s1 := s.onCall fun u => u.onCallOf push fun c => { c with rings := n }
        match repeatOf s push r with
        | none => s1
        | some (interval, limit) =>
          if limit ≠ 0 ∧ n ≥ limit then escalate push s1
          else s1.onCall fun u =>
            { u.onCallOf push fun c => { c with nextRing := some (s.now + interval) } with mark := true }
    | _ => s
  | .panel _ _ => s

/-- A tapped Ring Done for ringer `i` (R108): a number that differs is stale and ignored. -/
def ringDone (i number : Nat) (s : State) : State :=
  match tget s.call.ringers i with
  | none => s
  | some g =>
    match g.ring with
    | none => s
    | some ring =>
      if g.number = some number then dispatch (ringCompleted ring (onRinger s i Ringer.idle)) else s

/-- A ringer's ring timer expires (R109). -/
def ringTimerExpires (i : Nat) (s : State) : State :=
  match tget s.call.ringers i with
  | none => s
  | some g =>
    match g.timer, g.ring with
    | some _, some ring =>
      let s1 := onRinger s i Ringer.idle
      let s2 :=
        match ring with
        | .request r =>
          match r.origin with
          | .call push =>
            match repeatOf s push r with
            | some (interval, _) =>
              s1.onCall fun u => u.onCallOf push fun c => { c with nextRing := some (s.now + interval) }
            | none => s1
          | _ => s1
        | .panel _ _ => s1
      dispatch s2
    | _, _ => s

/-- The running time reaches the next ring time of a push's call (R110). The re-offer of R102 brings in the request of
a call that is owed, so that nothing joins now. -/
def nextRingReached (push : Nat) (s : State) : State :=
  match s.call.calls.find? (fun c => c.push == push), tget s.call.pushes push with
  | some c, some p =>
    if c.nextRing.isSome then
      let s1 := s.onCall fun u => u.onCallOf push fun c => { c with nextRing := none }
      if c.owed then s1 else joinAndDispatch p.ringer p.pattern c.priority (.call push) s1
    else s
  | _, _ => s

/-! ## Fire rings -/

/-- Queue one FIRE request for each present ringer, in index order (R112). Each joining is a dispatch
occasion. -/
def queueFire (pattern : Nat) (s : State) : State :=
  (s.call.ringers.map Prod.fst).foldl (fun s i => joinAndDispatch i pattern 7 .fire s) s

/-- The fire repeat timer's value after a round: the interval of a REPEAT pattern (R113). -/
def fireInterval (s : State) (pattern : Nat) : Option Nat :=
  ((tget s.call.patterns pattern).bind fun p => p.repeating).map fun r => secs r.1

/-- Stop one ringer whose ring has a priority below 7; it takes its dispatch, the stopped request rejoins, and
the owed calls are re-offered after that (R112). -/
def preemptOne (s : State) (i : Nat) : State :=
  match tget s.call.ringers i with
  | none => s
  | some g =>
    match g.ring with
    | none => s
    | some ring =>
      if ring.priority < 7 then
        departures (rejoin g.ring (dispatchOne i (onRinger s i Ringer.stop)))
      else s

/-- What the Call Unit does when a zone enters FULL_ALARM and when a Resound is accepted (R112). -/
def fireRings (s : State) : State :=
  let s1 :=
    match s.fire.settings with
    | none => s
    | some f =>
      let q := queueFire f.pattern s
      q.onCall fun u => { u with fireRound := 1, fireTimer := fireInterval s f.pattern }
  dispatch ((s1.call.ringers.map Prod.fst).foldl preemptOne s1)

/-- A zone's entry to FULL_ALARM in the Call Unit: the fire level is 7 from the entry (R103, R112). -/
def callFullAlarm (s : State) : State := fireRings (s.onCall fun u => { u with fireLevel := 7 })

/-- The fire repeat timer expires (R113). -/
def fireTimerExpires (s : State) : State :=
  match s.call.fireTimer, s.fire.settings with
  | some _, some f =>
    match (tget s.call.patterns f.pattern).bind fun p => p.repeating with
    | some (interval, limit) =>
      if s.anyFull && !s.fire.silence && (limit = 0 || s.call.fireRound < limit) then
        (queueFire f.pattern s).onCall fun u =>
          { u with fireRound := min (u.fireRound + 1) 15, fireTimer := some (secs interval) }
      else s.onCall fun u => { u with fireTimer := none }
    | none => s.onCall fun u => { u with fireTimer := none }
  | _, _ => s.onCall fun u => { u with fireTimer := none }

/-- The FIRE requests and rings are withdrawn (R114), less the departures' re-offer. -/
def withdrawFire (s : State) : State :=
  s.onCall fun u =>
    { (u.withdraw (· == .fire)).stopFrom (· == .fire) with
      fireTimer := none, fireRound := 0, mark := true }

/-- The withdrawal at a Silence: the fire level stays 7 (R114). -/
def callSilence (s : State) : State := departures (withdrawFire s)

/-- The withdrawal when no zone remains in FULL_ALARM: the fire level becomes 0 together with it (R114). -/
def callFireOver (s : State) : State :=
  departures ((withdrawFire s).onCall fun u => { u with fireLevel := 0 })

/-! ## Closing rings and level -/

/-- The closing level becomes `n` (R103): a change of the effective level sets the mark, which a later step of the
same event may undo, and its fall is a dispatch occasion. -/
def setClosingLevel (n : Nat) (s : State) : State :=
  let s1 := s.onCall fun u =>
    { u with closingLevel := n, mark := u.mark || max n u.fireLevel != u.level }
  if s1.call.level < s.call.level then dispatch s1 else s1

/-- The RING step queues one CLOSING request at priority 5 for each present ringer of the mask (R115), in rising
index: DESIGN CHOICE (unsafe), log 56. -/
def closingRings (pattern : Nat) (mask : RingerSet) (s : State) : State :=
  ((s.call.ringers.map Prod.fst).filter fun i => mask.getLsbD i).foldl
    (fun s i => joinAndDispatch i pattern 5 .closing s) s

/-- The closing becomes ABORTED: its requests are withdrawn, its rings stopped and its level becomes 0
(R115, R145). -/
def callClosingAborted (s : State) : State :=
  departures (s.onCall fun u =>
    { (u.withdraw (· == .closing)).stopFrom (· == .closing) with closingLevel := 0 })

/-! ## Answers -/

/-- Remove the calls of `pushes` with the effects of R116; with `all` set, every queued CALL request leaves
too. -/
def removeCalls (pushes : List Nat) (all : Bool) (s : State) : State :=
  let gone := fun o => match o with
    | Origin.call p => all || pushes.contains p
    | _ => false
  let rung := fun o => match o with
    | Origin.call p => pushes.contains p
    | _ => false
  departures (s.onCall fun u =>
    let u1 := (u.withdraw gone).stopFrom rung
    { u1 with
      calls := u1.calls.filter fun c => !pushes.contains c.push,
      listFull := if pushes.any u.hasCall then false else u1.listFull,
      mark := u1.mark || pushes.any u.hasCall })

/-- A named cell or ALL answers no call: it is recorded as the last ignored answer (R116). -/
def ignoreAnswer (cell : Nat) (s : State) : State :=
  s.onCall fun u => { u with lastIgnored := some cell, mark := true }

/-- A tapped Answer report (R116); 64 is ALL. -/
def answer (cell : Nat) (s : State) : State :=
  if cell = 64 then
    if s.call.calls = [] ∧ !(s.call.queue.any fun r => r.origin matches .call _) then ignoreAnswer 64 s
    else removeCalls (s.call.calls.map fun c => c.push) true s
  else
    match tget s.board.layout cell with
    | some (.push p) => if s.call.hasCall p then removeCalls [p] false s else ignoreAnswer cell s
    | _ => ignoreAnswer cell s

/-! ## Panel rings and occasions -/

/-- A panel ring is noted on ringer `i` (R118). -/
def notePanelRing (strokes spacing number : Nat) (s : State) (i : Nat) : State :=
  match tget s.call.ringers i with
  | none => s
  | some g =>
    let s1 := onRinger s i fun g =>
      { g with ring := some (.panel strokes spacing), number := some number,
               timer := some (ringTicks strokes spacing),
               slot := match g.slot with
                 | some (.ring _ _ _) => none
                 | x => x }
    dispatch (rejoin g.ring s1)

/-- A Ring order is discarded at sending: the ring timer stops, the ringer becomes IDLE, and the request
rejoins the queue with its original age (R107). -/
def discardRing (i : Nat) (s : State) : State :=
  match tget s.call.ringers i with
  | none => s
  | some g => dispatch (rejoin g.ring (onRinger s i fun g => { g.idle with slot := none }))

/-- The Call Unit's run-time state at Arm and at Disarm (R121). -/
def CallUnit.rearm (u : CallUnit) : CallUnit :=
  { CallUnit.reset with
    pushes := u.pushes, patterns := u.patterns, counter := u.counter, nextSeq := u.nextSeq, mark := true,
    ringers := tmap u.ringers fun _ g => { g.idle with slot := none } }

end Sys2Proof.Machine
end

