-- ==== Sys2Proof/Machine/Chain.lean ====
section
/-! DEFINITION. Chain arithmetic (chapter 2): clearance, the stop-target search and the reduction of its
set, forward moves, wraps and crossing counts. -/

namespace Sys2Proof.Machine

/-- `x mod p` from 0 to `p - 1`, also for negative `x` (00_scope, "Numbers and units"). -/
def wrapMod (x : Int) (p : Nat) : Nat := (x % (p : Int)).toNat

/-- Loop length L = N × P (R1). -/
def Geometry.loop (g : Geometry) : Nat := g.cars * g.pitch

/-- Blocking width W = C + 2M (R1). -/
def Geometry.width (g : Geometry) : Nat := g.carLength + 2 * g.margin

/-- A side at position `side` is blocked at chain position `q` (R33). -/
def sideBlocked (g : Geometry) (side q : Nat) : Bool :=
  wrapMod ((q : Int) - side + g.margin) g.pitch < g.width

/-- A landing is clear at `q` when both its sides are (R34). -/
def landingClear (g : Geometry) (l : Landing) (q : Nat) : Bool :=
  !sideBlocked g l.up q && !sideBlocked g l.down q

/-- The least `t` from 0 to P - 1 at which every landing of the set is clear at `q + t` (R35). -/
def firstClear (g : Geometry) (set : Table Landing) (q : Nat) : Option Nat :=
  (List.range g.pitch).find? fun t => set.all fun e => landingClear g e.2 (q + t)

/-- `a` is removed before `b`: the lower rank, and among equal ranks the higher floor (R37). -/
def removedBefore (a b : Nat × Landing) : Bool :=
  a.2.rank < b.2.rank || (a.2.rank == b.2.rank && a.1 > b.1)

/-- The floor R37 removes next from a set. -/
def nextRemoved : Table Landing → Option (Nat × Landing)
  | [] => none
  | e :: r =>
    match nextRemoved r with
    | none => some e
    | some b => some (if removedBefore e b then e else b)

/-- The search of R35 with the reduction of R37: `t`, and the floors removed in order. The fuel is one
more than the size of the set, which R37 shows to be enough. -/
def searchTarget (g : Geometry) (q : Nat) : Nat → Table Landing → List Nat → Nat × List Nat
  | 0, _, removed => (0, removed)
  | fuel + 1, set, removed =>
    match firstClear g set q with
    | some t => (t, removed)
    | none =>
      match nextRemoved set with
      | none => (0, removed)
      | some e => searchTarget g q fuel (tdel set e.1) (removed ++ [e.1])

/-- The landings of a searched set: the rest set, or the landings of the fire stop set (R13, R17, R36). -/
def searchedLandings (p : Paternoster) : SearchSet → Table Landing
  | .rest => p.landings.filter fun e => e.2.restClear
  | .fire => p.landings.filter fun e => p.fireStop.getLsbD e.1

/-- The stop target (p + B + t) mod L with the removed landings (R36, R37). The chain record's position is
present whenever the Monitor searches (R35); the model reads an absent one as 0 (log 24). -/
def stopTarget (g : Geometry) (p : Paternoster) (k : SearchSet) : Nat × List Nat :=
  let q := p.chain.position.getD 0 + g.braking
  let set := searchedLandings p k
  let r := searchTarget g q (set.length + 1) set []
  ((q + r.1) % g.loop, r.2)

/-- The forward distance D = (p2 - p1) mod L (R39). -/
def forwardDistance (g : Geometry) (p1 p2 : Nat) : Nat := wrapMod ((p2 : Int) - p1) g.loop

/-- How a report's position is read against the recorded one (R39, R40). -/
structure Move where
  distance : Nat
  position : Nat
  wrap : Bool
deriving DecidableEq, Repr

/-- The forward distance taken, the record's new position, and whether the report is a wrap (R39, R40). -/
def readMove (g : Geometry) (record : Option Nat) (p2 : Nat) : Move :=
  match record with
  | none => { distance := 0, position := p2, wrap := false }
  | some p1 =>
    let d := forwardDistance g p1 p2
    if d ≤ g.loop - g.pitch then { distance := d, position := p2, wrap := p2 < p1 }
    else { distance := 0, position := p1, wrap := false }

/-- The crossing count floor(((p1 - s) mod P + D) / P) of a side (R41). -/
def crossings (g : Geometry) (side p1 d : Nat) : Nat :=
  (wrapMod ((p1 : Int) - side) g.pitch + d) / g.pitch

/-- The difference δ of a reported beam count and E, from -128 to 127 (R42). -/
def beamDelta (reported expected : Nat) : Int :=
  let r := wrapMod ((reported : Int) - expected) 256
  if r ≤ 127 then (r : Int) else (r : Int) - 256

/-- A side's record at a Chain report: E advances by the crossings (R41), and a SETTLING side adds the
distance to its travel, up to P, where it enters CHECKING (R28). -/
def Beam.advance (g : Geometry) (side : Nat) (p1 : Option Nat) (d : Nat) (b : Beam) : Beam :=
  let c := match p1 with
    | none => 0
    | some q => crossings g side q d
  let b := { b with expected := (b.expected + c) % 256 }
  if b.settling then
    let t := min (b.travel + d) g.pitch
    { b with travel := t, settling := decide (t < g.pitch) }
  else b

/-- A side enters SETTLING with travel 0 and miss count 0 (R28). -/
def Beam.resettle (b : Beam) : Beam := { b with settling := true, travel := 0, miss := 0 }

/-- A side's record at a Landing report with the count `reported`, and whether its miss count reached K
(R29). -/
def Beam.compare (k reported : Nat) (b : Beam) : Beam × Bool :=
  if b.settling then ({ b with expected := reported }, false)
  else
    let d := beamDelta reported b.expected
    if -1 ≤ d ∧ d ≤ 1 then ({ b with miss := 0 }, false)
    else if b.miss + 1 ≥ k then ({ b with miss := 0 }, true)
    else ({ b with miss := b.miss + 1 }, false)

end Sys2Proof.Machine
end

