-- ==== Sys2Proof/Machine/Monitor.lean ====
section
/-! DEFINITION. The Paternoster Monitor's own operations on its records (chapter 1): the drive order slot,
locking, stops, and the landing judgment. -/

namespace Sys2Proof.Machine

/-- The member number of a lock cause (R194). -/
def LockCause.index : LockCause → Nat
  | .fire => 0 | .slip => 1 | .emergency => 2 | .driveFault => 3
  | .driveMissing => 4 | .guardLimit => 5 | .stopTimeout => 6

/-- Add a cause to the lock-cause set. -/
def Paternoster.addCause (p : Paternoster) (c : LockCause) : Paternoster :=
  { p with causes := addBit p.causes c.index }

/-- Place an order in the drive order slot: it replaces an unsent order, but an unsent Cut is replaced by
no Halt, Stop-At or Run (R7). -/
def Paternoster.place (p : Paternoster) (o : DriveOrder) : Paternoster :=
  if p.slot = some .cut ∧ o ≠ .cut then p else { p with slot := some o }

/-- Withdraw an unsent Stop-At from the drive order slot (R12, R15). -/
def Paternoster.withdrawStopAt (p : Paternoster) : Paternoster :=
  match p.slot with
  | some (.stopAt _) => { p with slot := none }
  | _ => p

/-- Enter LOCKED, or add the cause when LOCKED already (R6). `none` is an entry with the causes already
held (R8 case 2). -/
def Paternoster.lock (p : Paternoster) (c : Option LockCause) : Paternoster :=
  let p1 := match c with
    | none => p
    | some c => p.addCause c
  if p.state = .locked then p1
  else
    let p2 := if p.state = .stopping ∨ p.fireStop ≠ 0 then p1.addCause .fire else p1
    { p2 with state := .locked, stopTimer := none, resumeTimer := none, revs := none,
              remembered := none, start := none, stop := none }

/-- Begin or renew a stop over the searched set `k`, entering state `entered`: the target is searched (R35 to
R37), a Stop-At carrying it is placed, the stop timer starts afresh and the revolutions remaining are
dropped (R9, R13, R17, R18, R27). An empty rest set places a Halt, and the stop has no target. -/
def Paternoster.beginStop (p : Paternoster) (k : SearchSet) (entered : PatState) : Paternoster :=
  match p.geometry with
  | none => p
  | some g =>
    let p1 := { p with state := entered, revs := none, stopTimer := some (secs g.stopTimeout) }
    if k = .rest ∧ searchedLandings p .rest = [] then
      { p1.place .halt with stop := some { target := none, searched := none, halted := false } }
    else
      let r := stopTarget g p k
      { p1.place (.stopAt r.1) with
        removed := r.2, stop := some { target := some r.1, searched := some k, halted := false } }

/-- A Halt has reached the stop: its target becomes none and it is halted (R12, R14, R21, R36). -/
def Paternoster.haltStop (p : Paternoster) : Paternoster :=
  { p with stop := some { target := none, searched := none, halted := true } }

/-- The stop in flight is halted (R14). -/
def Paternoster.stopHalted (p : Paternoster) : Bool := p.stop.any fun r => r.halted

/-- Results of the landing judgment (R19). -/
inductive Judgment where
  | clear | blocked | notStopped
deriving DecidableEq, Repr

/-- The landing judgment (R19): CLEAR or BLOCKED when the latest report shows STOPPED in IDLE, HELD or
LOCKED, NOT_STOPPED otherwise. -/
def Paternoster.judge (p : Paternoster) (floor : Nat) : Judgment :=
  if p.chain.motion = .stopped ∧ (p.state = .idle ∨ p.state = .held ∨ p.state = .locked) then
    match p.geometry, tget p.landings floor, p.chain.position with
    | some g, some l, some q => if landingClear g l q then .clear else .blocked
    | _, _, _ => .notStopped
  else .notStopped

/-- The landing judgment for a shutter's landing. -/
def Paternoster.judgeShutter (p : Paternoster) (sh : Shutter) : Judgment :=
  match sh.landing with
  | none => .notStopped
  | some f => p.judge f

/-- Every guard record is CLEAR (R22). -/
def Paternoster.guardsClear (p : Paternoster) : Bool := !tany p.landings fun l => l.tripped

/-- In HELD the resume timer starts whenever it is not running while the latest report shows STOPPED and
every guard record is CLEAR (R22). -/
def Paternoster.tryResumeTimer (p : Paternoster) : Paternoster :=
  match p.geometry with
  | none => p
  | some g =>
    if p.state = .held ∧ p.resumeTimer = none ∧ p.chain.motion = .stopped ∧ p.guardsClear then
      { p with resumeTimer := some (secs g.resumeDelay) }
    else p

/-- A start of movement puts every side of every landing into SETTLING with travel 0 (R9, R28). -/
def Paternoster.resettleAll (p : Paternoster) : Paternoster :=
  { p with landings := tmap p.landings fun _ l =>
      { l with upBeam := l.upBeam.resettle, downBeam := l.downBeam.resettle } }

/-- The Monitor's run-time records at Arm and at Disarm (R31). -/
def Paternoster.rearm (p : Paternoster) : Paternoster :=
  { Paternoster.reset with
    geometry := p.geometry, mark := true,
    landings := tmap p.landings fun _ l =>
      { l with tripped := false, stopSwitch := false, upBeam := Beam.start, downBeam := Beam.start } }

end Sys2Proof.Machine
end

