-- ==== Sys2Proof/Machine/Shutters.lean ====
section
/-! DEFINITION. Changes of one shutter's run-time record (chapter 4). Each takes the record and, where
a landing judgment is asked for, the Monitor's records. -/

namespace Sys2Proof.Machine

/-- Place an order in the shutter's order slot; it replaces an unsent one (R69). -/
def Shutter.place (sh : Shutter) (o : ShutterOrder) : Shutter := { sh with slot := some o }

/-- Enter DESCENDING with the travel timer started (R74); the order slot is left to the rule. -/
def Shutter.descend (sh : Shutter) : Shutter :=
  { sh with state := .descending, timer := some (secs sh.travelLimit), obstruction := none,
            fault := none, prior := none }

/-- Place a Drop and enter DESCENDING (R78, R79, R83, R85). -/
def Shutter.drop (sh : Shutter) : Shutter := (sh.place .drop).descend

/-- Enter AWAIT_CLEAR (R81); the order slot is left to the rule. The mark is set here, because a judgment
BLOCKED of the same event may put the shutter back where it was (R72, R76). -/
def Shutter.await (sh : Shutter) : Shutter :=
  { sh with state := .awaitClear, timer := none, obstruction := none, fault := none, prior := none,
            mark := true }

/-- Enter OBSTRUCTED with obstruction CAR; there is no retry timer (R80). -/
def Shutter.obstructCar (sh : Shutter) : Shutter :=
  { sh with state := .obstructed, timer := none, obstruction := some .car, fault := none, prior := none }

/-- Enter OBSTRUCTED with obstruction JAM: a DEPARTMENT shutter with reason FIRE, NIGHT or MANUAL starts
its retry timer with 10 s (R83); a SHAFT shutter does not retry by itself (R84). -/
def Shutter.obstructJam (sh : Shutter) : Shutter :=
  { sh with state := .obstructed, obstruction := some .jam, fault := none, prior := none,
            timer := if sh.kind = .department ∧ sh.reason ≠ .none then some (secs 10) else none }

/-- Enter CLOSED (R72); the reason is kept. -/
def Shutter.close (sh : Shutter) : Shutter :=
  { sh with state := .closed, timer := none, attempts := 0, obstruction := none, fault := none,
            prior := none }

/-- Enter OPEN, less the release R72 adds while a zone is in FULL_ALARM. -/
def Shutter.toOpen (sh : Shutter) : Shutter :=
  { sh with state := .open, reason := .none, attempts := 0, timer := none, obstruction := none,
            fault := none, prior := none }

/-- Enter FAULTED with cause `c` (R72). -/
def Shutter.toFaulted (sh : Shutter) (c : FaultCause) : Shutter :=
  { sh with state := .faulted, timer := none, slot := none, prior := none, obstruction := none,
            fault := some c }

/-- The warn-expiry step (R78, R79), less the hand-over to the Monitor that R81 adds when the shutter
returns to AWAIT_CLEAR for FIRE. The judgment asked for acts on this shutter alone: DEDUCED (unsafe), log 47. -/
def Shutter.warnExpiry (p : Paternoster) (sh : Shutter) : Shutter :=
  match sh.kind with
  | .department => sh.drop
  | .shaft =>
    match p.judgeShutter sh with
    | .clear => sh.drop
    | .blocked => sh.obstructCar
    | .notStopped => sh.await

/-- Enter WARNING (R77): a Warn is placed and the warn timer starts, or with a warn time of 0 the shutter
passes through WARNING and takes the warn-expiry step at once. A SHAFT shutter enters WARNING only on
a judgment CLEAR of the same moment, so that step does not find NOT_STOPPED. -/
def Shutter.warn (p : Paternoster) (sh : Shutter) : Shutter :=
  let sh1 := { sh with state := .warning, obstruction := none, fault := none, prior := none, timer := none }
  if sh.warnTime = 0 then sh1.warnExpiry p
  else { sh1.place .warn with timer := some (secs sh.warnTime) }

/-- The shutter waits in AWAIT_CLEAR, or in OBSTRUCTED because of a car (R20, R80). -/
def Shutter.waits (sh : Shutter) : Bool :=
  sh.kind == .shaft &&
    (sh.state == .awaitClear || (sh.state == .obstructed && sh.obstruction == some .car))

/-- A landing judgment handed over acts on a SHAFT shutter of the landing (R80). -/
def Shutter.hand (p : Paternoster) (j : Judgment) (sh : Shutter) : Shutter :=
  if sh.waits then
    match j with
    | .clear => sh.warn p
    | .blocked => if sh.state = .awaitClear then sh.obstructCar else sh
    | .notStopped => sh
  else sh

/-- Hand the judgment of landing `f` to every SHAFT shutter of that landing (R80). -/
def handLanding (p : Paternoster) (f : Nat) (t : Table Shutter) : Table Shutter :=
  tmap t fun _ sh => if sh.landing = some f then sh.hand p (p.judge f) else sh

/-- The state a raise began from (R69). -/
def Shutter.priorNow (sh : Shutter) : Prior :=
  match sh.state, sh.obstruction, sh.fault with
  | .obstructed, some o, _ => .obstructed o
  | .faulted, _, some c => .faulted c
  | _, _, _ => .closed

/-- Enter RAISING with the travel timer started; the prior state records the state left (R87). The order
slot is left to the rule. -/
def Shutter.toRaising (sh : Shutter) : Shutter :=
  { sh with state := .raising, prior := some sh.priorNow, timer := some (secs sh.travelLimit),
            obstruction := none, fault := none }

/-- A shutter in RAISING returns to its prior state with the travel timer stopped, by the entry effects of
that state; a jammed DEPARTMENT shutter's retry timer starts afresh (R72, R83, R88). -/
def Shutter.returnPrior (sh : Shutter) : Shutter :=
  match sh.prior with
  | some .closed => sh.close
  | some (.obstructed .car) => sh.obstructCar
  | some (.obstructed .jam) => sh.obstructJam
  | some (.faulted c) => sh.toFaulted c
  | none => sh

/-- A panel Drop that passes notes the record so (R90). -/
def Shutter.notePanelDrop (stationMissing : Bool) (sh : Shutter) : Shutter :=
  if sh.state = .unknown ∨ (sh.state = .faulted ∧ stationMissing) then sh
  else { sh.descend with attempts := 0, reason := if sh.reason = .fire then .fire else .manual }

/-- The shutter's run-time record at Arm and at Disarm (R95). -/
def Shutter.rearm (sh : Shutter) : Shutter :=
  { sh with state := .unknown, reason := .none, obstruction := none, fault := none, timer := none,
            attempts := 0, prior := none, last := none, slot := none, mark := true }

end Sys2Proof.Machine
end

