-- ==== Sys2Proof/Machine/Interlock.lean ====
section
/-! DEFINITION. The shaft interlock: where the Shutter Unit and the Paternoster Monitor act on one another
(R17, R20, R75 to R81), the release for fire, the reports of a shutter station, night closing, and the
loss of a shutter's station. -/

namespace Sys2Proof.Machine

/-- Judge every landing of `floors`, rising, and hand each judgment over (R20). -/
def judgeLandings (floors : List Nat) (s : State) : State :=
  floors.foldl (fun s f => s.onShut (handLanding s.pat f)) s

/-- The floors whose landing has a SHAFT shutter waiting or obstructed by a car (R20 occasion 2). -/
def waitingFloors (s : State) : List Nat :=
  (List.range 8).filter fun f => s.shut.any fun e => e.2.landing == some f && e.2.waits

/-- Judge every landing of the fire stop set at once and lock with FIRE (R8 case 3, R10, R15, R17). The
judgments are taken in LOCKED at the recorded position. -/
def lockAndJudge (s : State) : State :=
  let s1 := s.onPat fun p => p.lock (some .fire)
  judgeLandings (members s1.pat.fireStop) s1

/-- A landing is added to the fire stop set (R17). R17 has no row for IDLE with the latest report MOVING; the
landing is then added alone: DESIGN CHOICE (unsafe), log 33. -/
def addLanding (f : Nat) (s : State) : State :=
  if s.pat.fireStop.getLsbD f then s
  else
    let s1 := markPat (s.onPat fun p => { p with fireStop := addBit p.fireStop f })
    match s1.pat.state with
    | .unknown => s1
    | .running | .runout => s1.onPat fun p => p.beginStop .fire .stopping
    | .resting =>
      if s1.pat.stopHalted then s1.onPat fun p => { p with state := .stopping }
      else s1.onPat fun p => p.beginStop .fire .stopping
    | .stopping =>
      if s1.pat.stopHalted then s1 else s1.onPat fun p => p.beginStop .fire .stopping
    | .idle | .held =>
      if s1.pat.chain.motion = .stopped then lockAndJudge s1 else s1
    | .locked =>
      if s1.pat.chain.motion = .stopped then lockAndJudge s1 else s1.onPat fun p => p.addCause .fire

/-- What follows an entry into AWAIT_CLEAR (R81): with reason FIRE the landing is handed to the Monitor;
with another reason the landing judgment is asked for and acts at once on each SHAFT shutter of the landing that
waits (R20 occasion 3, R80). -/
def awaitEntered (i : Nat) (s : State) : State :=
  match tget s.shut i with
  | none => s
  | some sh =>
    if sh.state = .awaitClear then
      match sh.landing with
      | none => s
      | some f =>
        if sh.reason = .fire then addLanding f s
        else s.onShut (handLanding s.pat f)
    else s

/-- Put a SHAFT shutter into AWAIT_CLEAR with reason `r` (R81). -/
def enterAwait (i : Nat) (r : Reason) (s : State) : State :=
  awaitEntered i (onShutter s i fun sh => { sh.await with reason := r })

/-- A release for FIRE acts by the shutter's state and kind (R76). -/
def release (i : Nat) (s : State) : State :=
  match tget s.shut i with
  | none => s
  | some sh =>
    let fired := onShutter s i fun sh => { sh with reason := .fire }
    match sh.state, sh.kind with
    | .unknown, _ => s
    | .open, .department => onShutter fired i fun sh => sh.warn s.pat
    | .open, .shaft => enterAwait i .fire s
    | .awaitClear, .department => s
    | .awaitClear, .shaft => if sh.reason = .fire then s else awaitEntered i fired
    | .warning, _ | .descending, _ | .closed, _ | .faulted, _ => fired
    | .raising, .department => onShutter fired i fun sh => sh.drop
    | .raising, .shaft =>
      enterAwait i .fire
        (onShutter s i fun sh => { sh with slot := if sh.slot = some .raise then none else sh.slot })
    | .obstructed, .department =>
      onShutter fired i fun sh =>
        { sh with timer := if sh.timer = none then some (secs 10) else sh.timer }
    | .obstructed, .shaft => if sh.obstruction = some .car then enterAwait i .fire s else fired

/-- Release shutter `i` if zone A or zone B is in FULL_ALARM (R71, R72, R75). -/
def releaseIfAlarm (i : Nat) (s : State) : State :=
  match tget s.shut i with
  | none => s
  | some sh => if sh.inZone s.zoneFull then release i s else s

/-- A zone's entry to FULL_ALARM releases the shutters whose zone A or zone B it is (R75), in rising index:
DESIGN CHOICE (unsafe), log 55; R75 gives no order, and with the chain stopped the first one released puts the
landing into the fire stop set and is judged, while a second one of that landing waits (R17). A shutter whose
other zone is in FULL_ALARM and whose reason is already FIRE is left as it is: R75 says that R76 then changes
nothing (log 8). -/
def releaseZone (z : Nat) (s : State) : State :=
  (tkeys s.shut fun sh => sh.inZone (· == z)).foldl
    (fun s i =>
      match tget s.shut i with
      | none => s
      | some sh =>
        if sh.reason = .fire ∧ sh.inZone (fun y => y != z && s.zoneFull y) then s else release i s) s

/-- The first report after Arm or after the station's return takes the shutter out of UNKNOWN (R71). -/
def Shutter.leaveUnknown (v : Position) (sh : Shutter) : Shutter :=
  let sh := { sh with reason := .none }
  match v with
  | .open => sh.toOpen
  | .closed => sh.close
  | .lowering | .part | .raising => sh.toFaulted .unexpectedReport
  | .jammed => sh.obstructJam

/-- A report acts by the shutter's state and the report's value (R73), less the release that entering OPEN
adds. -/
def Shutter.onReport (v : Position) (sh : Shutter) : Shutter :=
  let unexpected := sh.toFaulted .unexpectedReport
  match sh.state, v with
  | .open, .closed => { sh.close with reason := .manual }
  | .open, .lowering | .open, .part | .open, .jammed => unexpected
  | .awaitClear, .closed | .warning, .closed | .descending, .closed | .obstructed, .closed => sh.close
  | .awaitClear, .lowering | .awaitClear, .part | .awaitClear, .jammed => unexpected
  | .warning, .lowering | .warning, .raising | .warning, .part | .warning, .jammed => unexpected
  | .descending, .raising => unexpected
  | .descending, .part | .descending, .jammed => sh.obstructJam
  | .closed, .open | .raising, .open => sh.toOpen
  | .closed, .raising | .closed, .part | .closed, .jammed => unexpected
  | .raising, .lowering | .raising, .part | .raising, .jammed => unexpected
  | _, _ => sh

/-- A tapped Shutter Position report for shutter `i` (R70, R71, R73). -/
def shutterReport (i : Nat) (v : Position) (s : State) : State :=
  match tget s.shut i with
  | none => s
  | some sh =>
    let s1 := onShutter s i fun sh => { sh with last := some v }
    if sh.state = .unknown then releaseIfAlarm i (onShutter s1 i (Shutter.leaveUnknown v))
    else
      let s2 := onShutter s1 i (Shutter.onReport v)
      if v = .open ∧ (sh.state = .closed ∨ sh.state = .raising) then releaseIfAlarm i s2 else s2

/-- The NIGHT step (R86): every OPEN shutter with the night flag on a floor of the mask. -/
def nightStep (floors : FloorSet) (s : State) : State :=
  (tkeys s.shut fun sh => sh.night && floors.getLsbD sh.floor && sh.state == .open).foldl
    (fun s i =>
      match tget s.shut i with
      | none => s
      | some sh =>
        match sh.kind with
        | .department => onShutter s i fun sh => { sh with reason := Reason.night }.warn s.pat
        | .shaft => enterAwait i .night s) s

/-- A shutter's station goes MISSING (R93). -/
def Shutter.stationLost (sh : Shutter) : Shutter :=
  if sh.state = .unknown then sh else sh.toFaulted .stationMissing

/-- A shutter's station returns (R93): UNKNOWN, the reason kept until the first report. -/
def Shutter.stationBack (sh : Shutter) : Shutter :=
  { sh with state := .unknown, fault := none, obstruction := none, prior := none, timer := none,
            last := none }

end Sys2Proof.Machine
end

