-- ==== Sys2Proof/Machine/Paternoster.lean ====
section
/-! DEFINITION. What the Paternoster Monitor does at a Chain report, a Landing report, a zone's entry to
FULL_ALARM, the loss of the drive, its timers, and the orders and requests that concern the chain
(chapter 1). -/

namespace Sys2Proof.Machine

/-- A start of movement (R9). A start without a start record is unbidden and sets the mark. -/
def startOfMovement (s : State) : State :=
  let intended := s.pat.start
  let s1 := s.onPat fun p => { p.resettleAll with start := none, mark := p.mark || intended.isNone }
  if s.pat.fireStop ≠ 0 then s1.onPat fun p => p.beginStop .fire .stopping
  else if s.anyFull then s1.onPat fun p => p.beginStop .rest .stopping
  else
    match intended with
    | some (.runout r) => s1.onPat fun p => { p with state := .runout, revs := some r }
    | _ => s1.onPat fun p => { p with state := .running }

/-- The first tapped Chain report after Arm (R8), with the floors judged by R20 occasion 1. -/
def firstReport (moving fault : Bool) (s : State) : State × FloorSet :=
  let s0 := markPat s
  if fault then (s0.onPat fun p => (p.place .halt).lock (some .driveFault), 0)
  else if s.pat.causes ≠ 0 then
    (s0.onPat fun p => (if moving then p.place .halt else p).lock none, 0)
  else if !moving && s.pat.fireStop != 0 then (lockAndJudge s0, s.pat.fireStop)
  else if moving then (startOfMovement s0, 0)
  else (s0.onPat fun p => { p with state := .idle }, 0)

/-- An arrival ends the stop (R15), with the floors judged by the stop's own judgment. -/
def arrival (s : State) : State × FloorSet :=
  if s.pat.state = .stopping then
    let s1 := lockAndJudge s
    (s1.onPat fun p => p.withdrawStopAt, s.pat.fireStop)
  else
    (s.onPat fun p => { p.withdrawStopAt with state := .idle, stopTimer := none, stop := none }, 0)

/-- Run-out counting at a MOVING report (R27): a wrap counts one revolution, and at 0 remaining the Monitor
acts as for a Rest order. -/
def countRevolution (wrap : Bool) (s : State) : State :=
  if wrap then
    match s.pat.revs with
    | some (r + 2) => markPat (s.onPat fun p => { p with revs := some (r + 1) })
    | _ => markPat (s.onPat fun p => p.beginStop .rest .resting)
  else s

/-- A Chain report of condition NORMAL acts on the state through its motion (R10); the floors are those
judged by R20 occasion 1. -/
def normalReport (moving wrap : Bool) (s : State) : State × FloorSet :=
  match s.pat.state, moving with
  | .unknown, _ => (s, 0)
  | .idle, true => (startOfMovement s, 0)
  | .idle, false => (s, 0)
  | .running, true => (s, 0)
  | .running, false => (s.onPat fun p => { p with state := .idle, start := none }, 0)
  | .runout, true => (countRevolution wrap s, 0)
  | .runout, false => (s.onPat fun p => { p with state := .idle, revs := none }, 0)
  | .resting, true | .stopping, true => (s, 0)
  | .resting, false | .stopping, false => arrival s
  | .held, true | .locked, true => (s.onPat fun p => p.place .halt, 0)
  | .held, false =>
    let s1 := s.onPat fun p => { p with stopTimer := none }
    if s.pat.fireStop ≠ 0 then (lockAndJudge s1, s.pat.fireStop) else (s1, 0)
  | .locked, false => (s, 0)

/-- A Chain report of condition FAULT acts by state (R24). -/
def faultReport (s : State) : State := s.onPat fun p => (p.place .halt).lock (some .driveFault)

/-- Steps 1 to 4 of a Chain report (R43): move, crossings, settling travel, record. -/
def chainRecord (g : Geometry) (position : Nat) (moving fault : Bool) (p : Paternoster) : Paternoster :=
  let p1 := p.chain.position
  let m := readMove g p1 position
  { p with
    landings := tmap p.landings fun _ l =>
      { l with upBeam := l.upBeam.advance g l.up p1 m.distance
               downBeam := l.downBeam.advance g l.down p1 m.distance },
    chain := { position := some m.position, motion := if moving then .moving else .stopped,
               fault := fault, lastMove := m.distance } }

/-- A tapped Chain report, start to finish (R43); the mark is set as R30 says when the event ends. -/
def chainReport (position : Nat) (moving fault : Bool) (s : State) : State :=
  match s.pat.geometry with
  | none => s
  | some g =>
    let wrap := (readMove g s.pat.chain.position position).wrap
    let s1 := s.onPat (chainRecord g position moving fault)
    let r :=
      if s.pat.state = .unknown then firstReport moving fault s1
      else if fault then (faultReport s1, 0)
      else normalReport moving wrap s1
    let s2 := r.1
    let judged := !moving &&
      (s2.pat.state == .idle || s2.pat.state == .held || s2.pat.state == .locked)
    let s3 :=
      if judged then judgeLandings ((waitingFloors s2).filter fun f => !r.2.getLsbD f) s2 else s2
    s3.onPat fun p => p.tryResumeTimer

/-- G or more of the recorded trip times lie within the guard window ending now (R21). -/
def tripsReachLimit (g : Geometry) (now : Nat) (trips : List Nat) : Bool :=
  g.guardLimit ≤ (trips.filter fun t => now - t < g.guardWindow).length

/-- Add a trip's time to the history; the oldest of 8 leaves when a ninth joins (R21). -/
def addTrip (now : Nat) (trips : List Nat) : List Nat :=
  let l := trips ++ [now]
  l.drop (l.length - Config.tripHistory)

/-- A guard trip acts by state (R21). -/
def guardTrip (s : State) : State :=
  match s.pat.geometry with
  | none => s
  | some g =>
    let s := markPat s
    let trips := addTrip s.now s.pat.trips
    let full := tripsReachLimit g s.now trips
    match s.pat.state with
    | .running | .runout =>
      s.onPat fun p =>
        let p1 := { p.place .halt with trips := trips }
        if full then p1.lock (some .guardLimit)
        else
          { p1 with
            state := .held, revs := none, stopTimer := some (secs g.stopTimeout),
            remembered := some (match p.revs with
              | some r => .runout r
              | none => .running) }
    | .held =>
      s.onPat fun p =>
        let p1 := { p.place .halt with trips := trips, resumeTimer := none }
        if full then p1.lock (some .guardLimit) else p1
    | .resting | .stopping => s.onPat fun p => (p.place .halt).haltStop
    | .idle =>
      if s.pat.start.isSome then s.onPat fun p => { p.place .halt with start := none } else s
    | .unknown | .locked => s

/-- A Landing report whose stop switch is OPERATED acts by state (R23). -/
def stopSwitch (s : State) : State :=
  match s.pat.state with
  | .running | .runout | .resting | .stopping | .held | .idle =>
    s.onPat fun p => (p.place .halt).lock (some .emergency)
  | .locked => s.onPat fun p => p.addCause .emergency
  | .unknown => s.onPat fun p => (p.place .halt).addCause .emergency

/-- A side's miss count has reached K (R29). -/
def slip (s : State) : State :=
  match s.pat.state with
  | .running | .runout | .resting | .stopping | .held | .idle =>
    s.onPat fun p => (p.place .halt).lock (some .slip)
  | .locked => s.onPat fun p => p.addCause .slip
  | .unknown => s

/-- Change the landing on floor `f`. -/
def onLanding (s : State) (f : Nat) (g : Landing → Landing) : State :=
  s.onPat fun p => { p with landings := tmod p.landings f g }

/-- The beam counts of a Landing report for floor `f` (R29): both sides are compared before either can lock. -/
def beamCheck (f up down : Nat) (s : State) : State :=
  match s.pat.geometry, tget s.pat.landings f with
  | some g, some l =>
    let u := l.upBeam.compare g.slipLimit up
    let d := l.downBeam.compare g.slipLimit down
    let s1 := onLanding s f fun l => { l with upBeam := u.1, downBeam := d.1 }
    if u.2 || d.2 then slip s1 else s1
  | _, _ => s

/-- A tapped Landing report for the landing on floor `f` (R4): stop switch, guard, beam counts, and then the
report's guard and stop-switch values are written. -/
def landingReport (f up down : Nat) (tripped operated : Bool) (s : State) : State :=
  match tget s.pat.landings f with
  | none => s
  | some l =>
    let s1 := if operated then stopSwitch s else s
    let s2 := if tripped && !l.tripped then guardTrip s1 else s1
    let s3 := beamCheck f up down s2
    let s4 := onLanding s3 f fun l => { l with tripped := tripped, stopSwitch := operated }
    s4.onPat fun p => p.tryResumeTimer

/-- The Monitor's own reaction to a zone's entry to FULL_ALARM (R18). -/
def monitorFullAlarm (s : State) : State :=
  match s.pat.state with
  | .running | .runout => s.onPat fun p => p.beginStop .rest .stopping
  | .resting => s.onPat fun p => { p with state := .stopping }
  | .held => s.onPat fun p => p.lock (some .fire)
  | .idle | .stopping | .locked | .unknown => s

/-- The drive station goes MISSING (R25). -/
def driveMissing (s : State) : State :=
  s.onPat fun p =>
    let p1 := { p with slot := none, chain := { p.chain with motion := .none }, mark := true }
    if p.state = .unknown then p1.addCause .driveMissing else p1.lock (some .driveMissing)

/-- The landing station of floor `f` returns from MISSING (R4, R28). -/
def landingReturns (f : Nat) (s : State) : State :=
  onLanding s f fun l => { l with upBeam := l.upBeam.resettle, downBeam := l.downBeam.resettle }

/-- The stop timer expires (R16). A timer that does not run does not expire (log 3). -/
def stopTimerExpires (s : State) : State :=
  if s.pat.stopTimer.isSome ∧
      (s.pat.state = .resting ∨ s.pat.state = .stopping ∨ s.pat.state = .held) then
    s.onPat fun p => ({ p with stopTimer := none }.place .cut).lock (some .stopTimeout)
  else s

/-- A Run could pass now: no zone in FULL_ALARM, every SHAFT shutter OPEN, the drive station PRESENT (R22). -/
def State.runCouldPass (s : State) : Bool :=
  !s.anyFull && s.shaftsOpen && s.driveStation.any s.present

/-- The resume timer expires in HELD (R22). -/
def resumeTimerExpires (s : State) : State :=
  if s.pat.resumeTimer.isSome ∧ s.pat.state = .held then
    let s1 := s.onPat fun p =>
      { p with state := .idle, resumeTimer := none, remembered := none, start := none }
    if s.runCouldPass then s1.onPat fun p => { p.place .run with start := s.pat.remembered }
    else markPat s1
  else s

/-- The checks of R11 in order; `none` when every check holds. -/
def State.runVeto (s : State) : Option VetoReason :=
  if !s.armed then some .notArmed
  else if s.pat.state ≠ .idle then some .chainNotIdle
  else if s.anyFull then some .fire
  else if !s.shaftsOpen then some .shutterNotOpen
  else if !s.driveStation.any s.present then some .chainNotIdle
  else none

/-- The judgment of a Run at sending (R7, R11): the checks of R11, then that the start record is present. -/
def State.runVetoAtSending (s : State) : Option VetoReason :=
  match s.runVeto with
  | some r => some r
  | none => if s.pat.start.isNone then some .chainNotIdle else none

/-- The Monitor takes note of a passed panel Halt (R12). -/
def noteHalt (s : State) : State :=
  match s.pat.state with
  | .idle => s.onPat fun p => { p with start := none }
  | .resting | .stopping => s.onPat fun p => p.withdrawStopAt.haltStop
  | .running | .runout | .unknown | .held | .locked => s

/-- The closing RUNOUT step (R27). -/
def runoutStep (r : Nat) (s : State) : State :=
  if s.pat.state = .running then s.onPat fun p => { p with state := .runout, revs := some r } else s

/-- An accepted Release Paternoster request (R26). -/
def releaseChain (s : State) : State :=
  s.onPat fun p =>
    { p with state := .idle, causes := 0, fireStop := 0, removed := [], trips := [], slot := none,
             start := none, mark := true }

end Sys2Proof.Machine
end

