-- ==== Sys2Proof/Machine/Announcements.lean ====
section
/-! DEFINITION. The Announcement Unit (chapter 7): amplifiers, tone generators and chimes, the closing
programme, the fire override, and panel Phrase and Gate orders. -/

namespace Sys2Proof.Machine

/-! ## Generators -/

/-- Tone generator `g`, when it is PLAYING. -/
def Announce.gen (u : Announce) : Nat → Option Playing
  | 0 => u.gen0
  | 1 => u.gen1
  | _ => none

/-- Set tone generator `g`. -/
def Announce.setGen (u : Announce) (g : Nat) (p : Option Playing) : Announce :=
  match g with
  | 0 => { u with gen0 := p }
  | 1 => { u with gen1 := p }
  | _ => u

/-- Units of 10 ms in ticks (R149). -/
abbrev tenMs (n : Nat) : Nat := n * (10 * ticksPerMs)

/-- The amplifier's slot holds an unsent Gate on order (R150). -/
def Amp.gateUnsent (a : Amp) : Bool :=
  match a.slot with
  | some (.gateOn _) => true
  | _ => false

/-- A GATING generator enters SOUNDING when no Gate on order for an amplifier of its gated set remains
unsent; the first note of round 1 begins (R150). -/
def trySounding (g : Nat) (s : State) : State :=
  match s.ann.gen g with
  | some p =>
    if p.sounding.isNone &&
        (members p.gated).all fun f => !(tget s.ann.amps f).any Amp.gateUnsent then
      match (tget s.ann.chimes p.chime).bind fun c => c.notes.head? with
      | some n =>
        s.onAnn fun u => u.setGen g (some
          { p with sounding := some { round := 1, note := 0, inGap := false, left := tenMs n.duration } })
      | none => s
    else s
  | none => s

/-- Both tone generators stop: IDLE and silent at once (R151). -/
def stopGenerators (s : State) : State :=
  s.onAnn fun u =>
    { u with gen0 := none, gen1 := none, mark := u.mark || u.gen0.isSome || u.gen1.isSome }

/-- The square wave a tone output carries: the divider and clock of the note that sounds, or silence
(R149, R150). Its frequency is `toneFrequency`. -/
def toneOutput (s : State) (g : Nat) : Option (Nat × NoteClock) :=
  match s.ann.gen g with
  | some p =>
    match p.sounding, tget s.ann.chimes p.chime with
    | some x, some c => if x.inGap then none else (c.notes[x.note]?).bind fun n => n.pitch
    | _, _ => none
  | none => none

/-- Clock frequencies in Hz (R149). -/
def NoteClock.hertz : NoteClock → Nat
  | .mhz1 => 1000000 | .khz250 => 250000 | .khz62 => 62500 | .khz15 => 15625

/-- The frequency in Hz of the square wave of divider `N` and a clock: f_clock / (2 × (N + 1)) (R149). -/
def toneHertz (n : Nat) (c : NoteClock) : Rat := c.hertz / (2 * (n + 1))

/-- The frequency in Hz on a tone output, or silence (R149, R150). -/
def toneFrequency (s : State) (g : Nat) : Option Rat := (toneOutput s g).map fun p => toneHertz p.1 p.2

/-- The length of a chime in ms: the sum of (duration + gap) × 10 ms over its notes, times the repeat count
(R149). -/
def Chime.lengthMs (c : Chime) : Nat :=
  (c.notes.map fun n => (n.duration + n.gap) * 10).sum * c.repeats

/-! ## Amplifiers -/

/-- The amplifier becomes IDLE (R146, R147). -/
def Amp.idle (a : Amp) : Amp :=
  { a with state := .idle, origin := none, phrase := none, number := none, phraseTimer := none, gen := none }

/-- The amplifier on floor `f`, when GATED to a generator, leaves its gated set; the generator's third step
is looked at (R150). -/
def leaveGate (f : Nat) (a : Amp) (s : State) : State :=
  match a.gen with
  | some g =>
    trySounding g (s.onAnn fun u =>
      u.setGen g ((u.gen g).map fun p => { p with gated := dropBit p.gated f }))
  | none => s

/-- Place a Phrase order for the amplifier on floor `f` with the next play number (R146, R147). -/
def placePhrase (f : Nat) (o : AmpOrigin) (phrase : Nat) (s : State) : State :=
  match tget s.ann.amps f with
  | none => s
  | some a =>
    let n := s.ann.counter
    let s1 := onAmp s f fun a =>
      { a with state := .playing, origin := some o, phrase := some phrase, number := some n,
               phraseTimer := some (secs 60), gen := none, gapTimer := none, owed := false,
               slot := some (.phrase phrase n) }
    leaveGate f a (s1.onAnn fun u => { u with counter := nextCounter n })

/-- Place a Gate on order naming generator `g` with origin CLOSING (R147, R150). -/
def Amp.gateOn (g : Nat) (a : Amp) : Amp :=
  { a with state := .gated, origin := some .closing, phrase := none, number := none,
           phraseTimer := none, gen := some g, slot := some (.gateOn g) }

/-- Place a Gate off order; the amplifier becomes IDLE (R147). While its station is MISSING no order is
placed (R148, log 11). -/
def Amp.gateOff (missing : Bool) (a : Amp) : Amp :=
  { a.idle with slot := if missing then a.slot else some .gateOff }

/-- A Gate off order for every amplifier that meets `p` (R145, R151, R152). -/
def gateOffWhere (p : Amp → Bool) (s : State) : State :=
  let off := fun (_ : Nat) (a : Amp) => if p a then a.gateOff (s.missing a.station) else a
  s.onAnn fun u => { u with amps := tmap u.amps off }

/-! ## The fire override -/

/-- The fire phrase of floor `f` (7.5): the evacuation phrase when `f` lies in the evacuation floors mask of
a zone in FULL_ALARM, the alert phrase otherwise. -/
def firePhrase (s : State) (fs : FireSettings) (f : Nat) : Nat :=
  if (tany s.fire.zones fun z => z.state == .fullAlarm && z.evacFloors.getLsbD f) then fs.evacPhrase
  else fs.alertPhrase

/-- The fire override is issuing (R153). -/
def State.issuing (s : State) : Bool := s.anyFull && !s.fire.silence && s.fire.settings.isSome

/-- Give the amplifier on floor `f` its fire phrase (R152, R153). -/
def giveFirePhrase (f : Nat) (s : State) : State :=
  match s.fire.settings with
  | none => s
  | some fs => placePhrase f .fire (firePhrase s fs f) s

/-- The GATED amplifiers that meet R148's "once IDLE" when their gates end: returned from MISSING during the
override, their fire phrase still owed. -/
def owedGated (s : State) : List Nat :=
  tkeys s.ann.amps fun a => a.state == .gated && a.owed && !s.missing a.station

/-- Every GATED amplifier is gated off (R145); while the override is issuing, those that are owed their fire phrase
are then IDLE and are given it at once, in rising floors, and the Gate off is replaced in their slot (R148, log 10). -/
def gatesOff (s : State) : State :=
  (if s.issuing then owedGated s else []).foldl (fun s f => giveFirePhrase f s)
    (gateOffWhere (fun a => a.state == .gated) s)

/-- The fire override starts, or starts again, while the part is ARMED (R152). -/
def fireOverride (s : State) : State :=
  let s1 := markClosing (stopGenerators s)
  match s.fire.settings with
  | none => gateOffWhere (fun a => a.state == .gated) s1
  | some _ =>
    (tkeys s1.ann.amps fun a =>
      !s1.missing a.station && !(a.state == .playing && a.origin == some .fire)).foldl
      (fun s f => giveFirePhrase f s) s1

/-- The override stops issuing: every running gap timer stops (R154). The closing's mark is set whether or not
phrases were being issued: DESIGN CHOICE (unsafe), log 40. -/
def overrideStops (s : State) : State :=
  markClosing (s.onAnn fun u =>
    { u with amps := tmap u.amps fun _ a => { a with gapTimer := none, owed := false } })

/-! ## The closing programme -/

/-- The floors of a step's amplifiers (R143): present amplifiers on the mask's floors whose stations are not
MISSING. -/
def stepAmps (s : State) (floors : FloorSet) : List Nat :=
  (s.ann.amps.filter fun e => floors.getLsbD e.1 && !s.missing e.2.station).map Prod.fst

/-- Of these floors, those whose amplifier is not IDLE. -/
def busyFloors (s : State) (floors : List Nat) : List Nat :=
  floors.filter fun f => (tget s.ann.amps f).any fun a => a.state != .idle

/-- What keeps a step back (R143): whether it waits for a tone generator, and the floors it waits for. -/
def stepWaits (s : State) : StepKind → Bool × FloorSet
  | .chime _ fl =>
    let l := stepAmps s fl
    (!l.isEmpty && s.ann.gen0.isSome && s.ann.gen1.isSome, ofMembers (busyFloors s l))
  | .phrase _ fl => (false, ofMembers (busyFloors s (stepAmps s fl)))
  | _ => (false, 0)

/-- A CHIME step takes the IDLE generator of lower number, gates the step's amplifiers to it, and the third
step of R150 is looked at. -/
def startChime (chime : Nat) (floors : FloorSet) (s : State) : State :=
  let l := stepAmps s floors
  if l.isEmpty then s
  else
    let g := if s.ann.gen0.isNone then 0 else 1
    let s1 := s.onAnn fun u =>
      { u.setGen g (some { chime := chime, gated := ofMembers l, sounding := none }) with mark := true }
    trySounding g (l.foldl (fun s f => onAmp s f (Amp.gateOn g)) s1)

/-- The effect of a taken step by kind (R144). A PHRASE step places its orders in rising floors, and a RING step queues
its requests in rising ringers: DESIGN CHOICE (unsafe), log 56. -/
def stepEffect (k : StepKind) (s : State) : State :=
  match k with
  | .chime c fl => startChime c fl s
  | .phrase n fl => (stepAmps s fl).foldl (fun s f => placePhrase f .closing n s) s
  | .ring p m => closingRings p m s
  | .level n => setClosingLevel n s
  | .runout r => runoutStep r s
  | .night fl => nightStep fl s
  | .finish => s

/-- The closing becomes FINISHED (R143). -/
def finishClosing (s : State) : State :=
  setClosingLevel 0 (s.onAnn fun u =>
    { u with closing := .finished, startTime := none, nextStep := none, waitGen := false,
             waitFloors := 0, mark := true })

/-- The next present step after index `i` (R138, R143). -/
def stepAfter (t : Table Step) (i : Nat) : Option Nat := ((t.map Prod.fst).filter fun j => j > i).head?

/-- The step check (R143). Each pass takes one step; the programme holds at most 32. What keeps a step back is
recorded at a check alone, so that an amplifier that becomes busy in between shows at the next check: DESIGN CHOICE
(unsafe), log 49. -/
def stepChecks : Nat → State → State
  | 0, s => s
  | n + 1, s =>
    match s.ann.closing, s.ann.startTime, s.ann.nextStep with
    | .running, some t0, some i =>
      match tget s.ann.programme i with
      | none => s
      | some st =>
        if s.now - t0 < st.offset then s
        else
          let w := stepWaits s st.kind
          if w.1 || w.2 != 0 then
            s.onAnn fun u =>
              { u with waitGen := w.1, waitFloors := w.2,
                       mark := u.mark || u.waitGen != w.1 || u.waitFloors != w.2 }
          else
            let s1 := stepEffect st.kind (s.onAnn fun u =>
              { u with waitGen := false, waitFloors := 0, mark := true })
            match st.kind, stepAfter s.ann.programme i with
            | .finish, _ | _, none => finishClosing s1
            | _, some j => stepChecks n (s1.onAnn fun u => { u with nextStep := some j })
    | _, _, _ => s

/-- The step check of R143. -/
def stepCheck (s : State) : State := stepChecks 33 s

/-- The closing starts (R142). A programme with no step finishes at once, with no step taken (R140). -/
def startClosing (s : State) : State :=
  match s.ann.programme with
  | [] => finishClosing s
  | (i, _) :: _ =>
    stepCheck (s.onAnn fun u =>
      { u with closing := .running, startTime := some s.now, nextStep := some i, waitGen := false,
               waitFloors := 0, mark := true })

/-- The closing is abandoned (R145); a gated amplifier owed its fire phrase is IDLE then and is given it (R148). -/
def abandonClosing (s : State) : State :=
  let s1 := s.onAnn fun u =>
    { u with closing := .aborted, startTime := none, nextStep := none, waitGen := false,
             waitFloors := 0, mark := true }
  gatesOff (stopGenerators (callClosingAborted s1))

/-- What the Announcement Unit does at a zone's entry to FULL_ALARM (R145, R152): the abandonment of a
running closing, then the override. -/
def annFullAlarm (s : State) : State :=
  fireOverride (if s.ann.closing = .running then abandonClosing s else s)

/-- The automatic start, at the clock's counting into the day's closing minute (R140). -/
def automaticLook (s : State) : State :=
  if s.armed ∧ s.ann.closing = .waiting then
    if s.anyFull then abandonClosing s else startClosing s
  else s

/-! ## What happens to an amplifier -/

/-- A phrase ends, by its Phrase Done or its timer (R147, R153): the amplifier becomes IDLE; during the override
a phrase of origin FIRE starts the gap timer, and a returned amplifier is given its fire phrase at once
(R148). An order still in the slot stays there: DESIGN CHOICE (unsafe), log 45. -/
def phraseEnds (f : Nat) (s : State) : State :=
  match tget s.ann.amps f with
  | none => s
  | some a =>
    let s1 := onAmp s f Amp.idle
    let s2 :=
      if s.issuing && !s.missing a.station then
        if a.owed then giveFirePhrase f s1
        else if a.origin = some .fire then
          onAmp s1 f fun b => { b with gapTimer := s.fire.settings.map fun x => secs x.gap }
        else s1
      else s1
    stepCheck s2

/-- A tapped Phrase Done for floor `f` (R147): a number that differs is stale. -/
def phraseDone (f number : Nat) (s : State) : State :=
  match tget s.ann.amps f with
  | none => s
  | some a => if a.state = .playing ∧ a.number = some number then phraseEnds f s else s

/-- The phrase timer of floor `f` expires (R147). -/
def phraseTimerExpires (f : Nat) (s : State) : State :=
  match tget s.ann.amps f with
  | none => s
  | some a => if a.state = .playing ∧ a.phraseTimer.isSome then phraseEnds f s else s

/-- The gap timer of floor `f` expires (R153). -/
def gapTimerExpires (f : Nat) (s : State) : State :=
  match tget s.ann.amps f with
  | none => s
  | some a =>
    if a.gapTimer.isSome then
      let s1 := onAmp s f fun b => { b with gapTimer := none }
      if s.issuing && !s.missing a.station then giveFirePhrase f s1 else s1
    else s

/-- The station of the amplifier on floor `f` goes MISSING (R148); its floor is then passed over by the step
check (R143). -/
def ampMissing (f : Nat) (s : State) : State :=
  match tget s.ann.amps f with
  | none => s
  | some a =>
    let s1 := onAmp s f fun b =>
      let c := { b with slot := none, gapTimer := none, owed := false }
      if b.state = .gated then c.idle else c
    stepCheck (if a.state = .gated then leaveGate f a s1 else s1)

/-- The station of the amplifier on floor `f` returns from MISSING (R148, log 10). -/
def ampReturns (f : Nat) (s : State) : State :=
  match tget s.ann.amps f with
  | none => s
  | some a =>
    if s.issuing then
      if a.state = .idle then giveFirePhrase f s else onAmp s f fun b => { b with owed := true }
    else s

/-- A passed panel Phrase order is noted on floor `f` (R155). -/
def notePanelPhrase (phrase number : Nat) (s : State) (f : Nat) : State :=
  match tget s.ann.amps f with
  | none => s
  | some a =>
    leaveGate f a (onAmp s f fun b =>
      { b with state := .playing, origin := some .panel, phrase := some phrase, number := some number,
               phraseTimer := some (secs 60), gen := none, gapTimer := none, slot := none })

/-- A passed panel Gate order is noted on floor `f` (R155): 0 is off, 1 and 2 are on to tone output 0 and 1. The
amplifier joins no generator's gated set: DESIGN CHOICE (unsafe), log 50. -/
def notePanelGate (value : Nat) (s : State) (f : Nat) : State :=
  match tget s.ann.amps f with
  | none => s
  | some a =>
    match value with
    | 0 =>
      stepCheck (leaveGate f a (onAmp s f fun b => { b.idle with slot := none, gapTimer := none }))
    | v + 1 =>
      leaveGate f a (onAmp s f fun b =>
        { b with state := .gated, origin := some .panel, phrase := none, number := none,
                 phraseTimer := none, gen := some v, slot := none, gapTimer := none })

/-! ## Chimes -/

/-- The generator stands in the last part of its chime: the last round's last note, in its gap or with a gap
of 0 (R150). -/
def Chime.atEnd (c : Chime) (x : Sounding) : Bool :=
  match c.notes[x.note]? with
  | some n => x.round ≥ c.repeats && x.note + 1 ≥ c.notes.length && (x.inGap || n.gap == 0)
  | none => true

/-- The chime of generator `g` ends (R151). The step check is made once, after the amplifiers and the generator
are IDLE: DESIGN CHOICE (unsafe), log 38. -/
def endChime (g : Nat) (s : State) : State :=
  stepCheck (s.onAnn fun u =>
    { u.setGen g none with
      mark := true,
      amps := tmap u.amps fun _ a =>
        if a.state == .gated && a.gen == some g && a.origin == some .closing then
          a.gateOff (s.missing a.station)
        else a })

/-- Where a SOUNDING generator goes when its note or gap ends, the chime not being over (R150). -/
def Chime.advance (c : Chime) (x : Sounding) : Sounding :=
  let dur := fun (k : Nat) => match c.notes[k]? with
    | some n => tenMs n.duration
    | none => 0
  match c.notes[x.note]? with
  | some n =>
    if !x.inGap && n.gap != 0 then { x with inGap := true, left := tenMs n.gap }
    else if x.note + 1 < c.notes.length then
      { x with note := x.note + 1, inGap := false, left := dur (x.note + 1) }
    else { round := x.round + 1, note := 0, inGap := false, left := dur 0 }
  | none => x

/-- The duration or gap of a note ends (R150). At the end of the last part the chime is over (R151). -/
def noteEnds (g : Nat) (s : State) : State :=
  match s.ann.gen g with
  | some p =>
    match p.sounding, tget s.ann.chimes p.chime with
    | some x, some c =>
      if c.atEnd x then endChime g s
      else s.onAnn fun u => u.setGen g (some { p with sounding := some (c.advance x) })
    | _, _ => s
  | none => s

/-- The chime of generator `g` is over (R150, R151); it can be over only from its last part (log 3). -/
def chimeIsOver (g : Nat) (s : State) : State :=
  match s.ann.gen g with
  | some p =>
    match p.sounding, tget s.ann.chimes p.chime with
    | some x, some c => if c.atEnd x then endChime g s else s
    | _, _ => s
  | none => s

/-- The amplifier's run-time record at Arm and at Disarm (R157). -/
def Amp.rearm (a : Amp) : Amp := { a.idle with gapTimer := none, owed := false, slot := none }

/-- The Announcement Unit's run-time state at Arm and at Disarm (R157). -/
def Announce.rearm (u : Announce) : Announce :=
  { u with closing := .waiting, startTime := none, nextStep := none, waitGen := false, waitFloors := 0,
           gen0 := none, gen1 := none, amps := tmap u.amps fun _ a => a.rearm, mark := true }

end Sys2Proof.Machine
end

