-- ==== Sys2Proof/Machine/Zones.lean ====
section
/-! DEFINITION. The Fire Zone Unit (chapter 3): detectors, call points, zone states, the zone requests, and
faults of detector and call-point stations. -/

namespace Sys2Proof.Machine

/-! ## Entries of a zone -/

/-- Change detector `i`, if present. -/
def onDetector (s : State) (i : Nat) (f : Detector → Detector) : State :=
  s.onFire fun u => { u with detectors := tmod u.detectors i f }

/-- Change call point `i`, if present. -/
def onCallPoint (s : State) (i : Nat) (f : CallPoint → CallPoint) : State :=
  s.onFire fun u => { u with callPoints := tmod u.callPoints i f }

/-- The active detectors of zone `z`, by index (R58, R61, R66). -/
def activeDetectors (s : State) (z : Nat) : DetSet :=
  ofMembers (tkeys s.fire.detectors fun d => d.zone == z && d.active)

/-- The operated call points of zone `z`, by index (R59, R66). -/
def operatedPoints (s : State) (z : Nat) : PointSet :=
  ofMembers (tkeys s.fire.callPoints fun c => c.zone == z && c.operated)

/-- The faulty call points of zone `z`, by index (R66, R196). -/
def faultyPoints (s : State) (z : Nat) : PointSet :=
  ofMembers (tkeys s.fire.callPoints fun c => c.zone == z && c.fault)

/-- Some detector or call point of zone `z` has its fault flag set (R65). -/
def FireUnit.entryFault (u : FireUnit) (z : Nat) : Bool :=
  tany u.detectors (fun d => d.zone == z && d.fault) ||
    tany u.callPoints (fun c => c.zone == z && c.fault)

/-- Set the pending mark of every zone in FULL_ALARM (R53, R63, R64). -/
def markFullZones (s : State) : State :=
  s.onFire fun u => { u with zones := tmap u.zones fun _ z =>
    { z with mark := z.mark || z.state == .fullAlarm } }

/-! ## Zone states -/

/-- Zone `z` enters FULL_ALARM (R53): the timer stops, the acknowledged flag becomes false, the silence flag
is cleared, the marks are set, and the entry is made known to the units in the order of R53's table
(log 7). -/
def enterFullAlarm (z : Nat) (s : State) : State :=
  let s1 := onZone s z fun e => { e with state := .fullAlarm, timer := none, acked := false }
  let s2 := markFullZones (s1.onFire fun u => { u with silence := false })
  annFullAlarm (callFullAlarm (monitorFullAlarm (releaseZone z s2)))

/-- A zone becomes QUIET (R58, R59, R61). -/
def Zone.quiet (e : Zone) : Zone :=
  { e with state := .quiet, timer := none, acked := false, confirmers := 0, mark := true }

/-- A zone enters PRE_ALARM with the given confirmer set (R52, R61). -/
def Zone.preAlarm (confirmers : DetSet) (e : Zone) : Zone :=
  { e with state := .preAlarm, timer := some (secs e.ackTime), acked := false,
           confirmers := confirmers, mark := true }

/-- Zone `z` is told "detector confirmed", naming detector `d` (R50, R52, R54, R55, R60). -/
def detectorConfirmed (d z : Nat) (s : State) : State :=
  match tget s.fire.zones z with
  | none => s
  | some e =>
    match e.state with
    | .quiet => onZone s z (Zone.preAlarm (addBit 0 d))
    | .preAlarm =>
      if e.confirmers.getLsbD d then s
      else
        let s1 := onZone s z fun e => { e with confirmers := addBit e.confirmers d, mark := true }
        if e.coincidence then enterFullAlarm z s1 else s1
    | .fullAlarm =>
      if e.confirmers.getLsbD d then s
      else onZone s z fun e => { e with confirmers := addBit e.confirmers d, mark := true }
    | .isolated => s

/-- A detector's fields after a report of level `v` (R49). -/
def Detector.onLevel (v : Nat) (d : Detector) : Detector :=
  let run := if v ≥ d.alarm then min (d.run + 1) d.confirm else 0
  { d with level := v, run := run,
           active := if d.active then !decide (v < d.restore) else run == d.confirm }

/-- A tapped Detector Level report for detector `i` (R49). -/
def detectorReport (i v : Nat) (s : State) : State :=
  match tget s.fire.detectors i with
  | none => s
  | some d =>
    let d1 := d.onLevel v
    let s1 := onDetector s i fun _ => d1
    if d1.active && !d.active then detectorConfirmed i d.zone s1 else s1

/-- An alarm acts on zone `z` in QUIET or PRE_ALARM: it enters FULL_ALARM (R51, R62). -/
def alarmZone (z : Nat) (s : State) : State :=
  match tget s.fire.zones z with
  | some e => if e.state = .quiet ∨ e.state = .preAlarm then enterFullAlarm z s else s
  | none => s

/-- A tapped Call Point report for call point `i` (R51). -/
def callPointReport (i : Nat) (operated : Bool) (s : State) : State :=
  match tget s.fire.callPoints i with
  | none => s
  | some c =>
    let s1 := onCallPoint s i fun c => { c with operated := operated }
    if operated then alarmZone c.zone s1 else s1

/-- The stage timer of zone `z` expires in PRE_ALARM (R54). -/
def stageTimerExpires (z : Nat) (s : State) : State :=
  match tget s.fire.zones z with
  | some e => if e.state = .preAlarm ∧ e.timer.isSome then enterFullAlarm z s else s
  | none => s

/-! ## Requests on zones -/

/-- The conditions of R56 before a zone request's own: the part ARMED, the index at most 15, the entry
present. -/
def zoneRequest (z : Nat) (s : State) (f : Zone → Result) : Result :=
  whenArmed s <|
    match if z > 15 then none else tget s.fire.zones z with
    | none => refuse s .badIndex
    | some e => f e

/-- An Acknowledge Zone request (R57). -/
def acknowledgeZone (z : Nat) (s : State) : Result :=
  zoneRequest z s fun e =>
    if e.state = .preAlarm ∧ e.acked = false then
      accept (onZone s z fun e =>
        { e with acked := true, timer := some (secs e.investTime), mark := true })
    else refuse s .wrongState

/-- A Cancel Zone request (R58). -/
def cancelZone (z : Nat) (s : State) : Result :=
  zoneRequest z s fun e =>
    if e.state ≠ .preAlarm then refuse s .wrongState
    else if activeDetectors s z ≠ 0 then refuse s .detectorActive
    else accept (onZone s z Zone.quiet)

/-- No zone remains in FULL_ALARM (R59, R63): the silence flag is cleared, the fire rings are withdrawn and
the fire phrases end. -/
def alarmOver (s : State) : State :=
  if s.anyFull then s
  else overrideStops (callFireOver (s.onFire fun u => { u with silence := false }))

/-- A Reset Zone request (R59). -/
def resetZone (z : Nat) (s : State) : Result :=
  zoneRequest z s fun e =>
    if e.state ≠ .fullAlarm then refuse s .wrongState
    else if activeDetectors s z ≠ 0 ∨ operatedPoints s z ≠ 0 then refuse s .detectorActive
    else accept (alarmOver (onZone s z Zone.quiet))

/-- An Isolate Zone request (R60). -/
def isolateZone (z : Nat) (s : State) : Result :=
  zoneRequest z s fun e =>
    if e.state = .quiet then accept (onZone s z fun e => { e with state := .isolated, mark := true })
    else refuse s .wrongState

/-- A Restore Zone request (R61). -/
def restoreZone (z : Nat) (s : State) : Result :=
  zoneRequest z s fun e =>
    if e.state ≠ .isolated then refuse s .wrongState
    else
      let active := activeDetectors s z
      accept (onZone s z (if active ≠ 0 then Zone.preAlarm active else Zone.quiet))

/-- The zones of a mask that are ISOLATED (R62). -/
def skippedZones (zones : ZoneSet) (s : State) : ZoneSet :=
  ofMembers ((members zones).filter fun z =>
    (tget s.fire.zones z).any fun e => e.state == .isolated)

/-- An Evacuate request (R62), less the encoding of the skipped zones in its reply. -/
def evacuate (zones : ZoneSet) (s : State) : Result :=
  whenArmed s <|
    if (members zones).any fun z => (tget s.fire.zones z).isNone then refuse s .badIndex
    else accept ((members zones).foldl (fun s z => alarmZone z s) s)

/-- A Silence request (R63). -/
def silence (s : State) : Result :=
  whenArmed s <|
    if !s.anyFull then refuse s .wrongState
    else if s.fire.silence then accept s
    else accept (markFullZones (overrideStops (callSilence (s.onFire fun u => { u with silence := true }))))

/-- A Resound request (R64). -/
def resound (s : State) : Result :=
  whenArmed s <|
    if !s.anyFull then refuse s .wrongState
    else accept (markFullZones (fireOverride (fireRings (s.onFire fun u => { u with silence := false }))))

/-! ## Faults -/

/-- The fault flag of zone `z` follows its entries' (R65). -/
def refreshZoneFault (z : Nat) (s : State) : State :=
  s.onFire fun u => { u with zones := tmod u.zones z fun e => { e with fault := u.entryFault z } }

/-- The station of detector `i` goes MISSING (R65). -/
def detectorMissing (i : Nat) (s : State) : State :=
  match tget s.fire.detectors i with
  | none => s
  | some d => refreshZoneFault d.zone (onDetector s i fun d => { d with fault := true, run := 0 })

/-- The station of detector `i` returns (R65). -/
def detectorReturns (i : Nat) (s : State) : State :=
  match tget s.fire.detectors i with
  | none => s
  | some d => refreshZoneFault d.zone (onDetector s i fun d => { d with fault := false })

/-- The station of call point `i` goes MISSING (R65). -/
def callPointMissing (i : Nat) (s : State) : State :=
  match tget s.fire.callPoints i with
  | none => s
  | some c => refreshZoneFault c.zone (onCallPoint s i fun c => { c with fault := true })

/-- The station of call point `i` returns (R65). -/
def callPointReturns (i : Nat) (s : State) : State :=
  match tget s.fire.callPoints i with
  | none => s
  | some c => refreshZoneFault c.zone (onCallPoint s i fun c => { c with fault := false })

/-! ## Arm and Disarm -/

/-- A detector's run-time fields at Arm (`missing`: its station is MISSING) and at Disarm (R67). -/
def Detector.rearm (missing : Bool) (d : Detector) : Detector :=
  { d with level := 0, run := 0, active := false, fault := missing }

/-- A call point's run-time fields at Arm and at Disarm (R67). -/
def CallPoint.rearm (missing : Bool) (c : CallPoint) : CallPoint :=
  { c with operated := false, fault := missing }

/-- The Fire Zone Unit's run-time fields at Arm (R67). -/
def fireArm (s : State) : State :=
  s.onFire fun u =>
    let dets := tmap u.detectors fun _ d => d.rearm (s.missing d.station)
    let points := tmap u.callPoints fun _ c => c.rearm (s.missing c.station)
    let u1 := { u with detectors := dets, callPoints := points, silence := false }
    { u1 with zones := tmap u.zones fun z e =>
        { e.quiet with state := if e.tableIsolated then .isolated else .quiet, fault := u1.entryFault z } }

/-- The Fire Zone Unit's run-time fields at Disarm (R67). -/
def fireDisarm (s : State) : State :=
  s.onFire fun u =>
    { u with
      detectors := tmap u.detectors fun _ d => d.rearm false
      callPoints := tmap u.callPoints fun _ c => c.rearm false
      silence := false
      zones := tmap u.zones fun _ e => { e.quiet with fault := false } }

end Sys2Proof.Machine
end

