-- ==== Sys2Proof/Machine/Board.lean ====
section
/-! DEFINITION. The Annunciator Driver (chapter 6): the lamp image, the pass plan with its degrade, the
passes, the board modes, and the lamp lines. -/

namespace Sys2Proof.Machine

/-! ## The lamp image -/

/-- The mode of a PUSH cell (R124). -/
def pushMode (s : State) (i : Nat) : Display :=
  match s.call.calls.find? (fun c => c.push == i) with
  | none => .off
  | some c => if c.state = .deferred then .flash else if c.escalated then .emphasis else .steady

/-- The mode of a ZONE cell (R125). -/
def zoneMode (s : State) (i : Nat) : Display :=
  match tget s.fire.zones i with
  | none => .off
  | some z =>
    match z.state with
    | .quiet => if z.fault then .flash else .off
    | .preAlarm => .flash
    | .fullAlarm => .emphasis
    | .isolated => .steady

/-- The mode of a SHUTTER cell (R125). -/
def shutterMode (s : State) (i : Nat) : Display :=
  match tget s.shut i with
  | none => .off
  | some sh =>
    match sh.state with
    | .unknown | .open => .off
    | .closed => .steady
    | .awaitClear | .warning | .descending | .raising => .flash
    | .obstructed | .faulted => .emphasis

/-- A FIXED condition holds (R126). -/
def fixedHolds (s : State) : Fixed → Bool
  | .paternosterLocked => s.pat.state == .locked
  | .listFull => s.call.listFull
  | .panelLost => s.reg.panelLost
  | .stationMissing => tany s.reg.stations fun e => e.presence == .missing
  | .closing => s.ann.closing == .running

/-- The mode of a cell by its assignment (R124 to R126). -/
def assignedMode (s : State) : Assignment → Display
  | .none => .off
  | .push i => pushMode s i
  | .zone i => zoneMode s i
  | .shutter i => shutterMode s i
  | .fixed f => if fixedHolds s f then .steady else .off

/-- The mode of cell `k`; a cell with no entry shows as a NONE cell (R122). -/
def cellMode (s : State) (k : Nat) : Display :=
  match tget s.board.layout k with
  | none => .off
  | some a => assignedMode s a

/-- The image the rules give for the records as they stand (R124). -/
def imageOf (s : State) : List Display := (List.range 64).map (cellMode s)

/-- Recompute the lamp image (R124). -/
def refreshImage (s : State) : State :=
  let img := imageOf s
  s.onBoard fun b => { b with image := img }

/-! ## The pass plan -/

/-- On-time 1 in µs (R123). -/
def OnTimes.t1 (o : OnTimes) : Nat := 16 * (o.n1 + 1)

/-- On-time 2 in µs (R123). -/
def OnTimes.t2 (o : OnTimes) : Nat := 16 * (o.n2 + 1)

/-- The pass limit in µs (R123). -/
def OnTimes.limitUs (o : OnTimes) : Nat := o.limit * 1000

/-- The display mode with which a lamp is lit in a scanning pass, or absent when it is not lit (R128). -/
def scanLit (lit : Bool) : Display → Option Display
  | .off => none
  | .steady => some .steady
  | .emphasis => some .emphasis
  | .flash => if lit then some .flash else none

/-- The lamps lit in a pass, by cell (R128, R132). -/
def litCell (b : Board) (kind : PassKind) (k : Nat) : Option Display :=
  match kind with
  | .scan => (b.image[k]?).bind (scanLit b.lit)
  | .test =>
    match tget b.layout k with
    | none | some .none => none
    | some _ => some .emphasis

/-- The slots of a pass in drive order, each lamp's drive time given by its display mode (R128). -/
def planWith (b : Board) (kind : PassKind) (drive : Display → Nat) : List Slot :=
  ((List.range 32).map fun k =>
    { row := k / 8, col := k % 8, upper := (litCell b kind k).map drive,
      lower := (litCell b kind (k + 32)).map drive : Slot }).filter
    fun sl => sl.upper.isSome || sl.lower.isSome

/-- A slot's time: the longer drive time of its lit lamps (R128). -/
def Slot.time (sl : Slot) : Nat := max (sl.upper.getD 0) (sl.lower.getD 0)

/-- The pass time: the slot times and 8 µs of dead time for each slot (R128). -/
def passTime (plan : List Slot) : Nat := (plan.map fun sl => sl.time + 8).sum

/-- Drive time by display mode before any degrade (R128). -/
def OnTimes.drive (o : OnTimes) : Display → Nat
  | .emphasis => o.t2
  | _ => o.t1

/-- The reduced on-time t′ of step 2 for `n` slots (R129). -/
def OnTimes.reduced (o : OnTimes) (n : Nat) : Nat := 16 * ((o.limitUs / n - 8) / 16)

/-- The pass as it starts: its plan with the degrade decided (R128, R129). -/
def planPass (b : Board) (o : OnTimes) (kind : PassKind) : Pass :=
  let p0 := planWith b kind o.drive
  if passTime p0 ≤ o.limitUs then
    { kind := kind, plan := p0, time := passTime p0, degrade := .none, reduced := none,
      left := passTime p0 / 8 }
  else
    let p1 := planWith b kind fun _ => o.t1
    if passTime p1 ≤ o.limitUs then
      { kind := kind, plan := p1, time := passTime p1, degrade := .step1, reduced := none,
        left := passTime p1 / 8 }
    else
      let t := o.reduced p1.length
      let p2 := planWith b kind fun _ => t
      { kind := kind, plan := p2, time := passTime p2, degrade := .step2, reduced := some t,
        left := passTime p2 / 8 }

/-! ## Passes and modes -/

/-- Start a scanning pass, or wait when it has no slot (R130). -/
def Board.startScan (b : Board) : Board :=
  match b.settings with
  | none => b
  | some o =>
    let p := planPass b o .scan
    if p.plan = [] then { b with pass := none } else { b with pass := some p }

/-- The board pass record takes a completed pass; a degrade step that differs from the completed pass's
before it sets the mark (R133). The first completed pass is compared with NONE: DESIGN CHOICE (unsafe),
log 19. -/
def Board.recordPass (b : Board) (p : Pass) : Board :=
  { b with
    pass := none,
    record := { number := (b.record.number + 1) % 65536, kind := some p.kind, slots := p.plan.length,
                time := p.time, degrade := p.degrade, reduced := p.reduced },
    mark := b.mark || b.record.degrade != p.degrade }

/-- A test pass completes (R132). -/
def Board.completeTest (b : Board) (p : Pass) : Board :=
  let b1 := { b.recordPass p with testDone := true, mark := true, returnMode := none,
                                  mode := b.returnMode.getD .dark }
  if b1.mode = .scanning then b1.startScan else b1

/-- Start a test pass; one with no slot completes at its start (R132). -/
def Board.startTest (b : Board) : Board :=
  match b.settings with
  | none => b
  | some o =>
    let p := planPass b o .test
    if p.plan = [] then b.completeTest p else { b with pass := some p }

/-- A scanning pass completes (R130, R132). -/
def Board.scanDone (b : Board) : Board :=
  match b.pass with
  | some p =>
    if p.kind = .scan then
      let b1 := b.recordPass p
      if b1.mode = .test then b1.startTest else b1.startScan
    else b
  | none => b

/-- A test pass completes, if one is in flight (R132). -/
def Board.testPassDone (b : Board) : Board :=
  match b.pass with
  | some p => if p.kind = .test then b.completeTest p else b
  | none => b

/-- The board becomes DARK: the pass in flight is cut short and a test abandoned (R131). -/
def Board.dark (b : Board) : Board := { b with mode := .dark, returnMode := none, pass := none }

/-- A waiting board starts a pass at a change of the lamp image or of the flash phase (R130). -/
def Board.wake (changed : Bool) (b : Board) : Board :=
  if changed ∧ b.mode = .scanning ∧ b.pass = none then b.startScan else b

/-- The flash phase changes, and its next half of 500 ms starts (R127). -/
def Board.flip (b : Board) : Board :=
  { b with lit := !b.lit, flashTimer := some (500 * ticksPerMs) }

/-- A board mode by its number (R194). -/
def boardModeOf : Nat → Option BoardMode
  | 0 => some .dark
  | 1 => some .scanning
  | 2 => some .test
  | _ => none

/-- What an accepted Board Mode request does, by the current mode (R131). -/
def Board.setMode (m : BoardMode) (b : Board) : Board :=
  match b.mode, m with
  | .dark, .dark => b
  | .dark, .scanning => { b with mode := .scanning }.startScan
  | .dark, .test => { b with mode := .test, returnMode := some .dark }.startTest
  | .scanning, .dark => b.dark
  | .scanning, .scanning => b
  | .scanning, .test =>
    let b1 := { b with mode := .test, returnMode := some .scanning }
    if b.pass.isSome then b1 else b1.startTest
  | .test, .dark => b.dark
  | .test, .scanning => { b with returnMode := some .scanning }
  | .test, .test => b

/-- A Board Mode request (R131), less the encoding of the resulting mode in its reply. A pass that it starts is
planned from the image as the request's own frame leaves the records (R124, R128, R167). -/
def setBoardMode (value : Nat) (s : State) : Result :=
  match boardModeOf value with
  | none => refuse s .badValue
  | some m =>
    if m ≠ .dark ∧ s.board.settings = none then refuse s .badIndex
    else if m = .test ∧ s.board.mode = .test then refuse s .busy
    else accept ((refreshImage s).onBoard (Board.setMode m))

/-- The Driver's run-time state at Disarm (R134). -/
def Board.disarm (b : Board) : Board := { b.dark with testDone := false, mark := false }

/-! ## The lamp lines -/

/-- The lines driven `t` µs into a pass with the plan given: the row lines and the column lines (R128). -/
def planLines : List Slot → Nat → BitVec 8 × BitVec 8
  | [], _ => (0, 0)
  | sl :: rest, t =>
    if t < sl.time then
      let up := if sl.upper.any (t < ·) then addBit 0 sl.row else 0
      let rows := if sl.lower.any (t < ·) then addBit up (sl.row + 4) else up
      (rows, addBit 0 sl.col)
    else if t < sl.time + 8 then (0, 0)
    else planLines rest (t - (sl.time + 8))

/-- The row lines and column lines now driven; none outside a pass (R128). -/
def lampLines (s : State) : BitVec 8 × BitVec 8 :=
  match s.board.pass with
  | none => (0, 0)
  | some p => planLines p.plan (p.time - 8 * p.left)

end Sys2Proof.Machine
end

