-- ==== Sys2Proof/Machine/Operands.lean ====
section
/-! DEFINITION. How fields stand on the line (R193 to R195): quantities, flags, named values, sets, absent
values; the payloads of reports and orders; and the values a report may carry. -/

namespace Sys2Proof.Machine

/-! ## Field encodings -/

/-- A number as one byte. -/
def byteOf (n : Nat) : Byte := BitVec.ofNat 8 n

/-- The low `n` bytes of `v`, most significant first (R194). -/
def beBytes : Nat → Nat → List Byte
  | 0, _ => []
  | n + 1, v => beBytes n (v / 256) ++ [byteOf v]

/-- A quantity in `n` bytes (R194). One too large for them is a free value: DESIGN CHOICE (safe), log 15. -/
def quantity (n v : Nat) : List Byte :=
  if v < 256 ^ n then beBytes n v else beBytes n (Config.overflowField n v)

/-- The absent value of a field of `n` bytes: all ones (R194). -/
def absent (n : Nat) : List Byte := List.replicate n 255

/-- An optional quantity in `n` bytes (R194). -/
def optQuantity (n : Nat) : Option Nat → List Byte
  | some v => quantity n v
  | none => absent n

/-- A flag (R194). -/
def flagByte (b : Bool) : Byte := if b then 1 else 0

/-- A set in `n` bytes, members 8k to 8k + 7 in byte k (R194). -/
def setBytes {w : Nat} (n : Nat) (m : BitVec w) : List Byte :=
  (List.range n).map fun k => byteOf (m.toNat / 256 ^ k)

/-- Byte `k` of a payload as a number. -/
def byteAt (d : List Byte) (k : Nat) : Nat := (d[k]?.getD 0).toNat

/-- The two-byte quantity at byte `k` of a payload (R194). -/
def wordAt (d : List Byte) (k : Nat) : Nat := byteAt d k * 256 + byteAt d (k + 1)

/-- The optional one-byte field at byte `k` (R194). -/
def optAt (d : List Byte) (k : Nat) : Option Nat :=
  if byteAt d k = 255 then none else some (byteAt d k)

/-- The optional two-byte field at byte `k` (R194). -/
def optWordAt (d : List Byte) (k : Nat) : Option Nat :=
  if wordAt d k = 65535 then none else some (wordAt d k)

/-! ## Named values

Each list stands in the order of its owning chapter's table or list; a value's number is its place (R194). -/

def codes : List Code :=
  [.ok, .badFormat, .badTable, .badIndex, .badValue, .inUse, .armedLocked, .notArmed, .configError,
   .alarmActive, .wrongState, .detectorActive, .zoneInAlarm, .busy]

def vetoReasons : List VetoReason :=
  [.notArmed, .chainNotIdle, .shutterNotOpen, .fire, .chainMoving, .landingBlocked, .zoneInAlarm,
   .evacuation, .unknownStation, .forbiddenKind]

def vetoStages : List VetoStage := [.arrival, .sending]

def roles : List Role :=
  [.detector, .callPoint, .shutter, .drive, .landing, .push, .desk, .ringer, .amplifier]

def pollClasses : List PollClass := [.fast, .slow]

def presences : List Presence := [.unseen, .present, .missing]

def modes : List Mode := [.configuring, .armed]

def startCauses : List StartCause := [.power, .pin]

def patStates : List PatState :=
  [.unknown, .idle, .running, .runout, .resting, .stopping, .held, .locked]

def motions : List Motion := [.stopped, .moving, .none]

def zoneStates : List ZoneState := [.quiet, .preAlarm, .fullAlarm, .isolated]

def shutterKinds : List ShutterKind := [.department, .shaft]

def shutterStates : List ShutterState :=
  [.unknown, .open, .awaitClear, .warning, .descending, .closed, .obstructed, .raising, .faulted]

def reasons : List Reason := [.none, .fire, .night, .manual]

def positions : List Position := [.open, .lowering, .raising, .closed, .part, .jammed]

def callStates : List CallState := [.waiting, .rung, .deferred]

def fixedConditions : List Fixed :=
  [.paternosterLocked, .listFull, .panelLost, .stationMissing, .closing]

def displays : List Display := [.off, .steady, .emphasis, .flash]

def boardModes : List BoardMode := [.dark, .scanning, .test]

def degrades : List Degrade := [.none, .step1, .step2]

def closingStates : List ClosingState := [.waiting, .running, .finished, .aborted]

def noteClocks : List NoteClock := [.mhz1, .khz250, .khz62, .khz15]

def ampStates : List AmpState := [.idle, .playing, .gated]

def ampOrigins : List AmpOrigin := [.closing, .fire, .panel]

/-- The byte of a named value. -/
def named {α : Type} [BEq α] (l : List α) (a : α) : Byte := byteOf (l.idxOf a)

/-- The byte of an optional named value (R194). -/
def optNamed {α : Type} [BEq α] (l : List α) : Option α → Byte
  | some a => named l a
  | none => 255

/-- The named value of a number, if listed. -/
def valueOf {α : Type} (l : List α) (n : Nat) : Option α := l[n]?

/-! ## Reports -/

/-- The code of a report's kind (R194, class 1). -/
def reportCode : Report → Nat
  | .presence => 1
  | .detectorLevel _ => 2
  | .callPoint _ => 3
  | .chain _ _ _ => 4
  | .landing _ _ _ _ => 5
  | .shutterPosition _ => 6
  | .push _ => 7
  | .answer _ => 8
  | .ringDone _ => 9
  | .phraseDone _ => 10

/-- A report's payload (R194). -/
def reportPayload : Report → List Byte
  | .presence => []
  | .detectorLevel v | .callPoint v | .shutterPosition v | .push v | .answer v | .ringDone v
  | .phraseDone v => [v]
  | .chain p m c => quantity 2 p.toNat ++ [m, c]
  | .landing u d g t => [u, d, g, t]

/-- A report as a frame, kind byte 1 × 32 + code (R193). -/
def reportFrame (h : Hdr) (r : Report) : Frame :=
  { dst := h.dst, src := h.src, kind := byteOf (32 + reportCode r), tag := h.tag, payload := reportPayload r }

/-- Every field of the report lies in its list or range (R194). -/
def reportListed : Report → Bool
  | .presence | .detectorLevel _ | .ringDone _ | .phraseDone _ => true
  | .callPoint v => v.toNat ≤ 1
  | .chain _ m c => m.toNat ≤ 1 && c.toNat ≤ 1
  | .landing _ _ g t => g.toNat ≤ 1 && t.toNat ≤ 1
  | .shutterPosition v => v.toNat ≤ 5
  | .push v => v.toNat ≤ 7
  | .answer v => v.toNat ≤ 64

/-! ## Orders -/

/-- The code of an order's kind (R194, class 2). -/
def OrderBody.code : OrderBody → Nat
  | .poll => 1
  | .run => 2
  | .halt => 3
  | .rest => 4
  | .stopAt _ => 5
  | .cut => 6
  | .warn => 7
  | .drop => 8
  | .raise => 9
  | .ring _ _ _ => 10
  | .ringCancel => 11
  | .phrase _ _ => 12
  | .gate _ => 13

/-- An order's kind byte, 2 × 32 + code (R193). -/
def OrderBody.kindByte (b : OrderBody) : Byte := byteOf (64 + b.code)

/-- An order's payload (R194). -/
def OrderBody.payload : OrderBody → List Byte
  | .stopAt t => quantity 2 t
  | .ring a b c => [a, b, c]
  | .phrase a b => [a, b]
  | .gate v => [v]
  | _ => []

/-- An order as a frame (R193). -/
def Order.frame (o : Order) : Frame :=
  { dst := o.head.dst, src := o.head.src, kind := o.body.kindByte, tag := o.head.tag,
    payload := o.body.payload }

/-- The head of an order of the part's own to station `a` (R178, R162). -/
def ownHead (a : Nat) : Hdr := { dst := byteOf a, src := 240, tag := 0 }

/-! ## Checks in order -/

/-- The code of the first check that fails, in the order listed. -/
def firstFailure : List (Bool × Code) → Option Code
  | [] => none
  | (fails, c) :: rest => if fails then some c else firstFailure rest

/-- A number lies outside the inclusive range given. -/
def outside (lo hi n : Nat) : Bool := decide (n < lo) || decide (n > hi)

/-- An optional number is present and lies above `hi`. -/
def optAbove (hi : Nat) (n : Option Nat) : Bool := n.any (fun v => decide (v > hi))

end Sys2Proof.Machine
end

