-- ==== Sys2Proof/Machine/Flags.lean ====
section
/-! DEFINITION. The status flags (R172, R173, R176, R189) and the pending marks (R191): which items a change
marks, found by comparing the watched fields before and after an event (log 6). -/

namespace Sys2Proof.Machine

/-! ## Status flags -/

/-- The flags byte of Read Status: request-overrun, forward-overflow, report-overflow (R194). -/
def flagsByte (l : LineUnit) : Byte :=
  byteOf (l.requestOverrun.toNat + 2 * l.forwardOverflow.toNat + 4 * l.reportOverflow.toNat)

/-- Read Status clears the three flags (R189). -/
def clearFlags (s : State) : State :=
  s.onLine fun l => { l with requestOverrun := false, forwardOverflow := false, reportOverflow := false }

/-! ## Pending marks -/

/-- The active or fault flag of a detector of zone `z` that stands in both tables differs (R66). -/
def detectorChanged (z : Nat) (a b : Table Detector) : Bool :=
  b.any fun e => e.2.zone == z && (tget a e.1).any fun d =>
    d.zone == z && (d.active != e.2.active || d.fault != e.2.fault)

/-- The operated or fault flag of a call point of zone `z` that stands in both tables differs (R66). -/
def callPointChanged (z : Nat) (a b : Table CallPoint) : Bool :=
  b.any fun e => e.2.zone == z && (tget a e.1).any fun d =>
    d.zone == z && (d.operated != e.2.operated || d.fault != e.2.fault)

/-- What R66 watches of zone `z` differs. -/
def zoneChanged (a b : FireUnit) (z : Nat) (e : Zone) : Bool :=
  match tget a.zones z with
  | none => false
  | some d =>
    d.state != e.state || d.acked != e.acked || d.confirmers != e.confirmers || d.fault != e.fault ||
      detectorChanged z a.detectors b.detectors || callPointChanged z a.callPoints b.callPoints ||
      (e.state == .fullAlarm && a.silence != b.silence)

/-- What R72 watches of a shutter differs. -/
def shutterChanged (a b : Shutter) : Bool :=
  a.state != b.state || a.reason != b.reason || a.obstruction != b.obstruction || a.fault != b.fault ||
    a.attempts != b.attempts || a.last != b.last

/-- A guard or stop-switch record that stands in both tables differs (R30). -/
def landingChanged (a b : Table Landing) : Bool :=
  b.any fun e => (tget a e.1).any fun d =>
    d.tripped != e.2.tripped || d.stopSwitch != e.2.stopSwitch

/-- What R30 watches of the paternoster differs. -/
def patChanged (a b : Paternoster) : Bool :=
  a.state != b.state || a.causes != b.causes || a.fireStop != b.fireStop || a.removed != b.removed ||
    a.revs != b.revs || a.remembered != b.remembered ||
    (a.stop.bind fun r => r.target) != (b.stop.bind fun r => r.target) ||
    a.chain.motion != b.chain.motion || a.chain.fault != b.chain.fault ||
    landingChanged a.landings b.landings

/-- The fields of a call that R120 watches. -/
def Call.watched (c : Call) : Nat × Nat × Nat × Nat × Bool × Bool × CallState :=
  (c.push, c.priority, c.presses, c.rings, c.escalated, c.owed, c.state)

/-- What R120 watches of the call list differs. -/
def callsChanged (a b : CallUnit) : Bool :=
  a.calls.map Call.watched != b.calls.map Call.watched || a.queue.length != b.queue.length ||
    a.listFull != b.listFull || a.level != b.level || a.lastIgnored != b.lastIgnored

/-- Set the pending mark of every item whose watched fields an event changed (R30, R66, R72, R120, R168). -/
def markChanges (before s : State) : State :=
  { s with
    fire := { s.fire with zones := tmap s.fire.zones fun z e =>
      { e with mark := e.mark || zoneChanged before.fire s.fire z e } },
    shut := tmap s.shut fun i e =>
      { e with mark := e.mark || (tget before.shut i).any fun d => shutterChanged d e },
    pat := { s.pat with mark := s.pat.mark || patChanged before.pat s.pat },
    reg := { s.reg with stations := tmap s.reg.stations fun a e =>
      { e with mark := e.mark || (tget before.reg.stations a).any fun d => d.presence != e.presence } },
    call := { s.call with mark := s.call.mark || callsChanged before.call s.call } }

end Sys2Proof.Machine
end

