-- ==== Sys2Proof/Machine/Records.lean ====
section
/-! DEFINITION. What the panel reads: the payloads of the notices (R194), of Read Status (R189) and of Read
Record (R190, R196). -/

namespace Sys2Proof.Machine

/-! ## Notice payloads -/

/-- Zone notice (R66): 22 bytes. -/
def zonePayload (s : State) (z : Nat) (e : Zone) : List Byte :=
  [byteOf z, named zoneStates e.state, flagByte e.acked] ++ quantity 2 (wholeSecs e.timer) ++
    setBytes 6 e.confirmers ++ setBytes 6 (activeDetectors s z) ++ setBytes 3 (operatedPoints s z) ++
    [flagByte e.fault, flagByte s.fire.silence]

/-- The cause byte of a shutter: its obstruction or its fault cause (R194). -/
def causeByte (o : Option Obstruction) (c : Option FaultCause) : Byte :=
  match o, c with
  | some .car, _ => 1
  | some .jam, _ => 2
  | none, some .travelTimeout => 3
  | none, some .retriesSpent => 4
  | none, some .stationMissing => 5
  | none, some .unexpectedReport => 6
  | none, none => 0

/-- Shutter notice (R94): 6 bytes. -/
def shutterPayload (i : Nat) (e : Shutter) : List Byte :=
  [byteOf i, named shutterStates e.state, named reasons e.reason, causeByte e.obstruction e.fault,
   byteOf e.attempts, optNamed positions e.last]

/-- Revolutions in the Paternoster notice: remaining in RUNOUT, remembered in HELD, otherwise 0 (R194). -/
def noticeRevs (p : Paternoster) : Nat :=
  match p.revs, p.remembered with
  | some r, _ => r
  | none, some (.runout r) => r
  | none, _ => 0

/-- The remembered state's number among the paternoster states (R194; DEDUCED, log 17). -/
def rememberedByte : Option Intended → Byte
  | some .running => named patStates .running
  | some (.runout _) => named patStates .runout
  | none => 255

/-- The floors whose landing meets `p`. -/
def landingFloors (t : Table Landing) (p : Landing → Bool) : FloorSet := ofMembers (tkeys t p)

/-- The removed landings in 8 bytes, 255 after the last (R194). -/
def removedBytes (l : List Nat) : List Byte := (l.map byteOf ++ absent 8).take 8

/-- Paternoster notice (R30): 21 bytes. -/
def patPayload (p : Paternoster) : List Byte :=
  [named patStates p.state, byteOf p.causes.toNat, byteOf (noticeRevs p), rememberedByte p.remembered,
   byteOf p.fireStop.toNat] ++ removedBytes p.removed ++
    optQuantity 2 (p.stop.bind fun r => r.target) ++ optQuantity 2 p.chain.position ++
    [named motions p.chain.motion, flagByte p.chain.fault,
     byteOf (landingFloors p.landings fun l => l.tripped).toNat,
     byteOf (landingFloors p.landings fun l => l.stopSwitch).toNat]

/-- Station notice for a station (R168): 5 bytes. -/
def stationPayload (a : Nat) (e : Station) : List Byte :=
  [byteOf a, named roles e.role, byteOf e.floor, named presences e.presence, byteOf e.miss]

/-- Station notice for the panel (R168): 10 bytes. -/
def panelPayload (r : StationRegister) : List Byte :=
  optQuantity 1 (r.settings.map fun x => x.panel) ++ [flagByte r.panelLost] ++
    optQuantity 4 r.lostTime ++ optQuantity 4 r.awaySecs

/-- The number of calls that meet `p`. -/
def callCount (u : CallUnit) (p : Call → Bool) : Nat := (u.calls.filter p).length

/-- Call notice (R120): 13 bytes. -/
def callPayload (u : CallUnit) : List Byte :=
  [byteOf u.calls.length, byteOf (callCount u fun c => c.state == .waiting),
   byteOf (callCount u fun c => c.state == .rung), byteOf (callCount u fun c => c.state == .deferred),
   byteOf (callCount u fun c => c.escalated), byteOf (callCount u fun c => c.owed),
   byteOf u.queue.length, byteOf u.level, byteOf u.closingLevel, byteOf u.fireLevel,
   byteOf u.fireRound, flagByte u.listFull] ++ optQuantity 1 u.lastIgnored

/-- A generator's state and chime in the Closing notice (R194). -/
def genBytes : Option Playing → List Byte
  | none => [0, 255]
  | some p => [if p.sounding.isSome then 2 else 1, byteOf p.chime]

/-- Closing notice (R156): 17 bytes. No floors waited on are sent as the empty set, 0: DEDUCED (unsafe), log 53. -/
def closingPayload (s : State) : List Byte :=
  let u := s.ann
  [named closingStates u.closing] ++ optQuantity 2 (u.startTime.map fun t => s.now - t) ++
    optQuantity 1 u.nextStep ++ [flagByte u.waitGen, byteOf u.waitFloors.toNat,
      byteOf s.call.closingLevel] ++ genBytes u.gen0 ++ genBytes u.gen1 ++ [flagByte s.issuing] ++
    quantity 3 u.clock.second ++ [byteOf u.clock.weekday, flagByte u.clock.set]

/-- Veto notice (R192): 4 bytes. -/
def vetoPayload (v : Veto) : List Byte :=
  [v.dst, v.kind, named vetoReasons v.reason, named vetoStages v.stage]

/-- The pass kind's number in the board pass record (R194). -/
def passKindByte : Option PassKind → Byte
  | none => 0
  | some .scan => 1
  | some .test => 2

/-- Board notice (R133): 12 bytes. -/
def boardPayload (b : Board) : List Byte :=
  [named boardModes b.mode, optNamed boardModes b.returnMode, flagByte b.testDone] ++
    quantity 2 b.record.number ++ [passKindByte b.record.kind, byteOf b.record.slots] ++
    quantity 2 b.record.time ++ [named degrades b.record.degrade] ++ optQuantity 2 b.record.reduced

/-! ## Read Status -/

/-- The reply data of Read Status (R189): 18 bytes. -/
def statusData (s : State) : List Byte :=
  [named modes s.mgmt.mode, named startCauses s.mgmt.cause] ++ quantity 4 s.now ++
    quantity 3 s.ann.clock.second ++
    [byteOf s.ann.clock.weekday, flagByte s.ann.clock.set, flagsByte s.line] ++
    optQuantity 1 s.line.stranger ++
    [byteOf (tkeys s.reg.stations fun e => e.presence == .missing).length,
     byteOf (tkeys s.fire.zones fun e => e.state != .quiet).length,
     byteOf (tkeys s.shut fun e => e.state != .open).length,
     byteOf s.call.calls.length, named patStates s.pat.state]

/-! ## Read Record -/

/-- A shutter's prior state: its state's number, or 255 (R196; DEDUCED, log 17). -/
def priorByte : Option Prior → Byte
  | some .closed => named shutterStates .closed
  | some (.obstructed _) => named shutterStates .obstructed
  | some (.faulted _) => named shutterStates .faulted
  | none => 255

/-- The order a shutter's slot holds (R196). -/
def shutterSlotByte : Option ShutterOrder → Byte
  | none => 0
  | some .warn => 1
  | some .drop => 2
  | some .raise => 3

/-- A shutter's record (R94, R196). -/
def shutterRecord (i : Nat) (e : Shutter) : List Byte :=
  shutterPayload i e ++
    [byteOf (wholeSecs e.timer), priorByte e.prior, shutterSlotByte e.slot]

/-- A detector's record (R66, R196): 4 bytes. -/
def detectorRecord (d : Detector) : List Byte :=
  [byteOf d.level, byteOf d.run, flagByte d.active, flagByte d.fault]

/-- A side's beam-check record (R28, R196). -/
def beamRecord (b : Beam) : List Byte :=
  [byteOf b.expected, byteOf b.miss, flagByte (!b.settling)] ++ quantity 2 b.travel

/-- The guard trip history: each trip's seconds before the request, 65,535 where older (R196). -/
def tripRecord (now : Nat) (trips : List Nat) : List Byte :=
  byteOf trips.length :: (trips.map fun t => quantity 2 (min (now - t) 65535)).flatten

/-- A part of the paternoster's record (R196). -/
def patRecord (s : State) (part : Nat) : Option (List Byte) :=
  if part = 0 then some (patPayload s.pat)
  else if part ≤ 8 then
    (tget s.pat.landings (part - 1)).map fun l => beamRecord l.upBeam ++ beamRecord l.downBeam
  else if part = 9 then some (tripRecord s.now s.pat.trips)
  else none

/-- A call's record (R99, R120, R196). -/
def callRecord (c : Call) : List Byte :=
  [byteOf c.push, byteOf c.priority] ++ quantity 4 c.arrival ++ [byteOf c.presses, byteOf c.rings] ++
    optQuantity 4 c.nextRing ++ [flagByte c.escalated, flagByte c.owed, named callStates c.state]

/-- A ring's fields (R196). -/
def ringBytes : Option Ring → List Byte
  | none => absent 5
  | some (.panel a b) => [byteOf a, byteOf b, 7, 3, 255]
  | some (.request r) =>
    [byteOf r.ringer, byteOf r.pattern, byteOf r.priority] ++
      match r.origin with
      | .call p => [0, byteOf p]
      | .fire => [1, 255]
      | .closing => [2, 255]

/-- The order a ringer's slot holds (R196). -/
def ringerSlotByte : Option RingerOrder → Byte
  | none => 0
  | some (.ring _ _ _) => 1
  | some .cancel => 2

/-- A ringer's record (R120, R196); the timer is in tenths of a second. -/
def ringerRecord (s : State) (g : Ringer) : List Byte :=
  flagByte g.ring.isSome :: (ringBytes g.ring ++ optQuantity 1 g.number ++
    quantity 2 (g.timer.getD 0 / (100 * ticksPerMs)) ++
    [flagByte (s.missing g.station), ringerSlotByte g.slot])

/-- A poll for address `a` is outstanding (R168). -/
def State.outstanding (s : State) : Option (Nat × Nat) :=
  match s.line.portB with
  | .awaiting a w => some (a, w)
  | _ => none

/-- A station's presence record (R168, R196): 7 bytes. -/
def stationRecord (s : State) (a : Nat) (e : Station) : List Byte :=
  [named roles e.role, byteOf e.floor, named pollClasses e.cls, byteOf e.missLimit,
   named presences e.presence, byteOf e.miss, flagByte (s.outstanding.any fun p => p.1 == a)]

/-- The record of the panel and the poll schedule (R168, R196). -/
def panelRecord (s : State) : List Byte :=
  [flagByte s.reg.panelLost, byteOf (wholeSecs s.reg.panelTimer)] ++ optQuantity 4 s.reg.lostTime ++
    [byteOf s.line.cycle, byteOf (s.line.position.getD 0)] ++
    match s.outstanding with
    | some (a, w) => [byteOf a, byteOf (w / ticksPerMs)]
    | none => [255, 0]

/-- The order an amplifier's slot holds (R196). -/
def ampSlotByte : Option AmpOrder → Byte
  | none => 0
  | some (.phrase _ _) => 1
  | some (.gateOn _) => 2
  | some .gateOff => 3

/-- An amplifier's record (R156, R196). -/
def ampRecord (a : Amp) : List Byte :=
  [named ampStates a.state, optNamed ampOrigins a.origin] ++ optQuantity 1 a.phrase ++
    optQuantity 1 a.number ++ optQuantity 1 a.gen ++
    [byteOf (wholeSecs a.phraseTimer), byteOf (wholeSecs a.gapTimer), ampSlotByte a.slot]

/-- A generator's record: round, note from 1, gated floors (R196). An IDLE generator has round and note 255 and the
empty set of gated floors, 0: DEDUCED (unsafe), log 17. -/
def genRecord : Option Playing → List Byte
  | none => [255, 255, 0]
  | some p =>
    match p.sounding with
    | none => [255, 255, byteOf p.gated.toNat]
    | some x => [byteOf x.round, byteOf (x.note + 1), byteOf p.gated.toNat]

/-- A part of the closing's record (R156, R196). A floor with no amplifier has no data, as one with no landing:
DEDUCED (unsafe), log 44. -/
def closingRecord (s : State) (part : Nat) : Option (List Byte) :=
  if part = 0 then some (closingPayload s)
  else if part ≤ 8 then (tget s.ann.amps (part - 1)).map ampRecord
  else if part = 9 then some (genRecord s.ann.gen0)
  else if part = 10 then some (genRecord s.ann.gen1)
  else none

/-- Display modes of four cells in one byte, the first in the lowest bits (R196). -/
def imageByte (img : List Display) (k : Nat) : Byte :=
  let m := fun j => displays.idxOf (img[4 * k + j]?.getD .off)
  byteOf (m 0 + 4 * m 1 + 16 * m 2 + 64 * m 3)

/-- A part of the board pass record (R133, R196). -/
def boardRecord (b : Board) (part : Nat) : Option (List Byte) :=
  if part = 0 then some (boardPayload b ++ [flagByte (!b.lit)])
  else if part = 1 then some ((List.range 16).map (imageByte b.image))
  else none

/-- The only part of a record that has one (R196). -/
def onlyPart (part : Nat) (d : List Byte) : Option (List Byte) := if part = 0 then some d else none

/-- The data of one part of a record, by kind number and index (R190, R196). `none` answers BAD_INDEX. The image is
that of the moment, because the request itself may have ended PANEL_LOST (R126, R133, R167). -/
def recordData (s : State) (kind index part : Nat) : Option (List Byte) :=
  match kind with
  | 1 => (tget s.fire.zones index).bind fun e =>
      if part = 0 then some (zonePayload s index e)
      else if part = 1 then
        some (setBytes 3 (operatedPoints s index) ++ setBytes 3 (faultyPoints s index))
      else none
  | 2 => (tget s.fire.detectors index).bind fun d => onlyPart part (detectorRecord d)
  | 3 => (tget s.shut index).bind fun e => onlyPart part (shutterRecord index e)
  | 4 => if index = 0 then patRecord s part else none
  | 5 => (s.call.calls[index]?).bind fun c => onlyPart part (callRecord c)
  | 6 => (tget s.call.ringers index).bind fun g => onlyPart part (ringerRecord s g)
  | 7 =>
    if index = 240 then onlyPart part (panelRecord s)
    else (tget s.reg.stations index).bind fun e => onlyPart part (stationRecord s index e)
  | 8 => if index = 0 then closingRecord s part else none
  | 9 => if index = 0 then boardRecord (refreshImage s).board part else none
  | _ => none

/-- A Read Record request (R190). -/
def readRecordResult (kind index part : Nat) (s : State) : Result :=
  if outside 1 9 kind then refuse s .badTable
  else
    match recordData s kind index part with
    | none => refuse s .badIndex
    | some d => { state := s, code := .ok, data := d }

/-- A Read Status request (R189): the flags are cleared after the values are written. -/
def readStatusResult (s : State) : Result :=
  { state := clearFlags s, code := .ok, data := statusData s }

end Sys2Proof.Machine
end

