-- ==== Sys2Proof/Machine/Stations.lean ====
section
/-! DEFINITION. The Station Register (chapter 8): the outcome of a poll, presence, what each owner does at a
station's loss and return, tapping, and panel presence. -/

namespace Sys2Proof.Machine

/-! ## Which entry names a station -/

/-- The detector that station `a` reports for. -/
def detectorAt (s : State) (a : Nat) : Option Nat :=
  (tkeys s.fire.detectors fun d => d.station == a).head?

/-- The call point that station `a` reports for. -/
def callPointAt (s : State) (a : Nat) : Option Nat :=
  (tkeys s.fire.callPoints fun c => c.station == a).head?

/-- The floor of the landing that station `a` reports for. -/
def landingAt (s : State) (a : Nat) : Option Nat :=
  (tkeys s.pat.landings fun l => l.station == a).head?

/-- The shutter that station `a` works. -/
def shutterAt (s : State) (a : Nat) : Option Nat := (tkeys s.shut fun e => e.station == a).head?

/-- The push entry of station `a` and key `k`. -/
def pushAt (s : State) (a k : Nat) : Option Nat :=
  (tkeys s.call.pushes fun p => p.station == a && p.key == k).head?

/-- The ringer whose bell station `a` drives. Of two entries that name one station the one of lower index is taken:
DESIGN CHOICE (unsafe), log 48. -/
def ringerAt (s : State) (a : Nat) : Option Nat :=
  (tkeys s.call.ringers fun g => g.station == a).head?

/-- The floor of the amplifier station `a`. -/
def ampAt (s : State) (a : Nat) : Option Nat := (tkeys s.ann.amps fun x => x.station == a).head?

/-- Act on the entry found, if any. -/
def withEntry (i : Option Nat) (f : Nat → State → State) (s : State) : State :=
  match i with
  | some i => f i s
  | none => s

/-! ## Loss and return -/

/-- The owner of the role reacts to the loss of station `a` (R165; R25, R65, R93, R119, R148). A landing's
records keep their values (R4), and calls, requests and rings are kept (R119). -/
def ownerLoss (a : Nat) (r : Role) (s : State) : State :=
  match r with
  | .detector => withEntry (detectorAt s a) detectorMissing s
  | .callPoint => withEntry (callPointAt s a) callPointMissing s
  | .shutter => withEntry (shutterAt s a) (fun i s => onShutter s i Shutter.stationLost) s
  | .drive => driveMissing s
  | .amplifier => withEntry (ampAt s a) ampMissing s
  | .landing | .push | .desk | .ringer => s

/-- The owner of the role reacts to the return of station `a` (R166; R4, R25, R65, R93, R119, R148). -/
def ownerReturn (a : Nat) (r : Role) (s : State) : State :=
  match r with
  | .detector => withEntry (detectorAt s a) detectorReturns s
  | .callPoint => withEntry (callPointAt s a) callPointReturns s
  | .shutter => withEntry (shutterAt s a) (fun i s => onShutter s i Shutter.stationBack) s
  | .landing => withEntry (landingAt s a) landingReturns s
  | .ringer => withEntry (ringerAt s a) (fun _ s => dispatch s) s
  | .amplifier => withEntry (ampAt s a) ampReturns s
  | .drive | .push | .desk => s

/-- A poll of station `a` is missed (R165). A station no longer in the table has no record to change
(R162). -/
def pollMissed (a : Nat) (s : State) : State :=
  match tget s.reg.stations a with
  | none => s
  | some e =>
    let m := min (e.miss + 1) e.missLimit
    let lost := m == e.missLimit && e.presence != .missing
    let s1 := onStation s a fun e =>
      { e with miss := m, presence := if lost then .missing else e.presence }
    if lost && s.armed then ownerLoss a e.role s1 else s1

/-- The owner acts on the return: of a MISSING station and of an UNSEEN one (R166), but a landing's sides
settle afresh only when its station returns from MISSING (R28; log 9). -/
def Station.returns (e : Station) : Bool :=
  match e.presence with
  | .present => false
  | .missing => true
  | .unseen => e.role != .landing

/-- A poll of station `a` is answered (R166). -/
def pollAnswered (a : Nat) (s : State) : State :=
  match tget s.reg.stations a with
  | none => s
  | some e =>
    let s1 := onStation s a fun e => { e with miss := 0, presence := .present }
    if e.returns ∧ s.armed then ownerReturn a e.role s1 else s1

/-! ## Tapping and forwarding -/

/-- The owner takes a report of station `a` into account (R176 step 3; R3, R4, R48, R70, R104, R108, R116,
R147). A Call Point value of 1 is OPERATED: DEDUCED (unsafe), log 34. -/
def tap (a : Nat) (r : Report) (s : State) : State :=
  if s.armed then
    match r with
    | .presence => s
    | .detectorLevel v => withEntry (detectorAt s a) (fun i => detectorReport i v.toNat) s
    | .callPoint v => withEntry (callPointAt s a) (fun i => callPointReport i (v == 1)) s
    | .chain p m c =>
      if s.driveStation = some a then chainReport p.toNat (m == 1) (c == 1) s else s
    | .landing u d g t =>
      withEntry (landingAt s a) (fun f => landingReport f u.toNat d.toNat (g == 1) (t == 1)) s
    | .shutterPosition v =>
      match valueOf positions v.toNat with
      | some p => withEntry (shutterAt s a) (fun i => shutterReport i p) s
      | none => s
    | .push k => withEntry (pushAt s a k.toNat) pushPressed s
    | .answer c => if s.hasRole a .desk then answer c.toNat s else s
    | .ringDone n => withEntry (ringerAt s a) (fun i => ringDone i n.toNat) s
    | .phraseDone n => withEntry (ampAt s a) (fun f => phraseDone f n.toNat) s
  else s

/-- A report joins the forwarded-report FIFO, unless it is a Presence report (R176 step 4). -/
def forwardReport (h : Hdr) (r : Report) (s : State) : State :=
  if r = .presence then s
  else
    s.onLine fun l =>
      if l.reports.length < Config.reportFifo then { l with reports := l.reports ++ [reportFrame h r] }
      else { l with reportOverflow := true }

/-! ## The outcome of a poll -/

/-- The report is malformed (R194; R3, R176 step 1). -/
def malformed (a : Nat) (r : Report) (s : State) : Bool :=
  !reportListed r ||
    match r with
    | .chain p _ _ =>
      s.armed && s.driveStation == some a && s.pat.geometry.any fun g => decide (p.toNat ≥ g.loop)
    | _ => false

/-- Port B becomes free (R163). -/
def freePortB (s : State) : State := s.onLine fun l => { l with portB := .free }

/-- The outstanding poll, if any, is missed and Port B becomes free (R163). -/
def outstandingMissed (s : State) : State :=
  match s.line.portB with
  | .awaiting a _ => pollMissed a (freePortB s)
  | _ => s

/-- A stranger's frame (R177). A malformed report is dropped and not recorded (R176 step 1, R194). -/
def strangerArrives (h : Hdr) (r : Option Report) (s : State) : State :=
  let noted := s.onLine fun l => { l with stranger := some h.src.toNat }
  match r with
  | none => noted
  | some rep =>
    if !reportListed rep then s else if s.armed then noted else forwardReport h rep noted

/-- A frame with correct check and length arrives on Port B during the outstanding poll of `polled`; `r` is
its report, or absent when its class is not report (R163, R176, R177). -/
def frameDuringPoll (polled : Nat) (h : Hdr) (r : Option Report) (s : State) : State :=
  let a := h.src.toNat
  match tget s.reg.stations a with
  | none => strangerArrives h r (pollMissed polled s)
  | some e =>
    match r with
    | none => pollMissed polled s
    | some rep =>
      if malformed a rep s then pollMissed polled s
      else if a = polled then forwardReport h rep (tap a rep (pollAnswered polled s))
      else
        let s1 := pollMissed polled s
        if e.presence = .present then forwardReport h rep (tap a rep s1) else s1

/-- A frame arrives on Port B (R163, R164, R170). A destination or source of 0 fails the line check. -/
def receiveB (h : Hdr) (r : Option Report) (s : State) : State :=
  match s.line.portB with
  | .awaiting polled _ =>
    if h.dst = 0 ∨ h.src = 0 then outstandingMissed s
    else frameDuringPoll polled h r (freePortB s)
  | _ => s

/-! ## The panel -/

/-- A valid frame with source `src` is taken as from the panel (R171). -/
def State.fromPanel (s : State) (src : Byte) : Bool :=
  match s.reg.settings with
  | some x => src.toNat == x.panel
  | none => !outside 224 239 src.toNat

/-- A valid frame from the panel address restores panel presence and restarts the panel timer (R167); its
source is noted as the latest taken as from the panel (R191). -/
def panelHeard (src : Byte) (s : State) : State :=
  if s.fromPanel src then
    let now := s.now
    let s1 := s.onMgmt fun m => { m with lastPanel := some src.toNat }
    match s.reg.settings with
    | none => s1
    | some x =>
      s1.onReg fun r =>
        { r with
          panelTimer := some (secs x.timeout)
          panelLost := false
          panelMark := r.panelMark || r.panelLost
          awaySecs := if r.panelLost then r.lostTime.map (fun t => now - t) else r.awaySecs }
  else s

/-- The panel timer expires (R167). The seconds to the panel's return are absent from the loss to that return:
DESIGN CHOICE (unsafe), log 46. -/
def panelTimerExpires (s : State) : State :=
  if s.reg.panelTimer.isSome then
    let now := s.now
    s.onReg fun r => { r with panelTimer := none, panelLost := true, lostTime := some now, awaySecs := none }
  else s

end Sys2Proof.Machine
end

