-- ==== Sys2Proof/Machine/Line.lean ====
section
/-! DEFINITION. The Line Unit and the Order Filter (chapter 9): panel orders and their judgments, the poll
schedule, and the two transmitter arbiters. -/

namespace Sys2Proof.Machine

/-! ## The Order Filter -/

/-- An owner's answer to a submitted order (R174). -/
inductive Verdict where
  | pass
  | veto (reason : VetoReason)
  | consume
deriving DecidableEq, Repr

/-- The veto slot takes a veto, and its mark is set (R174). -/
def fillVeto (o : Order) (r : VetoReason) (st : VetoStage) (s : State) : State :=
  s.onLine fun l =>
    { l with veto := some { dst := o.head.dst, kind := o.body.kindByte, reason := r, stage := st },
             vetoMark := true }

/-- The shutter table holds a SHAFT entry (R82, R89). -/
def State.anyShaft (s : State) : Bool := tany s.shut fun e => e.kind == .shaft

/-- What forbids a Drop to a SHAFT shutter now (R82, R91). -/
def shaftDropVeto (s : State) (e : Shutter) : Option VetoReason :=
  if !s.armed then some .notArmed
  else
    match s.pat.judgeShutter e with
    | .clear => none
    | .notStopped => some .chainMoving
    | .blocked => some .landingBlocked

/-- The judgment of a panel Drop at arrival (R89 to R91). -/
def judgeDrop (dst : Byte) (s : State) : Verdict :=
  if dst = 255 then
    if s.armed then .veto .forbiddenKind else if s.anyShaft then .veto .notArmed else .pass
  else
    match (shutterAt s dst.toNat).bind (tget s.shut) with
    | none => .pass
    | some e =>
      match e.kind with
      | .department => .pass
      | .shaft =>
        match shaftDropVeto s e with
        | some r => .veto r
        | none => .pass

/-- The reason is FIRE and zone A or zone B is in PRE_ALARM or FULL_ALARM (R87, R88, R92). -/
def State.raiseHeld (s : State) (e : Shutter) : Bool :=
  e.reason == .fire && e.inZone s.zoneAlarm

/-- The judgment of a panel Raise at arrival (R89, R92). -/
def judgeRaise (dst : Byte) (s : State) : Verdict :=
  if !s.armed then .pass
  else if dst = 255 then .veto .forbiddenKind
  else
    match (shutterAt s dst.toNat).bind (tget s.shut) with
    | none => .pass
    | some e =>
      match e.state with
      | .awaitClear | .warning | .descending => .veto .shutterNotOpen
      | .open | .raising => .pass
      | .unknown => if e.inZone s.zoneAlarm then .veto .zoneInAlarm else .pass
      | .closed | .obstructed => if s.raiseHeld e then .veto .zoneInAlarm else .pass
      | .faulted =>
        if s.missing e.station then .pass else if s.raiseHeld e then .veto .zoneInAlarm else .pass

/-- The judgment of a panel order by R173 and its owner. -/
def judgeOrder (o : Order) (s : State) : Verdict :=
  if s.armed && o.head.dst != 255 && (tget s.reg.stations o.head.dst.toNat).isNone then
    .veto .unknownStation
  else
    match o.body with
    | .poll => .veto .forbiddenKind
    | .run => match s.runVeto with
      | some r => .veto r
      | none => .pass
    | .halt => .pass
    | .rest =>
      if !s.armed then .pass
      else if s.pat.state = .running ∨ s.pat.state = .runout then .consume
      else .veto .chainNotIdle
    | .stopAt _ | .cut => if s.armed then .veto .forbiddenKind else .pass
    | .drop => judgeDrop o.head.dst s
    | .raise => judgeRaise o.head.dst s
    | .phrase _ _ | .gate _ =>
      if s.armed && s.anyFull && !s.fire.silence then .veto .evacuation else .pass
    | .warn | .ring _ _ _ | .ringCancel => .pass

/-- The ringers or amplifiers an order to `dst` reaches: every one for 255. -/
def reached (dst : Byte) (all : List Nat) (one : Option Nat) : List Nat :=
  if dst = 255 then all else one.toList

/-- The value a panel Gate order is noted as: 0, 1 and 2 as R194 lists them, a free value otherwise
(log 14). -/
def gateValue (v draws : Nat) : Nat := if v ≤ 2 then v else Config.gateReading draws v % 3

/-- The record changes of a passed order while the part is ARMED (R11, R12, R90 to R92, R118, R155). An order to
255 is noted on one amplifier after another, each with the step check its becoming IDLE asks for: DESIGN CHOICE
(unsafe), log 39. -/
def notePassed (o : Order) (s : State) : State :=
  let dst := o.head.dst
  match o.body with
  | .run => s.onPat fun p => { p with start := some .running }
  | .halt => noteHalt s
  | .drop =>
    withEntry (shutterAt s dst.toNat)
      (fun i s => onShutter s i fun e => e.notePanelDrop (s.missing e.station)) s
  | .raise =>
    withEntry (shutterAt s dst.toNat)
      (fun i s => onShutter s i fun e =>
        if e.state = .closed ∨ e.state = .obstructed ∨
            (e.state = .faulted ∧ !s.missing e.station) then e.toRaising else e) s
  | .ring a b n =>
    (reached dst (s.call.ringers.map Prod.fst) (ringerAt s dst.toNat)).foldl
      (notePanelRing a.toNat b.toNat n.toNat) s
  | .phrase p n =>
    (reached dst (s.ann.amps.map Prod.fst) (ampAt s dst.toNat)).foldl
      (notePanelPhrase p.toNat n.toNat) s
  | .gate v =>
    let draws := s.mgmt.draws
    let s1 := if v.toNat ≤ 2 then s else s.onMgmt fun m => { m with draws := m.draws + 1 }
    (reached dst (s.ann.amps.map Prod.fst) (ampAt s dst.toNat)).foldl
      (notePanelGate (gateValue v.toNat draws)) s1
  | _ => s

/-- A passed order joins the forwarded-order FIFO, with its record changes; when the FIFO is full it is
dropped and the forward-overflow flag is set (R173). -/
def passOrder (o : Order) (s : State) : State :=
  if s.line.orders.length < Config.orderFifo then
    let s1 := s.onLine fun l => { l with orders := l.orders ++ [o] }
    if s.armed then notePassed o s1 else s1
  else s.onLine fun l => { l with forwardOverflow := true }

/-- The Monitor acts in place of a consumed Rest order (R13). -/
def consumeRest (s : State) : State := s.onPat fun p => p.beginStop .rest .resting

/-- An order taken as from the panel is judged and dealt with (R173, R174). -/
def filterOrder (o : Order) (s : State) : State :=
  match judgeOrder o s with
  | .pass => passOrder o s
  | .veto r => fillVeto o r .arrival s
  | .consume => consumeRest s

/-- The destination is one to which orders are routed: 1 to 223, or 255 (R171). -/
def orderDst (dst : Byte) : Bool := !outside 1 223 dst.toNat || dst == 255

/-- An order frame arrives on Port A (R170, R171, R173). -/
def orderArrives (h : Hdr) (b : OrderBody) (s : State) : State :=
  if h.dst = 0 ∨ h.src = 0 then s
  else if s.fromPanel h.src then
    let s1 := panelHeard h.src s
    if orderDst h.dst then filterOrder { head := h, body := b } s1 else s1
  else s

/-! ## The poll schedule -/

/-- A poll is due but for the free port (R161, R179). -/
def State.pollDue (s : State) : Bool := s.reg.settings.isSome && !s.reg.stations.isEmpty

/-- A station belongs to the cycle (R161). -/
def Station.inCycle (cycle : Nat) (e : Station) : Bool := e.cls == .fast || cycle % 4 == 0

/-- The station of the cycle with the least address above the position (R161). -/
def nextInCycle (t : Table Station) (cycle : Nat) (position : Option Nat) : Option Nat :=
  (tkeys t fun e => e.inCycle cycle).find? fun a => position.all (· < a)

/-- The choice of R161: the cycle reached and the station. Four further cycles are enough. -/
def choosePoll (t : Table Station) : Nat → Nat → Option Nat → Option (Nat × Nat)
  | 0, _, _ => none
  | n + 1, cycle, position =>
    match nextInCycle t cycle position with
    | some a => some (cycle, a)
    | none => choosePoll t n ((cycle + 1) % 256) none

/-- The Poll order to station `a` (R162). -/
def pollOf (a : Nat) : Order := { head := ownHead a, body := .poll }

/-- The frame being sent on Port B (R162, R179, R193). -/
def frameOnB : PortB → Option Frame
  | .sending o => some o.frame
  | .polling a => some (pollOf a).frame
  | .free | .awaiting _ _ => none

/-- The arbiter takes the poll; its transmission begins (R161, R162, R179). -/
def takePoll (s : State) : Option State :=
  match choosePoll s.reg.stations 5 s.line.cycle s.line.position with
  | none => none
  | some (c, a) =>
    some (s.onLine fun l =>
      { l with cycle := c, position := some a, portB := .polling a, orderRun := 0 })

/-- The transmission of a Poll completes: the poll is outstanding with the answer window (R162). Should the
line settings be absent by then, the window is 0 (log 31). -/
def pollSent (s : State) : State :=
  match s.line.portB with
  | .polling a =>
    let w := (s.reg.settings.map fun x => x.window * ticksPerMs).getD 0
    s.onLine fun l => { l with portB := .awaiting a w }
  | _ => s

/-! ## The Port B arbiter -/

/-- A taken order's transmission begins, and it counts as sent (R179). -/
def sendOrder (o : Order) (s : State) : State :=
  s.onLine fun l => { l with portB := .sending o, orderRun := min (l.orderRun + 1) Config.runLimit }

/-- Send an order of the part's own to station `a`. -/
def sendOwn (a : Nat) (b : OrderBody) (s : State) : State := sendOrder { head := ownHead a, body := b } s

/-- A Run that fails its judgment at sending leaves no start record (R7, R11). -/
def dropStart (s : State) : State := s.onPat fun p => { p with start := none }

/-- The target a Stop-At is sent with: searched again by the stop record's searched set (R38). -/
def searchAgain (placed : Nat) (s : State) : Nat × State :=
  match s.pat.geometry, s.pat.stop with
  | some g, some r =>
    match r.searched with
    | some k =>
      let t := (stopTarget g s.pat k).1
      (t, s.onPat fun p => { p with stop := some { r with target := some t } })
    | none => (placed, s)
  | _, _ => (placed, s)

/-- The arbiter takes the drive order slot (R7, R38). -/
def takeDrive (a : Nat) (o : DriveOrder) (s : State) : State :=
  let s1 := s.onPat fun p => { p with slot := none }
  match o with
  | .run =>
    match s.runVetoAtSending with
    | some _ => markPat (dropStart s1)
    | none => sendOwn a .run s1
  | .halt => sendOwn a .halt s1
  | .cut => sendOwn a .cut s1
  | .stopAt t =>
    let r := searchAgain t s1
    sendOwn a (.stopAt r.1) r.2

/-- A Drop is discarded at sending: a shutter in DESCENDING waits again (R82). The judgment asked for acts on this
shutter alone: DEDUCED (unsafe), log 47. -/
def dropDiscarded (i : Nat) (r : VetoReason) (s : State) : State :=
  match tget s.shut i with
  | none => s
  | some e =>
    if e.state = .descending then
      match r with
      | .landingBlocked => onShutter s i Shutter.obstructCar
      | .chainMoving => awaitEntered i (onShutter s i Shutter.await)
      | _ => s
    else s

/-- A Raise is discarded at sending: a shutter in RAISING returns to its prior state (R88). -/
def raiseDiscarded (i : Nat) (s : State) : State :=
  onShutter s i fun e => if e.state = .raising then e.returnPrior else e

/-- The arbiter takes shutter `i`'s slot (R82, R88). -/
def takeShutter (i : Nat) (e : Shutter) (o : ShutterOrder) (s : State) : State :=
  let s1 := onShutter s i fun e => { e with slot := none }
  match o with
  | .warn => sendOwn e.station .warn s1
  | .drop =>
    match e.kind with
    | .department => sendOwn e.station .drop s1
    | .shaft =>
      match shaftDropVeto s e with
      | some r => dropDiscarded i r s1
      | none => sendOwn e.station .drop s1
  | .raise => if s.raiseHeld e then raiseDiscarded i s1 else sendOwn e.station .raise s1

/-- The order of an amplifier's slot on the line (R146, R194). -/
def AmpOrder.body : AmpOrder → OrderBody
  | .phrase p n => .phrase (byteOf p) (byteOf n)
  | .gateOn g => .gate (byteOf (g + 1))
  | .gateOff => .gate 0

/-- The arbiter takes the slot of the amplifier on floor `f`; a Gate on sent is an occasion of R150. -/
def takeAmp (f : Nat) (a : Amp) (o : AmpOrder) (s : State) : State :=
  let s1 := sendOwn a.station o.body (onAmp s f fun a => { a with slot := none })
  match o with
  | .gateOn g => trySounding g s1
  | _ => s1

/-- The arbiter takes ringer `i`'s slot (R107). A Ring whose ringer has become IDLE is sent unchecked
(log 12). -/
def takeRinger (i : Nat) (g : Ringer) (o : RingerOrder) (s : State) : State :=
  match o with
  | .ring a b n =>
    if g.ring.any fun r => decide (r.priority < s.call.level) then discardRing i s
    else
      sendOwn g.station (.ring (byteOf a) (byteOf b) (byteOf n))
        (onRinger s i fun g => { g with slot := none })
  | .cancel => sendOwn g.station .ringCancel (onRinger s i fun g => { g with slot := none })

/-- Some shutter a Raise to 255 would reach has reason FIRE and a zone in alarm (R88). -/
def State.anyRaiseHeld (s : State) : Bool := tany s.shut s.raiseHeld

/-- The judgment at sending of the order at the head of the forwarded-order FIFO (R175). -/
def sendingVeto (o : Order) (s : State) : Option VetoReason :=
  match o.body with
  | .run => s.runVetoAtSending
  | .drop =>
    if o.head.dst = 255 then
      if s.anyShaft then some (if s.armed then .forbiddenKind else .notArmed) else none
    else
      match (shutterAt s o.head.dst.toNat).bind (tget s.shut) with
      | some e => if e.kind = .shaft then shaftDropVeto s e else none
      | none => none
  | .raise =>
    if o.head.dst = 255 then if s.anyRaiseHeld then some .zoneInAlarm else none
    else
      match (shutterAt s o.head.dst.toNat).bind (tget s.shut) with
      | some e => if s.raiseHeld e then some .zoneInAlarm else none
      | none => none
  | _ => none

/-- What becomes of the records when a panel order is discarded at sending (R11, R82, R88; log 25). -/
def orderDiscarded (o : Order) (r : VetoReason) (s : State) : State :=
  match o.body with
  | .run => dropStart s
  | .drop => withEntry (shutterAt s o.head.dst.toNat) (fun i => dropDiscarded i r) s
  | .raise => withEntry (shutterAt s o.head.dst.toNat) raiseDiscarded s
  | _ => s

/-- The arbiter takes the head of the forwarded-order FIFO (R175, R179). -/
def takeForwarded (o : Order) (rest : List Order) (s : State) : State :=
  let s1 := s.onLine fun l => { l with orders := rest }
  match sendingVeto o s with
  | some r => fillVeto o r .sending (orderDiscarded o r s1)
  | none => sendOrder o s1

/-- The first entry of a table whose slot holds an order. -/
def firstSlot {α β : Type} (slot : α → Option β) : Table α → Option (Nat × α × β)
  | [] => none
  | (i, e) :: rest =>
    match slot e with
    | some o => some (i, e, o)
    | none => firstSlot slot rest

/-- The arbiter takes its first order candidate, sending or discarding it; `none` when no order waits
(R179). -/
def takeOrder (s : State) : Option State :=
  match s.driveStation, s.pat.slot with
  | some a, some o => some (takeDrive a o s)
  | _, _ =>
    match firstSlot Shutter.slot s.shut with
    | some (i, e, o) => some (takeShutter i e o s)
    | none =>
      match firstSlot Amp.slot s.ann.amps with
      | some (f, a, o) => some (takeAmp f a o s)
      | none =>
        match firstSlot Ringer.slot s.call.ringers with
        | some (i, g, o) => some (takeRinger i g o s)
        | none =>
          match s.line.orders with
          | o :: rest => some (takeForwarded o rest s)
          | [] => none

/-- One candidate of the Port B arbiter (R179). -/
def takeB (s : State) : Option State :=
  if s.line.orderRun ≥ Config.runLimit ∧ s.pollDue then takePoll s
  else
    match takeOrder s with
    | some s1 => some s1
    | none => if s.pollDue then takePoll s else none

/-- The Port B arbiter decides while the port is free and a candidate waits; a discarded candidate is
followed by the next (R175, R179), which is the first of the list as the discard leaves it: DESIGN CHOICE
(unsafe), log 42. -/
def arbiterB : Nat → State → State
  | 0, s => s
  | n + 1, s =>
    if s.line.portB = .free then
      match takeB s with
      | some s1 => arbiterB n s1
      | none => s
    else s

/-! ## The Port A arbiter -/

/-- A notice's destination (R191). -/
def noticeDst (s : State) : Byte :=
  match s.reg.settings, s.mgmt.lastPanel with
  | some x, _ => byteOf x.panel
  | none, some a => byteOf a
  | none, none => 255

/-- A notice of code `c`, kind byte 5 × 32 + c (R191, R193). -/
def noticeFrame (s : State) (c : Nat) (payload : List Byte) : Frame :=
  { dst := noticeDst s, src := 240, kind := byteOf (160 + c), tag := 0, payload := payload }

/-- The first entry of a table whose mark is set. -/
def firstMarked {α : Type} (mark : α → Bool) : Table α → Option (Nat × α)
  | [] => none
  | (i, e) :: rest => if mark e then some (i, e) else firstMarked mark rest

/-- The next notice, with the state it leaves: the item's mark is cleared (R180, R191). -/
def takeNotice (s : State) : Option (Frame × State) :=
  match firstMarked Zone.mark s.fire.zones with
  | some (z, e) =>
    some (noticeFrame s 1 (zonePayload s z e), onZone s z fun e => { e with mark := false })
  | none =>
  match firstMarked Shutter.mark s.shut with
  | some (i, e) =>
    some (noticeFrame s 2 (shutterPayload i e), onShutter s i fun e => { e with mark := false })
  | none =>
  if s.pat.mark then
    some (noticeFrame s 3 (patPayload s.pat), s.onPat fun p => { p with mark := false })
  else
  match firstMarked Station.mark s.reg.stations with
  | some (a, e) =>
    some (noticeFrame s 4 (stationPayload a e), onStation s a fun e => { e with mark := false })
  | none =>
  if s.reg.panelMark then
    some (noticeFrame s 4 (panelPayload s.reg), s.onReg fun r => { r with panelMark := false })
  else if s.call.mark then
    some (noticeFrame s 5 (callPayload s.call), s.onCall fun u => { u with mark := false })
  else if s.ann.mark then
    some (noticeFrame s 6 (closingPayload s), s.onAnn fun u => { u with mark := false })
  else
  match s.line.vetoMark, s.line.veto with
  | true, some v =>
    some (noticeFrame s 7 (vetoPayload v), s.onLine fun l => { l with veto := none, vetoMark := false })
  | _, _ =>
  if s.board.mark then
    some (noticeFrame s 8 (boardPayload s.board),
      s.onBoard fun b => { b with mark := false, testDone := false })
  else none

/-- A frame's transmission on Port A begins. -/
def sendA (f : Frame) (run : Nat) (s : State) : State :=
  s.onLine fun l => { l with portA := some f, localRun := run }

/-- The head of the forwarded-report FIFO is taken (R180). -/
def takeReport (f : Frame) (rest : List Frame) (s : State) : State :=
  sendA f 0 (s.onLine fun l => { l with reports := rest })

/-- The reply is taken, or else the next notice, and counted (R172, R180). -/
def takeLocal (s : State) : Option State :=
  let run := min (s.line.localRun + 1) Config.runLimit
  match s.line.reply with
  | some f => some (sendA f run (s.onLine fun l => { l with reply := none }))
  | none => (takeNotice s).map fun r => sendA r.1 run r.2

/-- The Port A arbiter decides when the transmitter is free (R180). -/
def arbiterA (s : State) : State :=
  match s.line.portA with
  | some _ => s
  | none =>
    match s.line.reports with
    | [] => (takeLocal s).getD s
    | f :: rest =>
      if s.line.localRun ≥ Config.runLimit then takeReport f rest s
      else
        match takeLocal s with
        | some s1 => s1
        | none => takeReport f rest s

end Sys2Proof.Machine
end

