-- ==== Sys2Proof/Machine/Tables.lean ====
section
/-! DEFINITION. The loadable tables and records (R195): reading an entry's data, and each table's own checks
at a write and at a delete, with what an accepted one leaves. -/

namespace Sys2Proof.Machine

/-- The loadable tables and records, in the order of their codes 1 to 18 (R195). -/
inductive TableId where
  | station | lineSettings | geometry | landing | detector | callPoint | zone | fireSettings | shutter
  | push | pattern | ringer | boardLayout | onTimes | day | closing | chime | amplifier
deriving DecidableEq, Repr

/-- The tables in the order of their codes (R195). -/
def tableIds : List TableId :=
  [.station, .lineSettings, .geometry, .landing, .detector, .callPoint, .zone, .fireSettings, .shutter,
   .push, .pattern, .ringer, .boardLayout, .onTimes, .day, .closing, .chime, .amplifier]

/-- The table a code names (R195). -/
def tableOf (code : Nat) : Option TableId := if code = 0 then none else tableIds[code - 1]?

/-- A table's code (R195). -/
def TableId.code (t : TableId) : Nat := tableIds.idxOf t + 1

/-- The table governs fire and chain safety (R185). -/
def TableId.safety : TableId → Bool
  | .station | .lineSettings | .geometry | .landing | .detector | .callPoint | .zone | .fireSettings
  | .shutter => true
  | .push | .pattern | .ringer | .boardLayout | .onTimes | .day | .closing | .chime | .amplifier => false

/-- The index lies in the table's index range (R185 check 3). -/
def TableId.indexOk (t : TableId) (i : Nat) : Bool :=
  match t with
  | .station => !outside 1 223 i
  | .lineSettings | .geometry | .fireSettings | .onTimes => i == 0
  | .landing | .amplifier => i < 8
  | .detector => i < 48
  | .callPoint => i < 24
  | .zone | .pattern | .ringer | .chime => i < 16
  | .shutter | .closing => i < 32
  | .push | .boardLayout => i < 64
  | .day => i < 7

/-- A closing step's unused bytes are 0 (R195): no first parameter for NIGHT and END, a floors mask in the
low byte of the second parameter for CHIME, PHRASE and NIGHT, no second one for LEVEL, RUNOUT and END. -/
def stepBytesOk (d : List Byte) : Bool :=
  match byteAt d 2 with
  | 0 | 1 => byteAt d 4 == 0
  | 3 | 4 => wordAt d 4 == 0
  | 5 => byteAt d 3 == 0 && byteAt d 4 == 0
  | 6 => byteAt d 3 == 0 && wordAt d 4 == 0
  | _ => true

/-- The notes of a chime's data, four bytes each from byte `k` (R195). -/
def noteBytes : List Byte → List (List Byte)
  | a :: b :: c :: e :: rest => [a, b, c, e] :: noteBytes rest
  | _ => []

/-- A REST note's divider is 0 (R195). -/
def restOk (n : List Byte) : Bool := !(byteAt n 1 == 4) || byteAt n 0 == 0

/-- A chime's data fits a part: part 0 carries the repeat count and 1 to 4 notes, part 1 carries 1 to 4
notes (R195). A part byte that is neither cannot be read: DESIGN CHOICE (unsafe), log 43. -/
def chimeBytesOk (d : List Byte) : Bool :=
  match byteAt d 0, d with
  | 0, _ :: _ :: notes =>
    [4, 8, 12, 16].contains notes.length && (noteBytes notes).all restOk
  | 1, _ :: notes => [4, 8, 12, 16].contains notes.length && (noteBytes notes).all restOk
  | _, _ => false

/-- The entry data can be read as the table's layout (R184, R195). -/
def TableId.dataOk (t : TableId) (d : List Byte) : Bool :=
  match t with
  | .station => d.length == 4
  | .lineSettings => d.length == 3
  | .geometry => d.length == 14
  | .landing => d.length == 7
  | .detector => d.length == 5
  | .callPoint => d.length == 2
  | .zone => d.length == 6
  | .fireSettings => d.length == 4
  | .shutter => d.length == 9
  | .push => d.length == 8
  | .pattern => d.length == 6
  | .ringer => d.length == 2
  | .boardLayout => d.length == 2 && !(byteAt d 0 == 0 && byteAt d 1 != 0)
  | .onTimes => d.length == 3
  | .day => d.length == 2
  | .closing => d.length == 6 && stepBytesOk d
  | .chime => chimeBytesOk d
  | .amplifier => d.length == 2

/-! ## References -/

/-- Another entry of the table, at an index other than `i`, meets `p`. -/
def anyOther {α : Type} (t : Table α) (i : Nat) (p : α → Bool) : Bool := t.any fun e => e.1 != i && p e.2

/-- The table has no entry at an optional index that is given. -/
def optMissing {α : Type} (t : Table α) (i : Option Nat) : Bool := i.any fun k => (tget t k).isNone

/-- An entry of a role table names station `a` (R158). -/
def stationNamed (s : State) (a : Nat) : Bool :=
  tany s.fire.detectors (fun d => d.station == a) || tany s.fire.callPoints (fun c => c.station == a) ||
    tany s.shut (fun e => e.station == a) || tany s.pat.landings (fun l => l.station == a) ||
    tany s.call.pushes (fun p => p.station == a) || tany s.call.ringers (fun g => g.station == a) ||
    tany s.ann.amps fun x => x.station == a

/-- A cell is assigned `x` (R122). -/
def cellNames (s : State) (x : Assignment) : Bool := tany s.board.layout (· == x)

/-- Something names zone `z` (R46). -/
def zoneNamed (s : State) (z : Nat) : Bool :=
  tany s.fire.detectors (fun d => d.zone == z) || tany s.fire.callPoints (fun c => c.zone == z) ||
    tany s.shut (fun e => e.inZone (· == z)) || cellNames s (.zone z)

/-- Something names pattern `i` (R97). -/
def patternNamed (s : State) (i : Nat) : Bool :=
  tany s.call.pushes (fun p => p.pattern == i || p.escalation.any fun e => e.2 == i) ||
    s.fire.settings.any (fun f => f.pattern == i) ||
    tany s.ann.programme (fun st => match st.kind with
      | .ring p _ => p == i
      | _ => false) ||
    s.call.queue.any (fun r => r.pattern == i) ||
    tany s.call.ringers fun g => match g.ring with
      | some (.request r) => r.pattern == i
      | _ => false

/-- A push names ringer `i` (R98). -/
def ringerNamed (s : State) (i : Nat) : Bool :=
  tany s.call.pushes fun p => p.ringer == i || p.escalation.any fun e => e.1 == i

/-- Ringer `i` is RINGING, its slot holds an order, or a queued request names it (R98). -/
def ringerBusy (s : State) (i : Nat) : Bool :=
  ((tget s.call.ringers i).any fun g => g.ring.isSome || g.slot.isSome) ||
    s.call.queue.any fun r => r.ringer == i

/-- A generator plays chime `i` (R149). -/
def chimePlaying (s : State) (i : Nat) : Bool :=
  s.ann.gen0.any (fun p => p.chime == i) || s.ann.gen1.any fun p => p.chime == i

/-- A CHIME step names chime `i` (R149). -/
def chimeNamed (s : State) (i : Nat) : Bool :=
  tany s.ann.programme fun st => match st.kind with
    | .chime c _ => c == i
    | _ => false

/-- The amplifier on floor `f` is not IDLE or its slot holds an order (R146). -/
def ampBusy (s : State) (f : Nat) : Bool :=
  (tget s.ann.amps f).any fun a => a.state != .idle || a.slot.isSome

/-- While the part is ARMED, the station is not in the station table with the role (R96, R98, R146). -/
def roleLacking (s : State) (a : Nat) (r : Role) : Bool := s.armed && !s.hasRole a r

/-- Finish a write: refused with the first failing check's code, otherwise `ok` (R185 check 6). -/
def checked (s : State) (checks : List (Bool × Code)) (ok : State) : Result :=
  match firstFailure checks with
  | some c => refuse s c
  | none => accept ok

/-! ## Writes -/

/-- R158, R159: a new entry starts UNSEEN; a rewritten one keeps its presence; the miss count becomes 0. -/
def writeStation (a : Nat) (d : List Byte) (s : State) : Result :=
  let old := tget s.reg.stations a
  let e : Station :=
    { role := (valueOf roles (byteAt d 0)).getD .detector, floor := byteAt d 1,
      cls := (valueOf pollClasses (byteAt d 2)).getD .fast, missLimit := byteAt d 3,
      presence := (old.map fun o => o.presence).getD .unseen, miss := 0,
      mark := (old.map fun o => o.mark).getD false }
  checked s
    [(old.isNone && decide (s.reg.stations.length ≥ Config.stationTable), .badIndex),
     (decide (byteAt d 0 > 8) || decide (byteAt d 1 > 7) || decide (byteAt d 2 > 1) ||
       outside 1 8 (byteAt d 3), .badValue)]
    (s.onReg fun r => { r with stations := tput r.stations a e })

/-- R160, R167: the panel timer starts when the record is written. -/
def writeLineSettings (d : List Byte) (s : State) : Result :=
  let e : LineSettings := { panel := byteAt d 0, window := byteAt d 1, timeout := byteAt d 2 }
  checked s
    [(outside 224 239 e.panel || outside 5 100 e.window || outside 5 120 e.timeout, .badValue)]
    (s.onReg fun r => { r with settings := some e, panelTimer := some (secs e.timeout) })

/-- The geometry record's fields in their layout (R195). -/
def geometryOf (d : List Byte) : Geometry :=
  { pitch := wordAt d 0, cars := byteAt d 2, carLength := wordAt d 3, margin := byteAt d 5,
    braking := wordAt d 6, slipLimit := byteAt d 8, stopTimeout := byteAt d 9, resumeDelay := byteAt d 10,
    guardLimit := byteAt d 11, guardWindow := wordAt d 12 }

/-- A range or relation of R1 is broken. -/
def geometryBad (g : Geometry) : Bool :=
  outside 100 1000 g.pitch || outside 2 32 g.cars || decide (g.loop > 32000) ||
    outside 40 (g.pitch - 1) g.carLength || decide (g.margin > 50) ||
    decide (g.width > g.pitch - 1) || decide (g.braking > g.pitch - 1) || outside 1 8 g.slipLimit ||
    outside 1 30 g.stopTimeout || outside 1 60 g.resumeDelay || outside 1 8 g.guardLimit ||
    outside 10 600 g.guardWindow

/-- R1. -/
def writeGeometry (d : List Byte) (s : State) : Result :=
  checked s [(geometryBad (geometryOf d), .badValue)]
    (s.onPat fun p => { p with geometry := some (geometryOf d) })

/-- R2. A new entry's records start as R4 and R28 state; a rewritten one keeps them. -/
def writeLanding (f : Nat) (d : List Byte) (s : State) : Result :=
  let base := (tget s.pat.landings f).getD
    { up := 0, down := 0, station := 0, restClear := false, rank := 0, tripped := false,
      stopSwitch := false, upBeam := Beam.start, downBeam := Beam.start }
  let e := { base with up := wordAt d 0, down := wordAt d 2, station := byteAt d 4,
                       restClear := byteAt d 5 == 1, rank := byteAt d 6 }
  checked s
    [(decide (e.up > 31999) || decide (e.down > 31999) || outside 1 223 e.station ||
       decide (byteAt d 5 > 1) || decide (e.rank > 7), .badValue)]
    (s.onPat fun p => { p with landings := tput p.landings f e })

/-- R44. -/
def writeDetector (i : Nat) (d : List Byte) (s : State) : Result :=
  let base := (tget s.fire.detectors i).getD
    { station := 0, zone := 0, alarm := 0, restore := 0, confirm := 0, level := 0, run := 0,
      active := false, fault := false }
  let e := { base with station := byteAt d 0, zone := byteAt d 1, alarm := byteAt d 2,
                       restore := byteAt d 3, confirm := byteAt d 4 }
  checked s
    [(outside 1 223 e.station || decide (e.zone > 15) || decide (e.alarm < 1) ||
       decide (e.restore ≥ e.alarm) || outside 1 8 e.confirm, .badValue),
     ((tget s.fire.zones e.zone).isNone, .badIndex),
     (anyOther s.fire.detectors i (fun o => o.station == e.station), .inUse)]
    (s.onFire fun u => { u with detectors := tput u.detectors i e })

/-- R45. -/
def writeCallPoint (i : Nat) (d : List Byte) (s : State) : Result :=
  let base := (tget s.fire.callPoints i).getD { station := 0, zone := 0, operated := false, fault := false }
  let e := { base with station := byteAt d 0, zone := byteAt d 1 }
  checked s
    [(outside 1 223 e.station || decide (e.zone > 15), .badValue),
     ((tget s.fire.zones e.zone).isNone, .badIndex),
     (anyOther s.fire.callPoints i (fun o => o.station == e.station), .inUse)]
    (s.onFire fun u => { u with callPoints := tput u.callPoints i e })

/-- R46. -/
def writeZone (i : Nat) (d : List Byte) (s : State) : Result :=
  let base := (tget s.fire.zones i).getD
    { ackTime := 0, investTime := 0, coincidence := false, evacFloors := 0, tableIsolated := false,
      state := .quiet, timer := none, acked := false, confirmers := 0, fault := false, mark := false }
  let e := { base with ackTime := byteAt d 0, investTime := wordAt d 1, coincidence := byteAt d 3 == 1,
                       evacFloors := d[4]?.getD 0, tableIsolated := byteAt d 5 == 1 }
  checked s
    [(outside 10 120 e.ackTime || outside 30 600 e.investTime || decide (byteAt d 3 > 1) ||
       decide (byteAt d 5 > 1), .badValue)]
    (s.onFire fun u => { u with zones := tput u.zones i e })

/-- R47. -/
def writeFireSettings (d : List Byte) (s : State) : Result :=
  let e : FireSettings :=
    { evacPhrase := byteAt d 0, alertPhrase := byteAt d 1, pattern := byteAt d 2, gap := byteAt d 3 }
  checked s
    [(decide (e.pattern > 15) || outside 1 30 e.gap, .badValue),
     ((tget s.call.patterns e.pattern).isNone, .badIndex)]
    (s.onFire fun u => { u with settings := some e })

/-- The shutter entry a layout gives, over the run-time fields of `base` (R68, R195). -/
def shutterOf (base : Shutter) (d : List Byte) : Shutter :=
  { base with station := byteAt d 0, zoneA := byteAt d 1, zoneB := optAt d 2,
              kind := if byteAt d 3 = 1 then .shaft else .department, landing := optAt d 4,
              floor := byteAt d 5, warnTime := byteAt d 6, travelLimit := byteAt d 7,
              night := byteAt d 8 == 1 }

/-- A shutter entry with the starting values of R95. -/
def Shutter.blank : Shutter :=
  { station := 0, zoneA := 0, zoneB := none, kind := .department, landing := none, floor := 0,
    warnTime := 0, travelLimit := 0, night := false, state := .unknown, reason := .none,
    obstruction := none, fault := none, timer := none, attempts := 0, prior := none, last := none,
    slot := none, mark := false }

/-- R68. -/
def writeShutter (i : Nat) (d : List Byte) (s : State) : Result :=
  let e := shutterOf ((tget s.shut i).getD Shutter.blank) d
  checked s
    [(outside 1 223 e.station || decide (e.zoneA > 15) || optAbove 15 e.zoneB || decide (byteAt d 3 > 1) ||
       optAbove 7 e.landing || decide (e.floor > 7) || decide (e.warnTime > 60) ||
       outside 5 120 e.travelLimit || decide (byteAt d 8 > 1) ||
       (e.kind == .shaft && e.landing.isNone) || (e.kind == .department && e.landing.isSome) ||
       (e.kind == .shaft && e.landing.any (· != e.floor)) || e.zoneB == some e.zoneA, .badValue),
     ((tget s.fire.zones e.zoneA).isNone || optMissing s.fire.zones e.zoneB ||
       optMissing s.pat.landings e.landing, .badIndex),
     (anyOther s.shut i (fun o => o.station == e.station), .inUse)]
    (s.onShut fun t => tput t i e)

/-- R96. The push's call, if any, keeps its next ring time, also when the new pattern is NORMAL: DESIGN CHOICE
(unsafe), log 37. -/
def writePush (i : Nat) (d : List Byte) (s : State) : Result :=
  let er := optAt d 6
  let ep := optAt d 7
  let e : Push :=
    { station := byteAt d 0, key := byteAt d 1, floor := byteAt d 2, priority := byteAt d 3,
      pattern := byteAt d 4, ringer := byteAt d 5,
      escalation := er.bind fun r => ep.map fun p => (r, p) }
  checked s
    [(outside 1 223 e.station || decide (e.key > 7) || decide (e.floor > 7) || decide (e.priority > 6) ||
       decide (e.pattern > 15) || decide (e.ringer > 15) || optAbove 15 er || optAbove 15 ep ||
       er.isSome != ep.isSome || e.escalation == some (e.ringer, e.pattern), .badValue),
     ((tget s.call.patterns e.pattern).isNone || (tget s.call.ringers e.ringer).isNone ||
       optMissing s.call.ringers er || optMissing s.call.patterns ep || roleLacking s e.station .push,
       .badIndex),
     (anyOther s.call.pushes i (fun o => o.station == e.station && o.key == e.key), .inUse)]
    (s.onCall fun u => { u with pushes := tput u.pushes i e })

/-- R97. -/
def writePattern (i : Nat) (d : List Byte) (s : State) : Result :=
  let int := optWordAt d 3
  let lim := optAt d 5
  let e : Pattern :=
    { strokes := byteAt d 0, spacing := byteAt d 1,
      repeating := if byteAt d 2 = 1 then int.bind fun n => lim.map fun l => (n, l) else none }
  checked s
    [(outside 1 15 e.strokes || outside 1 20 e.spacing || decide (byteAt d 2 > 1) ||
       int.any (outside 5 600) || optAbove 15 lim ||
       (byteAt d 2 == 0 && (int.isSome || lim.isSome)) ||
       (byteAt d 2 == 1 && (int.isNone || lim.isNone)), .badValue)]
    (s.onCall fun u => { u with patterns := tput u.patterns i e })

/-- R98. -/
def writeRinger (i : Nat) (d : List Byte) (s : State) : Result :=
  let base := (tget s.call.ringers i).getD
    { station := 0, floor := 0, ring := none, number := none, timer := none, slot := none }
  let e := { base with station := byteAt d 0, floor := byteAt d 1 }
  checked s
    [(outside 1 223 e.station || decide (e.floor > 7), .badValue),
     (roleLacking s e.station .ringer, .badIndex), (ringerBusy s i, .busy)]
    (s.onCall fun u => { u with ringers := tput u.ringers i e })

/-- The assignment a layout gives, with its parameter in range (R122, R195). -/
def assignmentOf (d : List Byte) : Option Assignment :=
  let p := byteAt d 1
  match byteAt d 0 with
  | 0 => some .none
  | 1 => if p ≤ 63 then some (.push p) else none
  | 2 => if p ≤ 15 then some (.zone p) else none
  | 3 => if p ≤ 31 then some (.shutter p) else none
  | 4 => (valueOf fixedConditions p).map .fixed
  | _ => none

/-- The assignment names an absent entry (R122). -/
def assignmentDangling (s : State) : Assignment → Bool
  | .push i => (tget s.call.pushes i).isNone
  | .zone i => (tget s.fire.zones i).isNone
  | .shutter i => (tget s.shut i).isNone
  | .none | .fixed _ => false

/-- Another cell already names the same push, zone or shutter (R122). -/
def assignmentTaken (s : State) (cell : Nat) (a : Assignment) : Bool :=
  match a with
  | .none | .fixed _ => false
  | _ => anyOther s.board.layout cell (· == a)

/-- R122. -/
def writeCell (i : Nat) (d : List Byte) (s : State) : Result :=
  match assignmentOf d with
  | none => refuse s .badValue
  | some a =>
    checked s [(assignmentDangling s a, .badIndex), (assignmentTaken s i a, .inUse)]
      (s.onBoard fun b => { b with layout := tput b.layout i a })

/-- R123. -/
def writeOnTimes (d : List Byte) (s : State) : Result :=
  let e : OnTimes := { n1 := byteAt d 0, n2 := byteAt d 1, limit := byteAt d 2 }
  checked s [(decide (e.n2 < e.n1) || outside 5 40 e.limit, .badValue)]
    (s.onBoard fun b => { b with settings := some e })

/-- R137. -/
def writeDay (i : Nat) (d : List Byte) (s : State) : Result :=
  checked s [(decide (wordAt d 0 > 1439), .badValue)]
    (s.onAnn fun u => { u with days := tput u.days i (wordAt d 0) })

/-- The step kind a layout gives, with its parameters in range (R138, R195). The floors mask is the low byte
of a two-byte quantity, and the ringers mask is a set of two bytes (R194; DEDUCED, log 32). -/
def stepKindOf (d : List Byte) : Option StepKind :=
  let p := byteAt d 3
  let floors : FloorSet := d[5]?.getD 0
  let ringers : RingerSet := d[5]?.getD 0 ++ d[4]?.getD 0
  match byteAt d 2 with
  | 0 => if p ≤ 15 then some (.chime p floors) else none
  | 1 => some (.phrase p floors)
  | 2 => if p ≤ 15 then some (.ring p ringers) else none
  | 3 => if p ≤ 7 then some (.level p) else none
  | 4 => if outside 1 4 p then none else some (.runout p)
  | 5 => some (.night floors)
  | 6 => some .finish
  | _ => none

/-- The chime or pattern a step names is absent (R138). -/
def stepDangling (s : State) : StepKind → Bool
  | .chime c _ => (tget s.ann.chimes c).isNone
  | .ring p _ => (tget s.call.patterns p).isNone
  | _ => false

/-- The offset is below that of the nearest present step at a lower index, or above that of the nearest at a
higher index (R138). -/
def offsetOut (t : Table Step) (i offset : Nat) : Bool :=
  ((t.filter fun e => e.1 < i).getLast?.any fun e => decide (offset < e.2.offset)) ||
    (t.filter fun e => i < e.1).head?.any fun e => decide (offset > e.2.offset)

/-- R138; the order of its checks is log 18. -/
def writeStep (i : Nat) (d : List Byte) (s : State) : Result :=
  let offset := wordAt d 0
  match stepKindOf d with
  | none => refuse s .badValue
  | some k =>
    checked s
      [(decide (offset > 3600), .badValue), (stepDangling s k, .badIndex),
       (offsetOut s.ann.programme i offset, .badValue), (s.ann.closing == .running, .wrongState)]
      (s.onAnn fun u => { u with programme := tput u.programme i { offset := offset, kind := k } })

/-- A note of a chime (R149, R195). -/
def noteOf (n : List Byte) : Note :=
  { pitch := (valueOf noteClocks (byteAt n 1)).map fun c => (byteAt n 0, c),
    duration := byteAt n 2, gap := byteAt n 3 }

/-- A field of a note lies outside its range (R149). -/
def noteBad (n : List Byte) : Bool := decide (byteAt n 1 > 4) || decide (byteAt n 2 < 1)

/-- R149, R195; the order of the checks is log 18. -/
def writeChime (i : Nat) (d : List Byte) (s : State) : Result :=
  if byteAt d 0 = 0 then
    let notes := noteBytes (d.drop 2)
    checked s
      [(outside 1 4 (byteAt d 1) || notes.any noteBad, .badValue), (chimePlaying s i, .busy)]
      (s.onAnn fun u =>
        { u with chimes := tput u.chimes i { notes := notes.map noteOf, repeats := byteAt d 1 } })
  else
    let notes := noteBytes (d.drop 1)
    let old := tget s.ann.chimes i
    checked s
      [(notes.any noteBad, .badValue), (chimePlaying s i, .busy), (old.isNone, .badIndex),
       (old.any fun c => c.notes.length != 4, .wrongState)]
      (s.onAnn fun u =>
        { u with chimes := tmod u.chimes i fun c => { c with notes := c.notes ++ notes.map noteOf } })

/-- R146. A rewritten entry keeps its run-time record, a running gap timer too: DESIGN CHOICE (unsafe), log 51. -/
def writeAmp (i : Nat) (d : List Byte) (s : State) : Result :=
  let base := (tget s.ann.amps i).getD
    { station := 0, floor := 0, state := .idle, origin := none, phrase := none, number := none,
      phraseTimer := none, gen := none, gapTimer := none, owed := false, slot := none }
  let e := { base with station := byteAt d 0, floor := byteAt d 1 }
  checked s
    [(outside 1 223 e.station || e.floor != i, .badValue),
     (roleLacking s e.station .amplifier, .badIndex),
     (anyOther s.ann.amps i (fun o => o.station == e.station), .inUse), (ampBusy s i, .busy)]
    (s.onAnn fun u => { u with amps := tput u.amps i e })

/-- The table's own checks at a Write Entry, and the write (R185 check 6). -/
def writeTable (t : TableId) (i : Nat) (d : List Byte) (s : State) : Result :=
  match t with
  | .station => writeStation i d s
  | .lineSettings => writeLineSettings d s
  | .geometry => writeGeometry d s
  | .landing => writeLanding i d s
  | .detector => writeDetector i d s
  | .callPoint => writeCallPoint i d s
  | .zone => writeZone i d s
  | .fireSettings => writeFireSettings d s
  | .shutter => writeShutter i d s
  | .push => writePush i d s
  | .pattern => writePattern i d s
  | .ringer => writeRinger i d s
  | .boardLayout => writeCell i d s
  | .onTimes => writeOnTimes d s
  | .day => writeDay i d s
  | .closing => writeStep i d s
  | .chime => writeChime i d s
  | .amplifier => writeAmp i d s

/-! ## Deletes -/

/-- The table's own checks at a Delete Entry, and the deletion (R185 check 6). -/
def deleteTable (t : TableId) (i : Nat) (s : State) : Result :=
  match t with
  | .station =>
    checked s [(stationNamed s i, .inUse)] (s.onReg fun r => { r with stations := tdel r.stations i })
  | .lineSettings => accept (s.onReg fun r => { r with settings := none, panelTimer := none })
  | .geometry => accept (s.onPat fun p => { p with geometry := none })
  | .landing =>
    checked s [(tany s.shut (fun e => e.landing == some i), .inUse)]
      (s.onPat fun p => { p with landings := tdel p.landings i })
  | .detector => accept (s.onFire fun u => { u with detectors := tdel u.detectors i })
  | .callPoint => accept (s.onFire fun u => { u with callPoints := tdel u.callPoints i })
  | .zone =>
    checked s [(zoneNamed s i, .inUse)] (s.onFire fun u => { u with zones := tdel u.zones i })
  | .fireSettings => accept (s.onFire fun u => { u with settings := none })
  | .shutter =>
    checked s [(cellNames s (.shutter i), .inUse)] (s.onShut fun t => tdel t i)
  | .push =>
    checked s [(cellNames s (.push i) || s.call.hasCall i, .inUse)]
      (s.onCall fun u => { u with pushes := tdel u.pushes i })
  | .pattern =>
    checked s [(patternNamed s i, .inUse)] (s.onCall fun u => { u with patterns := tdel u.patterns i })
  | .ringer =>
    checked s [(ringerBusy s i, .busy), (ringerNamed s i, .inUse)]
      (s.onCall fun u => { u with ringers := tdel u.ringers i })
  | .boardLayout => accept (s.onBoard fun b => { b with layout := tdel b.layout i })
  | .onTimes =>
    checked s [(s.board.mode != .dark, .busy)] (s.onBoard fun b => { b with settings := none })
  | .day => accept (s.onAnn fun u => { u with days := tdel u.days i })
  | .closing =>
    checked s [(s.ann.closing == .running, .wrongState)]
      (s.onAnn fun u => { u with programme := tdel u.programme i })
  | .chime =>
    checked s [(chimeNamed s i, .inUse), (chimePlaying s i, .busy)]
      (s.onAnn fun u => { u with chimes := tdel u.chimes i })
  | .amplifier =>
    checked s [(ampBusy s i, .busy)] (s.onAnn fun u => { u with amps := tdel u.amps i })

/-! ## Reads -/

/-- A closing step's data (R195). -/
def stepData (st : Step) : List Byte :=
  quantity 2 st.offset ++
    match st.kind with
    | .chime c f => [0, byteOf c, 0, f]
    | .phrase p f => [1, byteOf p, 0, f]
    | .ring p m => [2, byteOf p] ++ setBytes 2 m
    | .level n => [3, byteOf n, 0, 0]
    | .runout r => [4, byteOf r, 0, 0]
    | .night f => [5, 0, 0, f]
    | .finish => [6, 0, 0, 0]

/-- A cell's data (R195). -/
def cellData : Assignment → List Byte
  | .none => [0, 0]
  | .push i => [1, byteOf i]
  | .zone i => [2, byteOf i]
  | .shutter i => [3, byteOf i]
  | .fixed f => [4, named fixedConditions f]

/-- A note's data (R195). -/
def noteData (n : Note) : List Byte :=
  match n.pitch with
  | some (v, c) => [byteOf v, named noteClocks c, byteOf n.duration, byteOf n.gap]
  | none => [0, 4, byteOf n.duration, byteOf n.gap]

/-- A pattern's data (R195). -/
def patternData (p : Pattern) : List Byte :=
  match p.repeating with
  | some (n, l) => [byteOf p.strokes, byteOf p.spacing, 1] ++ quantity 2 n ++ [byteOf l]
  | none => [byteOf p.strokes, byteOf p.spacing, 0] ++ absent 3

/-- A shutter's data (R195). -/
def shutterData (e : Shutter) : List Byte :=
  [byteOf e.station, byteOf e.zoneA] ++ optQuantity 1 e.zoneB ++ [named shutterKinds e.kind] ++
    optQuantity 1 e.landing ++
    [byteOf e.floor, byteOf e.warnTime, byteOf e.travelLimit, flagByte e.night]

/-- The geometry record's data (R195). -/
def geometryData (g : Geometry) : List Byte :=
  quantity 2 g.pitch ++ [byteOf g.cars] ++ quantity 2 g.carLength ++ [byteOf g.margin] ++
    quantity 2 g.braking ++
    [byteOf g.slipLimit, byteOf g.stopTimeout, byteOf g.resumeDelay, byteOf g.guardLimit] ++
    quantity 2 g.guardWindow

/-- The entry's data as loaded, in the layout of R195; a chime's whole data is its part 0. `none` for an
absent entry. -/
def entryData (t : TableId) (i : Nat) (s : State) : Option (List Byte) :=
  match t with
  | .station => (tget s.reg.stations i).map fun e =>
      [named roles e.role, byteOf e.floor, named pollClasses e.cls, byteOf e.missLimit]
  | .lineSettings => s.reg.settings.map fun e => [byteOf e.panel, byteOf e.window, byteOf e.timeout]
  | .geometry => s.pat.geometry.map geometryData
  | .landing => (tget s.pat.landings i).map fun l =>
      quantity 2 l.up ++ quantity 2 l.down ++ [byteOf l.station, flagByte l.restClear, byteOf l.rank]
  | .detector => (tget s.fire.detectors i).map fun e =>
      [byteOf e.station, byteOf e.zone, byteOf e.alarm, byteOf e.restore, byteOf e.confirm]
  | .callPoint => (tget s.fire.callPoints i).map fun e => [byteOf e.station, byteOf e.zone]
  | .zone => (tget s.fire.zones i).map fun e =>
      [byteOf e.ackTime] ++ quantity 2 e.investTime ++
        [flagByte e.coincidence, e.evacFloors, flagByte e.tableIsolated]
  | .fireSettings => s.fire.settings.map fun e =>
      [byteOf e.evacPhrase, byteOf e.alertPhrase, byteOf e.pattern, byteOf e.gap]
  | .shutter => (tget s.shut i).map shutterData
  | .push => (tget s.call.pushes i).map fun e =>
      [byteOf e.station, byteOf e.key, byteOf e.floor, byteOf e.priority, byteOf e.pattern,
       byteOf e.ringer] ++ optQuantity 1 (e.escalation.map Prod.fst) ++
        optQuantity 1 (e.escalation.map Prod.snd)
  | .pattern => (tget s.call.patterns i).map patternData
  | .ringer => (tget s.call.ringers i).map fun e => [byteOf e.station, byteOf e.floor]
  | .boardLayout => (tget s.board.layout i).map cellData
  | .onTimes => s.board.settings.map fun e => [byteOf e.n1, byteOf e.n2, byteOf e.limit]
  | .day => (tget s.ann.days i).map fun m => quantity 2 m
  | .closing => (tget s.ann.programme i).map stepData
  | .chime => (tget s.ann.chimes i).map fun c =>
      [0, byteOf c.repeats] ++ ((c.notes.take 4).map noteData).flatten
  | .amplifier => (tget s.ann.amps i).map fun e => [byteOf e.station, byteOf e.floor]

/-- Part 1 of a chime's data (R195): notes 5 onward. -/
def chimeTail (i : Nat) (s : State) : Option (List Byte) :=
  match tget s.ann.chimes i with
  | some c => if c.notes.length ≤ 4 then none else some (1 :: ((c.notes.drop 4).map noteData).flatten)
  | none => none

end Sys2Proof.Machine
end

