-- ==== Sys2Proof/Machine/Manage.lean ====
section
/-! DEFINITION. The Management Unit (chapter 10): table accesses, Arm and Disarm, the requests that other
chapters state, and how a request becomes a reply. -/

namespace Sys2Proof.Machine

/-! ## Table accesses -/

/-- A Read Entry request (R185, R195). -/
def readEntryResult (table index : Nat) (part : Option Nat) (s : State) : Result :=
  match tableOf table with
  | none => refuse s .badTable
  | some t =>
    if !t.indexOk index then refuse s .badIndex
    else if part.isSome != (t == .chime) then refuse s .badFormat
    else
      match entryData t index s with
      | none => refuse s .badIndex
      | some d =>
        match part with
        | none | some 0 => { state := s, code := .ok, data := d }
        | some 1 =>
          match chimeTail index s with
          | some d => { state := s, code := .ok, data := d }
          | none => refuse s .badIndex
        | some _ => refuse s .badValue

/-- A Write Entry request (R185). -/
def writeEntryResult (table index : Nat) (data : List Byte) (s : State) : Result :=
  match tableOf table with
  | none => refuse s .badTable
  | some t =>
    if t.safety && s.armed then refuse s .armedLocked
    else if !t.indexOk index then refuse s .badIndex
    else if !t.dataOk data then refuse s .badFormat
    else writeTable t index data s

/-- A Delete Entry request (R185). -/
def deleteEntryResult (table index : Nat) (s : State) : Result :=
  match tableOf table with
  | none => refuse s .badTable
  | some t =>
    if t.safety && s.armed then refuse s .armedLocked
    else if !t.indexOk index then refuse s .badIndex
    else if (entryData t index s).isNone then refuse s .badIndex
    else deleteTable t index s

/-! ## Arm -/

/-- An entry that names a station, as checks 1 and 2 read it: its table, index, station, the role it wants,
and a push's key (R186). -/
structure RoleEntry where
  table : TableId
  index : Nat
  station : Nat
  role : Role
  key : Nat
deriving DecidableEq, Repr

/-- The entries of one role table. -/
def roleEntriesOf {α : Type} (table : TableId) (role : Role) (station key : α → Nat) (t : Table α) :
    List RoleEntry :=
  t.map fun e => { table := table, index := e.1, station := station e.2, role := role, key := key e.2 }

/-- The entries that name a station, in the order of check 1 (R186). -/
def roleEntries (s : State) : List RoleEntry :=
  roleEntriesOf .detector .detector (fun d => d.station) (fun _ => 0) s.fire.detectors ++
  roleEntriesOf .callPoint .callPoint (fun c => c.station) (fun _ => 0) s.fire.callPoints ++
  roleEntriesOf .shutter .shutter (fun e => e.station) (fun _ => 0) s.shut ++
  roleEntriesOf .landing .landing (fun l => l.station) (fun _ => 0) s.pat.landings ++
  roleEntriesOf .push .push (fun p => p.station) (fun p => p.key) s.call.pushes ++
  roleEntriesOf .ringer .ringer (fun g => g.station) (fun _ => 0) s.call.ringers ++
  roleEntriesOf .amplifier .amplifier (fun a => a.station) (fun _ => 0) s.ann.amps

/-- Two entries may not share a station, but for pushes with different keys (R186 check 2). -/
def RoleEntry.clash (a b : RoleEntry) : Bool :=
  a.station == b.station && !(a.table == .push && b.table == .push && a.key != b.key)

/-- The first entry that clashes with an earlier one (R186 check 2). -/
def firstClash : List RoleEntry → List RoleEntry → Option RoleEntry
  | _, [] => none
  | seen, e :: rest => if seen.any e.clash then some e else firstClash (e :: seen) rest

/-- The index of the first entry that meets `p`. -/
def firstWhere {α : Type} (t : Table α) (p : α → Bool) : Option Nat := (tkeys t p).head?

/-- A push names something absent (R186 check 8). -/
def pushDangling (s : State) (p : Push) : Bool :=
  (tget s.call.patterns p.pattern).isNone || (tget s.call.ringers p.ringer).isNone ||
    optMissing s.call.ringers (p.escalation.map Prod.fst) ||
    optMissing s.call.patterns (p.escalation.map Prod.snd)

/-- What each Arm check finds: the check's number, the table and the index, for those that fail (R186). -/
def armChecks (s : State) : List (Option (Nat × TableId × Nat)) :=
  let entries := roleEntries s
  let loop := (s.pat.geometry.map Geometry.loop).getD 0
  [ (entries.find? fun e => !s.hasRole e.station e.role).map fun e => (1, e.table, e.index),
    (firstClash [] entries).map fun e => (2, e.table, e.index),
    ((tkeys s.reg.stations fun e => e.role == .drive)[1]?).map fun a => (3, .station, a),
    (firstWhere s.shut fun e => e.kind == .shaft && optMissing s.pat.landings e.landing).map
      fun i => (4, .shutter, i),
    if !s.pat.landings.isEmpty && s.pat.geometry.isNone then some (5, .geometry, 0) else none,
    if !s.pat.landings.isEmpty && s.driveStation.isNone then some (6, .station, 0) else none,
    (firstWhere s.pat.landings fun l => decide (l.up ≥ loop) || decide (l.down ≥ loop)).map
      fun f => (7, .landing, f),
    (firstWhere s.call.pushes (pushDangling s)).map fun i => (8, .push, i) ]

/-- The first Arm check that fails (R186). -/
def armFailure (s : State) : Option (Nat × TableId × Nat) := (armChecks s).findSome? id

/-- Every unit's run-time records take their Arm values, and the part mode becomes ARMED (R187; R31, R67,
R95, R121, R157). -/
def armPart (s : State) : State :=
  let now := s.now
  let s1 := (((fireArm s).onPat Paternoster.rearm).onShut fun t => tmap t fun _ e => e.rearm)
  ((s1.onCall CallUnit.rearm).onAnn Announce.rearm).onMgmt fun m =>
    { m with mode := .armed, armedAt := now }

/-- An Arm request (R186, R187). -/
def armResult (s : State) : Result :=
  if s.armed then refuse s .wrongState
  else
    match armFailure s with
    | some (n, t, i) => { state := s, code := .configError, data := [byteOf n, byteOf t.code, byteOf i] }
    | none => accept (armPart s)

/-- Every unit's run-time records take their Disarm values, and the part mode becomes CONFIGURING (R188;
R31, R67, R95, R121, R134, R157). -/
def disarmPart (s : State) : State :=
  let s1 := (((fireDisarm s).onPat Paternoster.rearm).onShut fun t => tmap t fun _ e => e.rearm)
  (((s1.onCall CallUnit.rearm).onAnn Announce.rearm).onBoard Board.disarm).onMgmt fun m =>
    { m with mode := .configuring }

/-- A Disarm request (R188). -/
def disarmResult (s : State) : Result :=
  whenArmed s <|
    if tany s.fire.zones fun z => z.state == .preAlarm || z.state == .fullAlarm then
      refuse s .alarmActive
    else accept (disarmPart s)

/-! ## Requests of other chapters -/

/-- A Set Clock request (R135). -/
def setClockResult (second weekday : Nat) (s : State) : Result :=
  if second > 86399 ∨ weekday > 6 then refuse s .badValue
  else
    accept (markClosing (s.onAnn fun u =>
      { u with clock := { set := true, second := second, weekday := weekday, sub := 0 } }))

/-- The shutter a request names, while the part is ARMED: BAD_INDEX above 31 or when absent (R85, R87). -/
def shutterRequest (i : Nat) (s : State) (f : Shutter → Result) : Result :=
  whenArmed s <|
    match if i > 31 then none else tget s.shut i with
    | none => refuse s .badIndex
    | some e => f e

/-- A Raise Shutter request (R87). -/
def raiseShutterResult (i : Nat) (s : State) : Result :=
  shutterRequest i s fun e =>
    if ¬(e.state = .closed ∨ e.state = .obstructed ∨ e.state = .faulted) then refuse s .wrongState
    else if s.missing e.station then refuse s .busy
    else if s.raiseHeld e then refuse s .zoneInAlarm
    else accept (onShutter s i fun e => e.toRaising.place .raise)

/-- What an accepted Retry Shutter request does by kind (R85). Clearing the obstruction or fault cause sets the
mark here, because a judgment BLOCKED of the same event may put the obstruction back (R72). The judgment asked for acts
on this shutter alone: DEDUCED (unsafe), log 47. -/
def retryShutter (i : Nat) (e : Shutter) (s : State) : State :=
  let s1 := onShutter s i fun e => { e with attempts := 0, obstruction := none, fault := none, mark := true }
  match e.kind with
  | .department => onShutter s1 i Shutter.drop
  | .shaft =>
    match s.pat.judgeShutter e with
    | .clear => onShutter s1 i fun e => e.warn s.pat
    | .blocked => onShutter s1 i Shutter.obstructCar
    | .notStopped => awaitEntered i (onShutter s1 i Shutter.await)

/-- A Retry Shutter request (R85). -/
def retryShutterResult (i : Nat) (s : State) : Result :=
  shutterRequest i s fun e =>
    if ¬(e.state = .obstructed ∨ e.state = .faulted) then refuse s .wrongState
    else if s.missing e.station then refuse s .busy
    else if e.reason = .none then refuse s .wrongState
    else accept (retryShutter i e s)

/-- A SHAFT shutter whose closing is under way (R26). -/
def Shutter.closing (e : Shutter) : Bool :=
  e.kind == .shaft && (e.state == .awaitClear || e.state == .warning || e.state == .descending)

/-- The drive does not stand sound and stopped (R26). -/
def State.driveUnready (s : State) : Bool :=
  s.driveStation.any s.missing || s.pat.chain.fault || s.pat.chain.motion != .stopped

/-- A Release Paternoster request (R26): on BUSY the reply names the shutter, or none. -/
def releaseResult (s : State) : Result :=
  whenArmed s <|
    if s.pat.state ≠ .locked then refuse s .wrongState
    else if s.anyFull then refuse s .alarmActive
    else
      match firstWhere s.shut Shutter.closing with
      | some i => { state := s, code := .busy, data := [byteOf i] }
      | none =>
        if s.driveUnready then { state := s, code := .busy, data := [255] }
        else accept (releaseChain s)

/-- A Clear Call request (R117); 255 is ALL. -/
def clearCallResult (push : Nat) (s : State) : Result :=
  whenArmed s <|
    if push = 255 then
      { state := removeCalls (s.call.calls.map fun c => c.push) true s, code := .ok,
        data := [byteOf s.call.calls.length] }
    else if push > 63 ∨ tget s.call.pushes push = none then refuse s .badIndex
    else if s.call.hasCall push then accept (removeCalls [push] false s)
    else refuse s .wrongState

/-- A Begin Closing request (R141). -/
def beginClosingResult (s : State) : Result :=
  whenArmed s <|
    if s.ann.closing = .running then refuse s .busy
    else if s.anyFull then refuse s .alarmActive
    else if s.ann.programme = [] then refuse s .wrongState
    else accept (startClosing s)

/-- An Abort Closing request (R145). -/
def abortClosingResult (s : State) : Result :=
  whenArmed s <|
    if s.ann.closing = .finished ∨ s.ann.closing = .aborted then refuse s .wrongState
    else accept (abandonClosing s)

/-- An Evacuate request's reply carries the mask of skipped zones (R62). -/
def evacuateResult (zones : ZoneSet) (s : State) : Result :=
  let r := evacuate zones s
  if r.code = .ok then { r with data := setBytes 2 (skippedZones zones s) } else r

/-- A Board Mode request's reply carries the board mode that results (R131). -/
def boardModeResult (mode : Nat) (s : State) : Result :=
  let r := setBoardMode mode s
  if r.code = .ok then { r with data := [named boardModes r.state.board.mode] } else r

/-! ## Requests and replies -/

/-- A reply's destination: the panel address of the line settings record as the request leaves it, or the
request's source while that record is absent (R184; log 29). -/
def replyDst (s : State) (src : Byte) : Byte :=
  match s.reg.settings with
  | some x => byteOf x.panel
  | none => src

/-- The reply to a request of code `code` (R184, R193, R194). -/
def replyFrame (src tag : Byte) (code : Nat) (r : Result) : Frame :=
  { dst := replyDst r.state src, src := 240, kind := byteOf (128 + code), tag := tag,
    payload := named codes r.code :: r.data }

/-- A request executed at its arrival leaves its reply in the reply slot (R172, R184). -/
def executeRequest (src tag : Byte) (code : Nat) (body : State → Result) (s : State) : State :=
  let r := body s
  let f := replyFrame src tag code r
  r.state.onLine fun l => { l with reply := some f }

/-- A request frame arrives on Port A (R171, R172): one not taken as from the panel is dropped, and one that
finds the reply slot occupied is dropped with the request-overrun flag set. The panel is heard before the request
acts, also where the request deletes the line settings: DEDUCED (unsafe), log 52. -/
def requestArrives (src tag : Byte) (code : Nat) (body : State → Result) (s : State) : State :=
  if s.fromPanel src then
    let s1 := panelHeard src s
    if s1.line.reply.isSome then s1.onLine fun l => { l with requestOverrun := true }
    else executeRequest src tag code body s1
  else s

/-- A frame arrives on Port A that is dropped (R170, R171): it fails the line check, or is valid and has a
destination or a class that is not routed. A valid one from the panel restores panel presence (R167). -/
def droppedOnA (frame : Option (Hdr × FrameClass)) (s : State) : State :=
  match frame with
  | none => s
  | some (h, c) =>
    if h.dst = 0 ∨ h.src = 0 then s
    else if (h.dst = 240 ∧ c = .request) ∨ (orderDst h.dst ∧ c = .order) then s
    else panelHeard h.src s

end Sys2Proof.Machine
end

