-- ==== Sys2Proof/Machine/Events.lean ====
section
/-! DEFINITION. What every event ends with, what happens at the part's timers and moments, and the passing of
time. -/

namespace Sys2Proof.Machine

/-! ## The end of an event -/

/-- The end of every event: the Port B arbiter decides, call states, pending marks and the lamp image follow
the records, a waiting board wakes, and the Port A arbiter decides (R100, R124, R130, R179, R180, R191).
Both arbiters decide at the event's end: DESIGN CHOICE (unsafe), log 5. -/
def settle (before s : State) : State :=
  let s1 := (arbiterB 128 s).onCall CallUnit.refresh
  let s2 := refreshImage (markChanges before s1)
  let changed := s2.board.image != before.board.image || s2.board.lit != before.board.lit
  arbiterA (s2.onBoard (Board.wake changed))

/-- The outcome of an event that took the state `before` to `s`: always a next state. -/
def finish (before s : State) : Host.Outcome State Fault Refusal := .next (settle before s)

/-! ## Shutter timers -/

/-- The warn timer of shutter `i` expires (R78, R79, R81). -/
def warnTimerExpires (i : Nat) (s : State) : State :=
  match tget s.shut i with
  | some e =>
    if e.state = .warning ∧ e.timer.isSome then
      awaitEntered i (onShutter s i fun e => { e with timer := none }.warnExpiry s.pat)
    else s
  | none => s

/-- The travel timer of shutter `i` expires (R74). -/
def travelTimerExpires (i : Nat) (s : State) : State :=
  onShutter s i fun e =>
    if (e.state = .descending ∨ e.state = .raising) ∧ e.timer.isSome then e.toFaulted .travelTimeout
    else e

/-- A shutter's retry (R83). -/
def Shutter.retry (e : Shutter) : Shutter :=
  if e.attempts < 3 then { e with attempts := e.attempts + 1 }.drop else e.toFaulted .retriesSpent

/-- The retry timer of shutter `i` expires (R83). -/
def retryTimerExpires (i : Nat) (s : State) : State :=
  onShutter s i fun e => if e.state = .obstructed ∧ e.timer.isSome then e.retry else e

/-! ## The clock and the running time -/

/-- The closing minute of the clock's weekday (R137). -/
def Announce.today (u : Announce) : Option Nat := tget u.days u.clock.weekday

/-- The clock counts from second 86,399 to 0 (R136). Commanded at another second, it moves there: DESIGN
CHOICE (unsafe), log 4. -/
def midnight (s : State) : State :=
  let c := s.ann.clock
  if c.set then
    let s1 := s.onAnn fun u =>
      { u with clock := { c with second := 0, sub := 0, weekday := (c.weekday + 1) % 7 } }
    let s2 :=
      if s.ann.closing = .finished ∨ s.ann.closing = .aborted then
        s1.onAnn fun u => { u with closing := .waiting, mark := true }
      else s1
    if s2.ann.today = some 0 then automaticLook s2 else s2
  else s

/-- The SET clock counts into the first second of today's closing minute (R140). It counts forward only
(log 4, log 28). -/
def closingMinute (s : State) : State :=
  match s.ann.today with
  | some m =>
    if s.ann.clock.set ∧ s.ann.clock.second < 60 * m then
      automaticLook (s.onAnn fun u => { u with clock := { u.clock with second := 60 * m, sub := 0 } })
    else s
  | none => s

/-- The running time is at least `t` seconds (log 4). -/
def advanceTo (t : Nat) (s : State) : State :=
  s.onMgmt fun m => { m with time := max m.time (secs t) }

/-- The running time reaches the next ring time of a push's call (R110). -/
def ringTimeReached (push : Nat) (s : State) : State :=
  match (s.call.calls.find? (fun c => c.push == push)).bind fun c => c.nextRing with
  | some t => nextRingReached push (advanceTo t s)
  | none => s

/-- The offset of the next step, in the running time, while the closing is RUNNING (R139, R143). -/
def State.stepTime (s : State) : Option Nat :=
  match s.ann.closing, s.ann.startTime, s.ann.nextStep with
  | .running, some t0, some i => (tget s.ann.programme i).map fun st => t0 + st.offset
  | _, _, _ => none

/-- The elapsed time reaches the next step's offset (R143). -/
def offsetReached (s : State) : State :=
  match s.stepTime with
  | some t => stepCheck (advanceTo t s)
  | none => s

/-! ## Transmissions -/

/-- An order's transmission on Port B completes (R179). -/
def orderSent (s : State) : State :=
  match s.line.portB with
  | .sending _ => freePortB s
  | _ => s

/-- A transmission on Port A completes (R180). -/
def sentA (s : State) : State := s.onLine fun l => { l with portA := none }

/-! ## The passing of time -/

/-- A running timer with 8 µs less. -/
def countDown (t : Option Nat) : Option Nat := t.map fun n => n - 1

/-- The second the clock counts into is the first of today's closing minute (R140). -/
def Announce.minuteNext (u : Announce) : Bool :=
  u.today == some ((u.clock.second + 1) / 60) && (u.clock.second + 1) % 60 == 0

/-- The clock counts its second, unless that second is a midnight or the closing minute, which are events of
their own (R135, R136, R140). -/
def Announce.tickClock (u : Announce) : Clock :=
  let c := u.clock
  if !c.set then c
  else if c.sub + 1 < ticksPerSec then { c with sub := c.sub + 1 }
  else if c.second = 86399 ∨ u.minuteNext then { c with sub := ticksPerSec }
  else { c with second := c.second + 1, sub := 0 }

/-- A generator's note or gap with 8 µs less (R150). -/
def Playing.tick (p : Playing) : Playing :=
  { p with sounding := p.sounding.map fun x => { x with left := x.left - 1 } }

/-- 8 µs pass with nothing due: the running time and the clock count, and every running timer counts down
(log 1). -/
def tick (s : State) : State :=
  { s with
    mgmt := { s.mgmt with time := s.mgmt.time + 1 }
    line := { s.line with portB := match s.line.portB with
      | .awaiting a w => .awaiting a (w - 1)
      | x => x }
    reg := { s.reg with panelTimer := countDown s.reg.panelTimer }
    pat := { s.pat with stopTimer := countDown s.pat.stopTimer
                        resumeTimer := countDown s.pat.resumeTimer }
    fire := { s.fire with zones := tmap s.fire.zones fun _ z => { z with timer := countDown z.timer } }
    shut := tmap s.shut fun _ e => { e with timer := countDown e.timer }
    call := { s.call with
      ringers := tmap s.call.ringers fun _ g => { g with timer := countDown g.timer }
      fireTimer := countDown s.call.fireTimer }
    board := { s.board with
      flashTimer := countDown s.board.flashTimer
      pass := s.board.pass.map fun p => { p with left := p.left - 1 } }
    ann := { s.ann with
      clock := s.ann.tickClock
      gen0 := s.ann.gen0.map Playing.tick
      gen1 := s.ann.gen1.map Playing.tick
      amps := tmap s.ann.amps fun _ a =>
        { a with phraseTimer := countDown a.phraseTimer, gapTimer := countDown a.gapTimer } } }

/-- The index of the first entry whose timer has run out. -/
def firstDue {α : Type} (timer : α → Option Nat) (t : Table α) : Option Nat :=
  firstWhere t fun e => timer e == some 0

/-- A shutter's timer has run out in one of the states given. -/
def shutterDue (s : State) (states : List ShutterState) : Option Nat :=
  firstWhere s.shut fun e => states.contains e.state && e.timer == some 0

/-- Where a generator's chime stands when the time of its note or gap has run out (R150). -/
def genDue (s : State) (g : Nat) : Option Instr :=
  ((s.ann.gen g).bind fun p => p.sounding.map fun x => (p, x)).bind fun r =>
    if r.2.left = 0 then
      if (tget s.ann.chimes r.1.chime).any fun c => c.atEnd r.2 then some (.chimeEnd g)
      else some (.chimeNoteEnd g)
    else none

/-- The clock event that is due (R136, R140). -/
def clockDue (u : Announce) : Option Instr :=
  if u.clock.set && decide (u.clock.sub ≥ ticksPerSec) then
    if u.clock.second = 86399 then some .midnightStep
    else if u.minuteNext then some .automaticStart else none
  else none

/-- The pass whose time has passed (R128). -/
def passDue (b : Board) : Option Instr :=
  b.pass.bind fun p =>
    if p.left = 0 then
      some (match p.kind with
        | .scan => .scanningPassCompletion
        | .test => .testPassCompletion)
    else none

/-- The push of the first call whose next ring time has come (R110). -/
def ringDue (s : State) : Option Nat :=
  (s.call.calls.find? fun c => c.nextRing.any fun t => decide (t ≤ s.now)).map fun c => c.push

/-- The next step's offset has come and the step is not yet waiting (R143). -/
def offsetDue (s : State) : Bool :=
  !s.ann.waitGen && s.ann.waitFloors == 0 && s.stepTime.any fun t => decide (t ≤ s.now)

/-- The time events that are due, in the order in which the model takes those of one moment (log 1). -/
def dueEvents (s : State) : List (Option Instr) :=
  let when := fun (t : Option Nat) (c : Instr) => if t = some 0 then some c else none
  [ when s.pat.stopTimer .stopTimerExpiry,
    when s.pat.resumeTimer .resumeTimerExpiry,
    (firstDue Zone.timer s.fire.zones).map .stageTimerExpiry,
    (shutterDue s [.warning]).map .warnTimerExpiry,
    (shutterDue s [.descending, .raising]).map .travelTimerExpiry,
    (shutterDue s [.obstructed]).map .retryTimerExpiry,
    (firstDue Ringer.timer s.call.ringers).map .ringTimerExpiry,
    (ringDue s).map .nextRingTimeReached,
    when s.call.fireTimer .fireRepeatTimerExpiry,
    (firstDue Amp.phraseTimer s.ann.amps).map .phraseTimerExpiry,
    (firstDue Amp.gapTimer s.ann.amps).map .gapTimerExpiry,
    genDue s 0, genDue s 1,
    clockDue s.ann,
    if offsetDue s then some .stepOffsetReached else none,
    passDue s.board,
    when s.reg.panelTimer .panelTimerExpiry,
    when s.board.flashTimer .flashPhaseChange,
    match s.line.portB with
    | .awaiting _ 0 => some .answerWindowExpiry
    | _ => none ]

/-- The first time event that is due. -/
def nextDue (s : State) : Option Instr := (dueEvents s).findSome? id

end Sys2Proof.Machine
end

