-- ==== Sys2Proof/Machine/Arrivals.lean ====
section
/-! DEFINITION. The arrivals on Port B and the expiry of the answer window (R163 to R166, R176, R177). -/

namespace Sys2Proof.Machine

/-- PRESENCE_REPORT (R166, R176). -/
def execPresenceReport (h : Hdr) (s : State) : Host.Outcome State Fault Refusal :=
  finish s (receiveB h (some .presence) s)

/-- DETECTOR_LEVEL_REPORT (R48, R49). -/
def execDetectorLevelReport (h : Hdr) (level : Byte) (s : State) : Host.Outcome State Fault Refusal :=
  finish s (receiveB h (some (.detectorLevel level)) s)

/-- CALL_POINT_REPORT (R48, R51). -/
def execCallPointReport (h : Hdr) (value : Byte) (s : State) : Host.Outcome State Fault Refusal :=
  finish s (receiveB h (some (.callPoint value)) s)

/-- CHAIN_REPORT (R3, R43). -/
def execChainReport (h : Hdr) (position : BitVec 16) (motion condition : Byte) (s : State) :
    Host.Outcome State Fault Refusal :=
  finish s (receiveB h (some (.chain position motion condition)) s)

/-- LANDING_REPORT (R4). -/
def execLandingReport (h : Hdr) (up down guard stop : Byte) (s : State) :
    Host.Outcome State Fault Refusal :=
  finish s (receiveB h (some (.landing up down guard stop)) s)

/-- SHUTTER_POSITION_REPORT (R70 to R73). -/
def execShutterPositionReport (h : Hdr) (value : Byte) (s : State) : Host.Outcome State Fault Refusal :=
  finish s (receiveB h (some (.shutterPosition value)) s)

/-- PUSH_REPORT (R104, R105). -/
def execPushReport (h : Hdr) (key : Byte) (s : State) : Host.Outcome State Fault Refusal :=
  finish s (receiveB h (some (.push key)) s)

/-- ANSWER_REPORT (R116). -/
def execAnswerReport (h : Hdr) (cell : Byte) (s : State) : Host.Outcome State Fault Refusal :=
  finish s (receiveB h (some (.answer cell)) s)

/-- RING_DONE_REPORT (R108). -/
def execRingDoneReport (h : Hdr) (number : Byte) (s : State) : Host.Outcome State Fault Refusal :=
  finish s (receiveB h (some (.ringDone number)) s)

/-- PHRASE_DONE_REPORT (R147). -/
def execPhraseDoneReport (h : Hdr) (number : Byte) (s : State) : Host.Outcome State Fault Refusal :=
  finish s (receiveB h (some (.phraseDone number)) s)

/-- FRAME_FROM_ANOTHER_KNOWN_STATION (R163, R176). -/
def execFrameFromAnotherKnownStation (h : Hdr) (report : Option Report) (s : State) :
    Host.Outcome State Fault Refusal :=
  finish s (receiveB h report s)

/-- STRANGER_FRAME (R163, R177). -/
def execStrangerFrame (h : Hdr) (report : Option Report) (s : State) :
    Host.Outcome State Fault Refusal :=
  finish s (receiveB h report s)

/-- GARBLED_FRAME (R163, R170). -/
def execGarbledFrame (s : State) : Host.Outcome State Fault Refusal :=
  finish s (outstandingMissed s)

/-- UNUSABLE_FRAME (R163, R170). -/
def execUnusableFrame (s : State) : Host.Outcome State Fault Refusal :=
  finish s (outstandingMissed s)

/-- FRAME_WITHOUT_OUTSTANDING_POLL (R164): the frame is dropped and nothing changes. -/
def execFrameWithoutOutstandingPoll (s : State) : Host.Outcome State Fault Refusal :=
  finish s s

/-- ANSWER_WINDOW_EXPIRY (R163). -/
def execAnswerWindowExpiry (s : State) : Host.Outcome State Fault Refusal :=
  finish s (outstandingMissed s)

end Sys2Proof.Machine
end

