-- ==== Sys2Proof/Machine/Completions.lean ====
section
/-! DEFINITION. The completions of passes and transmissions. -/

namespace Sys2Proof.Machine

/-- SCANNING_PASS_COMPLETION (R130, R132, R133). -/
def execScanningPassCompletion (s : State) : Host.Outcome State Fault Refusal :=
  finish s (s.onBoard Board.scanDone)

/-- TEST_PASS_COMPLETION (R132, R133). -/
def execTestPassCompletion (s : State) : Host.Outcome State Fault Refusal :=
  finish s (s.onBoard Board.testPassDone)

/-- ORDER_TRANSMISSION_COMPLETE (R179). -/
def execOrderTransmissionComplete (s : State) : Host.Outcome State Fault Refusal :=
  finish s (orderSent s)

/-- POLL_TRANSMISSION_COMPLETE (R162). -/
def execPollTransmissionComplete (s : State) : Host.Outcome State Fault Refusal :=
  finish s (pollSent s)

/-- PORT_A_TRANSMISSION_COMPLETE (R180). -/
def execPortATransmissionComplete (s : State) : Host.Outcome State Fault Refusal :=
  finish s (sentA s)

end Sys2Proof.Machine
end

