-- ==== Sys2Proof/Machine/Moments.lean ====
section
/-! DEFINITION. The expiries of the part's timers and the moments of its clocks. -/

namespace Sys2Proof.Machine

/-- STOP_TIMER_EXPIRY (R16). -/
def execStopTimerExpiry (s : State) : Host.Outcome State Fault Refusal :=
  finish s (stopTimerExpires s)

/-- RESUME_TIMER_EXPIRY (R22). -/
def execResumeTimerExpiry (s : State) : Host.Outcome State Fault Refusal :=
  finish s (resumeTimerExpires s)

/-- STAGE_TIMER_EXPIRY (R54). -/
def execStageTimerExpiry (zone : Nat) (s : State) : Host.Outcome State Fault Refusal :=
  finish s (stageTimerExpires zone s)

/-- WARN_TIMER_EXPIRY (R78, R79). -/
def execWarnTimerExpiry (shutter : Nat) (s : State) : Host.Outcome State Fault Refusal :=
  finish s (warnTimerExpires shutter s)

/-- TRAVEL_TIMER_EXPIRY (R74). -/
def execTravelTimerExpiry (shutter : Nat) (s : State) : Host.Outcome State Fault Refusal :=
  finish s (travelTimerExpires shutter s)

/-- RETRY_TIMER_EXPIRY (R83). -/
def execRetryTimerExpiry (shutter : Nat) (s : State) : Host.Outcome State Fault Refusal :=
  finish s (retryTimerExpires shutter s)

/-- RING_TIMER_EXPIRY (R109). -/
def execRingTimerExpiry (ringer : Nat) (s : State) : Host.Outcome State Fault Refusal :=
  finish s (ringTimerExpires ringer s)

/-- NEXT_RING_TIME_REACHED (R110). -/
def execNextRingTimeReached (push : Nat) (s : State) : Host.Outcome State Fault Refusal :=
  finish s (ringTimeReached push s)

/-- FIRE_REPEAT_TIMER_EXPIRY (R113). -/
def execFireRepeatTimerExpiry (s : State) : Host.Outcome State Fault Refusal :=
  finish s (fireTimerExpires s)

/-- PHRASE_TIMER_EXPIRY (R147, R153). -/
def execPhraseTimerExpiry (floor : Nat) (s : State) : Host.Outcome State Fault Refusal :=
  finish s (phraseTimerExpires floor s)

/-- GAP_TIMER_EXPIRY (R153). -/
def execGapTimerExpiry (floor : Nat) (s : State) : Host.Outcome State Fault Refusal :=
  finish s (gapTimerExpires floor s)

/-- PANEL_TIMER_EXPIRY (R167). -/
def execPanelTimerExpiry (s : State) : Host.Outcome State Fault Refusal :=
  finish s (panelTimerExpires s)

/-- FLASH_PHASE_CHANGE (R127, R130). -/
def execFlashPhaseChange (s : State) : Host.Outcome State Fault Refusal :=
  finish s (s.onBoard Board.flip)

/-- MIDNIGHT_STEP (R136). -/
def execMidnightStep (s : State) : Host.Outcome State Fault Refusal :=
  finish s (midnight s)

/-- AUTOMATIC_START (R140). -/
def execAutomaticStart (s : State) : Host.Outcome State Fault Refusal :=
  finish s (closingMinute s)

/-- STEP_OFFSET_REACHED (R143). -/
def execStepOffsetReached (s : State) : Host.Outcome State Fault Refusal :=
  finish s (offsetReached s)

/-- CHIME_NOTE_END (R150). -/
def execChimeNoteEnd (gen : Nat) (s : State) : Host.Outcome State Fault Refusal :=
  finish s (noteEnds gen s)

/-- CHIME_END (R150, R151). -/
def execChimeEnd (gen : Nat) (s : State) : Host.Outcome State Fault Refusal :=
  finish s (chimeIsOver gen s)

end Sys2Proof.Machine
end

