-- ==== Sys2Proof/Machine/PanelOrders.lean ====
section
/-! DEFINITION. The panel's orders and dropped frames on Port A (R170 to R174). -/

namespace Sys2Proof.Machine

/-- RUN_ORDER (R11, R173). -/
def execRunOrder (h : Hdr) (s : State) : Host.Outcome State Fault Refusal :=
  finish s (orderArrives h .run s)

/-- HALT_ORDER (R12, R173). -/
def execHaltOrder (h : Hdr) (s : State) : Host.Outcome State Fault Refusal :=
  finish s (orderArrives h .halt s)

/-- REST_ORDER (R13, R173). -/
def execRestOrder (h : Hdr) (s : State) : Host.Outcome State Fault Refusal :=
  finish s (orderArrives h .rest s)

/-- STOP_AT_ORDER (R12, R173). -/
def execStopAtOrder (h : Hdr) (target : BitVec 16) (s : State) : Host.Outcome State Fault Refusal :=
  finish s (orderArrives h (.stopAt target.toNat) s)

/-- CUT_ORDER (R12, R173). -/
def execCutOrder (h : Hdr) (s : State) : Host.Outcome State Fault Refusal :=
  finish s (orderArrives h .cut s)

/-- DROP_ORDER (R89 to R91, R173). -/
def execDropOrder (h : Hdr) (s : State) : Host.Outcome State Fault Refusal :=
  finish s (orderArrives h .drop s)

/-- RAISE_ORDER (R89, R92, R173). -/
def execRaiseOrder (h : Hdr) (s : State) : Host.Outcome State Fault Refusal :=
  finish s (orderArrives h .raise s)

/-- WARN_ORDER (R89, R173). -/
def execWarnOrder (h : Hdr) (s : State) : Host.Outcome State Fault Refusal :=
  finish s (orderArrives h .warn s)

/-- RING_ORDER (R118, R173). -/
def execRingOrder (h : Hdr) (strokes spacing number : Byte) (s : State) :
    Host.Outcome State Fault Refusal :=
  finish s (orderArrives h (.ring strokes spacing number) s)

/-- RING_CANCEL_ORDER (R118, R173). -/
def execRingCancelOrder (h : Hdr) (s : State) : Host.Outcome State Fault Refusal :=
  finish s (orderArrives h .ringCancel s)

/-- PHRASE_ORDER (R155, R173). -/
def execPhraseOrder (h : Hdr) (phrase number : Byte) (s : State) : Host.Outcome State Fault Refusal :=
  finish s (orderArrives h (.phrase phrase number) s)

/-- GATE_ORDER (R155, R173). -/
def execGateOrder (h : Hdr) (value : Byte) (s : State) : Host.Outcome State Fault Refusal :=
  finish s (orderArrives h (.gate value) s)

/-- POLL_ORDER (R173). -/
def execPollOrder (h : Hdr) (s : State) : Host.Outcome State Fault Refusal :=
  finish s (orderArrives h .poll s)

/-- PORT_A_FRAME_DROPPED (R167, R170, R171). -/
def execPortAFrameDropped (frame : Option (Hdr × FrameClass)) (s : State) :
    Host.Outcome State Fault Refusal :=
  finish s (droppedOnA frame s)

end Sys2Proof.Machine
end

