-- ==== Sys2Proof/Machine/Requests.lean ====
section
/-! DEFINITION. The requests on Port A, by their codes 1 to 23 (R184, R194). -/

namespace Sys2Proof.Machine

/-- READ_STATUS (R189). -/
def execReadStatus (src tag : Byte) (s : State) : Host.Outcome State Fault Refusal :=
  finish s (requestArrives src tag 1 readStatusResult s)

/-- READ_ENTRY (R185, R195). -/
def execReadEntry (src tag table index : Byte) (part : Option Byte) (s : State) :
    Host.Outcome State Fault Refusal :=
  finish s (requestArrives src tag 2 (readEntryResult table.toNat index.toNat (part.map BitVec.toNat)) s)

/-- WRITE_ENTRY (R185, R195). A Write Entry request admits 3 to 24 payload bytes (R193): one without entry
data, or with more than 22 bytes of it, fails the line check. -/
def execWriteEntry (src tag table index : Byte) (data : List Byte) (s : State) :
    Host.Outcome State Fault Refusal :=
  if outside 1 22 data.length then finish s s
  else finish s (requestArrives src tag 3 (writeEntryResult table.toNat index.toNat data) s)

/-- DELETE_ENTRY (R185, R195). -/
def execDeleteEntry (src tag table index : Byte) (s : State) : Host.Outcome State Fault Refusal :=
  finish s (requestArrives src tag 4 (deleteEntryResult table.toNat index.toNat) s)

/-- READ_RECORD (R190, R196). -/
def execReadRecord (src tag kind index part : Byte) (s : State) : Host.Outcome State Fault Refusal :=
  finish s (requestArrives src tag 5 (readRecordResult kind.toNat index.toNat part.toNat) s)

/-- ARM (R186, R187). -/
def execArm (src tag : Byte) (s : State) : Host.Outcome State Fault Refusal :=
  finish s (requestArrives src tag 6 armResult s)

/-- DISARM (R188). -/
def execDisarm (src tag : Byte) (s : State) : Host.Outcome State Fault Refusal :=
  finish s (requestArrives src tag 7 disarmResult s)

/-- SET_CLOCK (R135). -/
def execSetClock (src tag : Byte) (second : BitVec 24) (weekday : Byte) (s : State) :
    Host.Outcome State Fault Refusal :=
  finish s (requestArrives src tag 8 (setClockResult second.toNat weekday.toNat) s)

/-- ACKNOWLEDGE_ZONE (R57). -/
def execAcknowledgeZone (src tag zone : Byte) (s : State) : Host.Outcome State Fault Refusal :=
  finish s (requestArrives src tag 9 (acknowledgeZone zone.toNat) s)

/-- CANCEL_ZONE (R58). -/
def execCancelZone (src tag zone : Byte) (s : State) : Host.Outcome State Fault Refusal :=
  finish s (requestArrives src tag 10 (cancelZone zone.toNat) s)

/-- RESET_ZONE (R59). -/
def execResetZone (src tag zone : Byte) (s : State) : Host.Outcome State Fault Refusal :=
  finish s (requestArrives src tag 11 (resetZone zone.toNat) s)

/-- ISOLATE_ZONE (R60). -/
def execIsolateZone (src tag zone : Byte) (s : State) : Host.Outcome State Fault Refusal :=
  finish s (requestArrives src tag 12 (isolateZone zone.toNat) s)

/-- RESTORE_ZONE (R61). -/
def execRestoreZone (src tag zone : Byte) (s : State) : Host.Outcome State Fault Refusal :=
  finish s (requestArrives src tag 13 (restoreZone zone.toNat) s)

/-- EVACUATE (R62). -/
def execEvacuate (src tag : Byte) (zones : ZoneSet) (s : State) : Host.Outcome State Fault Refusal :=
  finish s (requestArrives src tag 14 (evacuateResult zones) s)

/-- SILENCE (R63). -/
def execSilence (src tag : Byte) (s : State) : Host.Outcome State Fault Refusal :=
  finish s (requestArrives src tag 15 silence s)

/-- RESOUND (R64). -/
def execResound (src tag : Byte) (s : State) : Host.Outcome State Fault Refusal :=
  finish s (requestArrives src tag 16 resound s)

/-- RAISE_SHUTTER (R87). -/
def execRaiseShutter (src tag shutter : Byte) (s : State) : Host.Outcome State Fault Refusal :=
  finish s (requestArrives src tag 17 (raiseShutterResult shutter.toNat) s)

/-- RETRY_SHUTTER (R85). -/
def execRetryShutter (src tag shutter : Byte) (s : State) : Host.Outcome State Fault Refusal :=
  finish s (requestArrives src tag 18 (retryShutterResult shutter.toNat) s)

/-- RELEASE_PATERNOSTER (R26). -/
def execReleasePaternoster (src tag : Byte) (s : State) : Host.Outcome State Fault Refusal :=
  finish s (requestArrives src tag 19 releaseResult s)

/-- CLEAR_CALL (R117). -/
def execClearCall (src tag push : Byte) (s : State) : Host.Outcome State Fault Refusal :=
  finish s (requestArrives src tag 20 (clearCallResult push.toNat) s)

/-- BEGIN_CLOSING (R141). -/
def execBeginClosing (src tag : Byte) (s : State) : Host.Outcome State Fault Refusal :=
  finish s (requestArrives src tag 21 beginClosingResult s)

/-- ABORT_CLOSING (R145). -/
def execAbortClosing (src tag : Byte) (s : State) : Host.Outcome State Fault Refusal :=
  finish s (requestArrives src tag 22 abortClosingResult s)

/-- BOARD_MODE (R131). -/
def execBoardMode (src tag mode : Byte) (s : State) : Host.Outcome State Fault Refusal :=
  finish s (requestArrives src tag 23 (boardModeResult mode.toNat) s)

end Sys2Proof.Machine
end

