-- ==== Sys2Proof/Machine/Resets.lean ====
section
/-! DEFINITION. The two resets (R183). -/

namespace Sys2Proof.Machine

/-- POWER_ON (R183): the part starts afresh with start cause POWER. -/
def execPowerOn (s : State) : Host.Outcome State Fault Refusal :=
  let fresh := State.afresh .power
  .next { fresh with pending := s.pending }

/-- RESET_PIN_RESET (R183): the part starts afresh with start cause PIN. -/
def execResetPinReset (s : State) : Host.Outcome State Fault Refusal :=
  let fresh := State.afresh .pin
  .next { fresh with pending := s.pending }

end Sys2Proof.Machine
end

