-- ==== Sys2Proof/Machine/Dispatch.lean ====
section
/-! DEFINITION. One arm per command: the meaning it calls. -/

namespace Sys2Proof.Machine

def exec (i : Instr) (s : State) : Host.Outcome State Fault Refusal :=
  match i with
  | .powerOn => Sys2Proof.Machine.execPowerOn s
  | .resetPinReset => Sys2Proof.Machine.execResetPinReset s
  | .readStatus src tag => Sys2Proof.Machine.execReadStatus src tag s
  | .readEntry src tag table index part => Sys2Proof.Machine.execReadEntry src tag table index part s
  | .writeEntry src tag table index data => Sys2Proof.Machine.execWriteEntry src tag table index data s
  | .deleteEntry src tag table index => Sys2Proof.Machine.execDeleteEntry src tag table index s
  | .readRecord src tag kind index part => Sys2Proof.Machine.execReadRecord src tag kind index part s
  | .arm src tag => Sys2Proof.Machine.execArm src tag s
  | .disarm src tag => Sys2Proof.Machine.execDisarm src tag s
  | .setClock src tag second weekday => Sys2Proof.Machine.execSetClock src tag second weekday s
  | .acknowledgeZone src tag zone => Sys2Proof.Machine.execAcknowledgeZone src tag zone s
  | .cancelZone src tag zone => Sys2Proof.Machine.execCancelZone src tag zone s
  | .resetZone src tag zone => Sys2Proof.Machine.execResetZone src tag zone s
  | .isolateZone src tag zone => Sys2Proof.Machine.execIsolateZone src tag zone s
  | .restoreZone src tag zone => Sys2Proof.Machine.execRestoreZone src tag zone s
  | .evacuate src tag zones => Sys2Proof.Machine.execEvacuate src tag zones s
  | .silence src tag => Sys2Proof.Machine.execSilence src tag s
  | .resound src tag => Sys2Proof.Machine.execResound src tag s
  | .raiseShutter src tag shutter => Sys2Proof.Machine.execRaiseShutter src tag shutter s
  | .retryShutter src tag shutter => Sys2Proof.Machine.execRetryShutter src tag shutter s
  | .releasePaternoster src tag => Sys2Proof.Machine.execReleasePaternoster src tag s
  | .clearCall src tag push => Sys2Proof.Machine.execClearCall src tag push s
  | .beginClosing src tag => Sys2Proof.Machine.execBeginClosing src tag s
  | .abortClosing src tag => Sys2Proof.Machine.execAbortClosing src tag s
  | .boardMode src tag mode => Sys2Proof.Machine.execBoardMode src tag mode s
  | .runOrder h => Sys2Proof.Machine.execRunOrder h s
  | .haltOrder h => Sys2Proof.Machine.execHaltOrder h s
  | .restOrder h => Sys2Proof.Machine.execRestOrder h s
  | .stopAtOrder h target => Sys2Proof.Machine.execStopAtOrder h target s
  | .cutOrder h => Sys2Proof.Machine.execCutOrder h s
  | .dropOrder h => Sys2Proof.Machine.execDropOrder h s
  | .raiseOrder h => Sys2Proof.Machine.execRaiseOrder h s
  | .warnOrder h => Sys2Proof.Machine.execWarnOrder h s
  | .ringOrder h strokes spacing number => Sys2Proof.Machine.execRingOrder h strokes spacing number s
  | .ringCancelOrder h => Sys2Proof.Machine.execRingCancelOrder h s
  | .phraseOrder h phrase number => Sys2Proof.Machine.execPhraseOrder h phrase number s
  | .gateOrder h value => Sys2Proof.Machine.execGateOrder h value s
  | .pollOrder h => Sys2Proof.Machine.execPollOrder h s
  | .portAFrameDropped frame => Sys2Proof.Machine.execPortAFrameDropped frame s
  | .presenceReport h => Sys2Proof.Machine.execPresenceReport h s
  | .detectorLevelReport h level => Sys2Proof.Machine.execDetectorLevelReport h level s
  | .callPointReport h value => Sys2Proof.Machine.execCallPointReport h value s
  | .chainReport h position motion condition => Sys2Proof.Machine.execChainReport h position motion condition s
  | .landingReport h up down guard stop => Sys2Proof.Machine.execLandingReport h up down guard stop s
  | .shutterPositionReport h value => Sys2Proof.Machine.execShutterPositionReport h value s
  | .pushReport h key => Sys2Proof.Machine.execPushReport h key s
  | .answerReport h cell => Sys2Proof.Machine.execAnswerReport h cell s
  | .ringDoneReport h number => Sys2Proof.Machine.execRingDoneReport h number s
  | .phraseDoneReport h number => Sys2Proof.Machine.execPhraseDoneReport h number s
  | .frameFromAnotherKnownStation h report => Sys2Proof.Machine.execFrameFromAnotherKnownStation h report s
  | .strangerFrame h report => Sys2Proof.Machine.execStrangerFrame h report s
  | .garbledFrame => Sys2Proof.Machine.execGarbledFrame s
  | .unusableFrame => Sys2Proof.Machine.execUnusableFrame s
  | .frameWithoutOutstandingPoll => Sys2Proof.Machine.execFrameWithoutOutstandingPoll s
  | .answerWindowExpiry => Sys2Proof.Machine.execAnswerWindowExpiry s
  | .stopTimerExpiry => Sys2Proof.Machine.execStopTimerExpiry s
  | .resumeTimerExpiry => Sys2Proof.Machine.execResumeTimerExpiry s
  | .stageTimerExpiry zone => Sys2Proof.Machine.execStageTimerExpiry zone s
  | .warnTimerExpiry shutter => Sys2Proof.Machine.execWarnTimerExpiry shutter s
  | .travelTimerExpiry shutter => Sys2Proof.Machine.execTravelTimerExpiry shutter s
  | .retryTimerExpiry shutter => Sys2Proof.Machine.execRetryTimerExpiry shutter s
  | .ringTimerExpiry ringer => Sys2Proof.Machine.execRingTimerExpiry ringer s
  | .nextRingTimeReached push => Sys2Proof.Machine.execNextRingTimeReached push s
  | .fireRepeatTimerExpiry => Sys2Proof.Machine.execFireRepeatTimerExpiry s
  | .phraseTimerExpiry floor => Sys2Proof.Machine.execPhraseTimerExpiry floor s
  | .gapTimerExpiry floor => Sys2Proof.Machine.execGapTimerExpiry floor s
  | .panelTimerExpiry => Sys2Proof.Machine.execPanelTimerExpiry s
  | .flashPhaseChange => Sys2Proof.Machine.execFlashPhaseChange s
  | .midnightStep => Sys2Proof.Machine.execMidnightStep s
  | .automaticStart => Sys2Proof.Machine.execAutomaticStart s
  | .stepOffsetReached => Sys2Proof.Machine.execStepOffsetReached s
  | .chimeNoteEnd gen => Sys2Proof.Machine.execChimeNoteEnd gen s
  | .chimeEnd gen => Sys2Proof.Machine.execChimeEnd gen s
  | .scanningPassCompletion => Sys2Proof.Machine.execScanningPassCompletion s
  | .testPassCompletion => Sys2Proof.Machine.execTestPassCompletion s
  | .orderTransmissionComplete => Sys2Proof.Machine.execOrderTransmissionComplete s
  | .pollTransmissionComplete => Sys2Proof.Machine.execPollTransmissionComplete s
  | .portATransmissionComplete => Sys2Proof.Machine.execPortATransmissionComplete s

end Sys2Proof.Machine
end

