-- ==== Sys2Proof/Machine/Step.lean ====
section
/-! DEFINITION. One step of the block, and a command put in front of its queue. -/

namespace Sys2Proof.Machine

/-- One step: the command at the front of the queue is taken and runs on the state with the queue's rest.
On an empty queue the first time event that is due runs, and when none is due 8 µs pass (log 1). -/
def step (s : State) : Host.Outcome State Fault Refusal :=
  match s.pending with
  | c :: rest => exec c { s with pending := rest }
  | [] =>
    match nextDue s with
    | some c => exec c s
    | none => .next (tick s)

/-- The command a word spells is put at the front of the queue; no row of the table gives bits, so no word
spells one and the state is unchanged (log 20). -/
def State.withFetchWord (s : State) (nbits w : Nat) : State :=
  match Sys2Proof.decodeTableWord nbits w with
  | some c => { s with pending := c :: s.pending }
  | none => s

end Sys2Proof.Machine
end

