-- ==== Sys2Proof/Machine/Wire.lean ====
section
/-! DEFINITION. The line's bytes (R170, R193): a frame with its check, the line check, and the command that
arriving bytes are. -/

namespace Sys2Proof.Machine

/-! ## The check -/

/-- One bit into the check register: the polynomial x^16 + x^12 + x^5 + 1 (R193). -/
def crcBit (c : BitVec 16) (b : Bool) : BitVec 16 :=
  if c.msb != b then (c <<< 1) ^^^ 0x1021#16 else c <<< 1

/-- The bits of a byte, most significant first (R193). -/
def byteBits (b : Byte) : List Bool := [7, 6, 5, 4, 3, 2, 1, 0].map fun i => b.getLsbD i

/-- One byte into the check register (R193). -/
def crcByte (c : BitVec 16) (b : Byte) : BitVec 16 := (byteBits b).foldl crcBit c

/-- The check over bytes: the register starts at all ones and is not inverted (R193). -/
def crc (l : List Byte) : BitVec 16 := l.foldl crcByte 0xFFFF#16

/-- A check as two bytes, high byte first (R193). -/
def checkBytes (c : BitVec 16) : List Byte := [(c >>> 8).setWidth 8, c.setWidth 8]

/-- A frame's bytes before its check (R193). -/
def Frame.head (f : Frame) : List Byte :=
  [f.dst, f.src, f.kind, f.tag, byteOf f.payload.length] ++ f.payload

/-- A frame's bytes on the line (R193). -/
def Frame.bytes (f : Frame) : List Byte := f.head ++ checkBytes (crc f.head)

/-! ## Kinds -/

/-- The class of a kind byte (R193). -/
def frameClass (kind : Byte) : Option FrameClass :=
  match kind.toNat / 32 with
  | 1 => some .report
  | 2 => some .order
  | 3 => some .request
  | 4 => some .reply
  | 5 => some .notice
  | _ => none

/-- The lengths of a reply's data by the request's code, with those of R195 and R196 for Read Entry and Read Record
(R194); a refusal carries none. -/
def replyDataLengths : Nat → List Nat
  | 1 => [18]
  | 2 => [0, 2, 3, 4, 5, 6, 7, 8, 9, 10, 13, 14, 17, 18]
  | 5 => [0, 1, 3, 4, 5, 6, 7, 8, 9, 10, 11, 13, 15, 16, 17, 21, 22]
  | 6 => [0, 3]
  | 14 => [0, 2]
  | 19 | 20 | 23 => [0, 1]
  | _ => [0]

/-- The payload lengths a kind admits; `none` when the byte names no kind (R193, R194). R193 gives no length to the
kinds the part never receives; a reply is taken to admit the lengths it can be sent with: DEDUCED (unsafe), log 22. -/
def kindLengths (kind : Byte) : Option (List Nat) :=
  let one := fun n => some [n]
  let from_ := fun lo n => some ((List.range n).map (lo + ·))
  match kind.toNat / 32, kind.toNat % 32 with
  | 1, 1 => one 0
  | 1, 2 | 1, 3 | 1, 6 | 1, 7 | 1, 8 | 1, 9 | 1, 10 => one 1
  | 1, 4 | 1, 5 => one 4
  | 2, 1 | 2, 2 | 2, 3 | 2, 4 | 2, 6 | 2, 7 | 2, 8 | 2, 9 | 2, 11 => one 0
  | 2, 5 | 2, 12 => one 2
  | 2, 10 => one 3
  | 2, 13 => one 1
  | 3, 1 | 3, 6 | 3, 7 | 3, 15 | 3, 16 | 3, 19 | 3, 21 | 3, 22 => one 0
  | 3, 2 => some [2, 3]
  | 3, 3 => from_ 3 22
  | 3, 4 | 3, 14 => one 2
  | 3, 5 => one 3
  | 3, 8 => one 4
  | 3, 9 | 3, 10 | 3, 11 | 3, 12 | 3, 13 | 3, 17 | 3, 18 | 3, 20 | 3, 23 => one 1
  | 4, c => if outside 1 23 c then none else some ((replyDataLengths c).map (1 + ·))
  | 5, 1 => one 22
  | 5, 2 => one 6
  | 5, 3 => one 21
  | 5, 4 => some [5, 10]
  | 5, 5 => one 13
  | 5, 6 => one 17
  | 5, 7 => one 4
  | 5, 8 => one 12
  | _, _ => none

/-! ## The line check -/

/-- What the line check finds (R170): a valid frame, a frame from `src` that fails only because its length
disagrees with its kind, or a frame that fails otherwise. -/
inductive LineCheck where
  | valid (f : Frame)
  | wrongLength (src : Byte)
  | garbled
deriving DecidableEq, Repr

/-- The line check (R170, R193). The check runs over all the bytes and finds 0 in a correct frame. That it does so too
where their number is not 7 + n for the length byte n, and that such a sequence has a wrong length when the check
finds 0 and is garbled otherwise: DESIGN CHOICE (unsafe), log 54. -/
def lineCheck (l : List Byte) : LineCheck :=
  match l with
  | dst :: src :: kind :: tag :: n :: rest =>
    if crc l ≠ 0 ∨ rest.length < 2 ∨ dst = 0 ∨ src = 0 then .garbled
    else
      let payload := rest.take (rest.length - 2)
      match kindLengths kind with
      | none => .garbled
      | some lengths =>
        if n.toNat ≠ payload.length ∨ !lengths.contains payload.length then .wrongLength src
        else .valid { dst := dst, src := src, kind := kind, tag := tag, payload := payload }
  | _ => .garbled

/-! ## Which command a frame is -/

/-- A frame's head fields. -/
def Frame.hdr (f : Frame) : Hdr := { dst := f.dst, src := f.src, tag := f.tag }

/-- Payload byte `k`. -/
def Frame.byte (f : Frame) (k : Nat) : Byte := f.payload[k]?.getD 0

/-- The report a valid frame of class report carries (R194). -/
def reportOf (f : Frame) : Option Report :=
  match f.kind.toNat / 32, f.kind.toNat % 32 with
  | 1, 1 => some .presence
  | 1, 2 => some (.detectorLevel (f.byte 0))
  | 1, 3 => some (.callPoint (f.byte 0))
  | 1, 4 => some (.chain (BitVec.ofNat 16 (wordAt f.payload 0)) (f.byte 2) (f.byte 3))
  | 1, 5 => some (.landing (f.byte 0) (f.byte 1) (f.byte 2) (f.byte 3))
  | 1, 6 => some (.shutterPosition (f.byte 0))
  | 1, 7 => some (.push (f.byte 0))
  | 1, 8 => some (.answer (f.byte 0))
  | 1, 9 => some (.ringDone (f.byte 0))
  | 1, 10 => some (.phraseDone (f.byte 0))
  | _, _ => none

/-- The command of a report of the polled station. -/
def reportCommand (h : Hdr) : Report → Instr
  | .presence => .presenceReport h
  | .detectorLevel v => .detectorLevelReport h v
  | .callPoint v => .callPointReport h v
  | .chain p m c => .chainReport h p m c
  | .landing u d g t => .landingReport h u d g t
  | .shutterPosition v => .shutterPositionReport h v
  | .push k => .pushReport h k
  | .answer c => .answerReport h c
  | .ringDone n => .ringDoneReport h n
  | .phraseDone n => .phraseDoneReport h n

/-- The command of a valid request frame (R194). -/
def requestCommand (f : Frame) : Option Instr :=
  let b := f.byte
  match f.kind.toNat % 32 with
  | 1 => some (.readStatus f.src f.tag)
  | 2 => some (.readEntry f.src f.tag (b 0) (b 1) f.payload[2]?)
  | 3 => some (.writeEntry f.src f.tag (b 0) (b 1) (f.payload.drop 2))
  | 4 => some (.deleteEntry f.src f.tag (b 0) (b 1))
  | 5 => some (.readRecord f.src f.tag (b 0) (b 1) (b 2))
  | 6 => some (.arm f.src f.tag)
  | 7 => some (.disarm f.src f.tag)
  | 8 => some (.setClock f.src f.tag (BitVec.ofNat 24 (byteAt f.payload 0 * 65536 + wordAt f.payload 1))
      (b 3))
  | 9 => some (.acknowledgeZone f.src f.tag (b 0))
  | 10 => some (.cancelZone f.src f.tag (b 0))
  | 11 => some (.resetZone f.src f.tag (b 0))
  | 12 => some (.isolateZone f.src f.tag (b 0))
  | 13 => some (.restoreZone f.src f.tag (b 0))
  | 14 => some (.evacuate f.src f.tag (b 1 ++ b 0))
  | 15 => some (.silence f.src f.tag)
  | 16 => some (.resound f.src f.tag)
  | 17 => some (.raiseShutter f.src f.tag (b 0))
  | 18 => some (.retryShutter f.src f.tag (b 0))
  | 19 => some (.releasePaternoster f.src f.tag)
  | 20 => some (.clearCall f.src f.tag (b 0))
  | 21 => some (.beginClosing f.src f.tag)
  | 22 => some (.abortClosing f.src f.tag)
  | 23 => some (.boardMode f.src f.tag (b 0))
  | _ => none

/-- The command of a valid order frame from the panel (R194). -/
def orderCommand (f : Frame) : Option Instr :=
  let b := f.byte
  match f.kind.toNat % 32 with
  | 1 => some (.pollOrder f.hdr)
  | 2 => some (.runOrder f.hdr)
  | 3 => some (.haltOrder f.hdr)
  | 4 => some (.restOrder f.hdr)
  | 5 => some (.stopAtOrder f.hdr (BitVec.ofNat 16 (wordAt f.payload 0)))
  | 6 => some (.cutOrder f.hdr)
  | 7 => some (.warnOrder f.hdr)
  | 8 => some (.dropOrder f.hdr)
  | 9 => some (.raiseOrder f.hdr)
  | 10 => some (.ringOrder f.hdr (b 0) (b 1) (b 2))
  | 11 => some (.ringCancelOrder f.hdr)
  | 12 => some (.phraseOrder f.hdr (b 0) (b 1))
  | 13 => some (.gateOrder f.hdr (b 0))
  | _ => none

/-- The command that bytes arriving on Port A are (R170 to R173). -/
def commandOfPortA (l : List Byte) : Instr :=
  match lineCheck l with
  | .valid f =>
    match frameClass f.kind with
    | none => .portAFrameDropped none
    | some c =>
      let dropped := Instr.portAFrameDropped (some (f.hdr, c))
      if c = .request ∧ f.dst = 240 then (requestCommand f).getD dropped
      else if c = .order ∧ orderDst f.dst then (orderCommand f).getD dropped
      else dropped
  | .wrongLength _ | .garbled => .portAFrameDropped none

/-- The command that bytes arriving on Port B are (R163, R164, R170, R177). A frame of wrong length is unusable
only from the polled address; from another address R163 lists no outcome for it, so it is dropped and no command
comes of it: DESIGN CHOICE (unsafe), log 41. -/
def commandOfPortB (s : State) (l : List Byte) : Option Instr :=
  match s.outstanding with
  | none => some .frameWithoutOutstandingPoll
  | some (polled, _) =>
    match lineCheck l with
    | .garbled => some .garbledFrame
    | .wrongLength src => if src.toNat = polled then some .unusableFrame else none
    | .valid f =>
      let a := f.src.toNat
      if (tget s.reg.stations a).isNone then some (.strangerFrame f.hdr (reportOf f))
      else if a ≠ polled then some (.frameFromAnotherKnownStation f.hdr (reportOf f))
      else
        match reportOf f with
        | some r => some (reportCommand f.hdr r)
        | none => some .unusableFrame

end Sys2Proof.Machine
end

