-- ==== Sys2Proof/Safety.lean ====
section
/-! DEFINITION. The terms in which statements about the block are made: the state without what the end of an
event derives or sends, replies and vetoes, and what a safe state keeps. -/

namespace Sys2Proof.Machine

/-- The state without what the end of every event derives from the records (call states, lamp image, pending
marks) or hands to the panel (reply, notices, forwarded reports), and without the pass in flight. Two states
with equal records differ in nothing else. -/
def State.records (s : State) : State :=
  { s with
    line := { s.line with reports := [], reply := none, veto := none, vetoMark := false, portA := none,
                          localRun := 0 }
    reg := { s.reg with panelMark := false,
                        stations := tmap s.reg.stations fun _ e => { e with mark := false } }
    pat := { s.pat with mark := false }
    fire := { s.fire with zones := tmap s.fire.zones fun _ z => { z with mark := false } }
    shut := tmap s.shut fun _ e => { e with mark := false }
    call := { s.call with mark := false, calls := s.call.calls.map fun c => { c with state := .waiting } }
    board := { s.board with image := [], pass := none, testDone := false, mark := false }
    ann := { s.ann with mark := false } }

/-- The state after the Port B arbiter has had its say (R179). -/
def State.served (s : State) : State := (arbiterB 128 s).records

/-- The outcome is a next state whose records are those of `s`, once the Port B arbiter has decided on it. -/
def EndsAs (o : Host.Outcome State Fault Refusal) (s : State) : Prop :=
  ∃ t, o = .next t ∧ t.records = s.served

/-- The reply `f` stands in the reply slot or is being sent to the panel (R172, R180). -/
def State.replied (t : State) (f : Frame) : Prop := t.line.reply = some f ∨ t.line.portA = some f

/-- The reply with code `c` and data `d` to request `code` from `src` with tag `tag` (R184). -/
def replyWith (s : State) (src tag : Byte) (code : Nat) (c : Code) (d : List Byte) : Frame :=
  { dst := replyDst s src, src := 240, kind := byteOf (128 + code), tag := tag,
    payload := named codes c :: d }

/-- The outcome is a next state whose records are those of `u`, with the reply of code `c` and data `d` to request
`code` from `src` with tag `tag` in the reply slot or being sent. -/
def AnswersAs (o : Host.Outcome State Fault Refusal) (src tag : Byte) (code : Nat) (c : Code) (d : List Byte)
    (u : State) : Prop :=
  ∃ t, o = .next t ∧
    t.records = (u.onLine fun l => { l with reply := some (replyWith u src tag code c d) }).served ∧
    t.replied (replyWith u src tag code c d)

/-- A request's source, tag and code (R194, class 3), for the commands that are requests. -/
def requestParts : Instr → Option (Byte × Byte × Nat)
  | .readStatus a t => some (a, t, 1)
  | .readEntry a t _ _ _ => some (a, t, 2)
  | .writeEntry a t _ _ _ => some (a, t, 3)
  | .deleteEntry a t _ _ => some (a, t, 4)
  | .readRecord a t _ _ _ => some (a, t, 5)
  | .arm a t => some (a, t, 6)
  | .disarm a t => some (a, t, 7)
  | .setClock a t _ _ => some (a, t, 8)
  | .acknowledgeZone a t _ => some (a, t, 9)
  | .cancelZone a t _ => some (a, t, 10)
  | .resetZone a t _ => some (a, t, 11)
  | .isolateZone a t _ => some (a, t, 12)
  | .restoreZone a t _ => some (a, t, 13)
  | .evacuate a t _ => some (a, t, 14)
  | .silence a t => some (a, t, 15)
  | .resound a t => some (a, t, 16)
  | .raiseShutter a t _ => some (a, t, 17)
  | .retryShutter a t _ => some (a, t, 18)
  | .releasePaternoster a t => some (a, t, 19)
  | .clearCall a t _ => some (a, t, 20)
  | .beginClosing a t => some (a, t, 21)
  | .abortClosing a t => some (a, t, 22)
  | .boardMode a t _ => some (a, t, 23)
  | _ => none

/-- A panel order's head and body (R194, class 2), for the commands that are orders. -/
def orderParts : Instr → Option Order
  | .runOrder h => some ⟨h, .run⟩
  | .haltOrder h => some ⟨h, .halt⟩
  | .restOrder h => some ⟨h, .rest⟩
  | .stopAtOrder h t => some ⟨h, .stopAt t.toNat⟩
  | .cutOrder h => some ⟨h, .cut⟩
  | .dropOrder h => some ⟨h, .drop⟩
  | .raiseOrder h => some ⟨h, .raise⟩
  | .warnOrder h => some ⟨h, .warn⟩
  | .ringOrder h a b c => some ⟨h, .ring a b c⟩
  | .ringCancelOrder h => some ⟨h, .ringCancel⟩
  | .phraseOrder h a b => some ⟨h, .phrase a b⟩
  | .gateOrder h v => some ⟨h, .gate v⟩
  | .pollOrder h => some ⟨h, .poll⟩
  | _ => none

/-- The veto `v` stands in the veto slot or its notice is being sent to the panel (R174, R192). -/
def State.vetoed (t : State) (v : Veto) : Prop :=
  t.line.veto = some v ∨ ∃ f, t.line.portA = some f ∧ f.kind = 167 ∧ f.payload = vetoPayload v

/-- The order joins the forwarded-order FIFO at its tail (R173). -/
def State.forwarding (s : State) (o : Order) : State :=
  s.onLine fun l => { l with orders := l.orders ++ [o] }

/-- The frame that arrives frees Port B, and the polled station has answered (R163, R166). -/
def State.answeredBy (s : State) (h : Hdr) : State := pollAnswered h.src.toNat (freePortB s)

/-- A request from `src` is executed at its arrival: it is taken as from the panel and the reply slot is empty
(R171, R172). -/
def State.takesRequest (s : State) (src : Byte) : Prop := s.fromPanel src = true ∧ s.line.reply = none

/-- An order with head `h` is taken as from the panel and routed to a station or to all (R170, R171). -/
def State.takesOrder (s : State) (h : Hdr) : Prop :=
  h.dst ≠ 0 ∧ h.src ≠ 0 ∧ s.fromPanel h.src = true ∧ orderDst h.dst = true

/-- The order's destination is known: 255, or held by the station table, or the part is CONFIGURING (R173). -/
def State.knows (s : State) (h : Hdr) : Prop :=
  s.armed = true → h.dst = 255 ∨ (tget s.reg.stations h.dst.toNat).isSome

/-- A frame with head `h` arrives in answer to the outstanding poll of the known station `e` (R163). -/
def State.answers (s : State) (h : Hdr) (e : Station) : Prop :=
  (∃ w, s.line.portB = .awaiting h.src.toNat w) ∧ h.dst ≠ 0 ∧ h.src ≠ 0 ∧
    tget s.reg.stations h.src.toNat = some e

/-- The lamp image is the one the records give (R124). -/
def State.imageInStep (s : State) : Prop := s.board.image = imageOf s

/-- Every call's state is the one R100 gives. -/
def State.callsInStep (s : State) : Prop := ∀ c ∈ s.call.calls, c.state = s.call.stateOf c

/-- The collections hold no more than their capacities, no push has two calls, the fairness counts stop at 4, and
the detector table stands in rising order of index (R21, R44, R99, R101, R173, R176, R179, R180). -/
structure State.Bounded (s : State) : Prop where
  orders : s.line.orders.length ≤ Config.orderFifo
  reports : s.line.reports.length ≤ Config.reportFifo
  orderRun : s.line.orderRun ≤ Config.runLimit
  localRun : s.line.localRun ≤ Config.runLimit
  calls : s.call.calls.length ≤ Config.callList
  pushes : (s.call.calls.map fun c => c.push).Nodup
  queue : s.call.queue.length ≤ Config.ringQueue
  trips : s.pat.trips.length ≤ Config.tripHistory
  detectors : s.fire.detectors.Pairwise (·.1 < ·.1)

/-- The loaded fields of the safety tables (R185). -/
structure SafetyTables where
  stations : Table (Role × Nat × PollClass × Nat)
  settings : Option LineSettings
  geometry : Option Geometry
  landings : Table (Nat × Nat × Nat × Bool × Nat)
  detectors : Table (Nat × Nat × Nat × Nat × Nat)
  callPoints : Table (Nat × Nat)
  zones : Table (Nat × Nat × Bool × FloorSet × Bool)
  fireSettings : Option FireSettings
  shutters : Table (Nat × Nat × Option Nat × ShutterKind × Option Nat × Nat × Nat × Nat × Bool)

/-- The safety tables as loaded (R185). -/
def State.safetyTables (s : State) : SafetyTables :=
  { stations := s.reg.stations.map fun e => (e.1, e.2.role, e.2.floor, e.2.cls, e.2.missLimit)
    settings := s.reg.settings
    geometry := s.pat.geometry
    landings := s.pat.landings.map fun e =>
      (e.1, e.2.up, e.2.down, e.2.station, e.2.restClear, e.2.rank)
    detectors := s.fire.detectors.map fun e =>
      (e.1, e.2.station, e.2.zone, e.2.alarm, e.2.restore, e.2.confirm)
    callPoints := s.fire.callPoints.map fun e => (e.1, e.2.station, e.2.zone)
    zones := s.fire.zones.map fun e =>
      (e.1, e.2.ackTime, e.2.investTime, e.2.coincidence, e.2.evacFloors, e.2.tableIsolated)
    fireSettings := s.fire.settings
    shutters := s.shut.map fun e =>
      (e.1, e.2.station, e.2.zoneA, e.2.zoneB, e.2.kind, e.2.landing, e.2.floor, e.2.warnTime,
       e.2.travelLimit, e.2.night) }

end Sys2Proof.Machine
end

