-- ==== Sys2Proof/WellFormed.lean ====
section
/-! DEFINITION. Which commands are well formed: a frame's destination and source are not 0 (R170), a Write
Entry carries 1 to 22 bytes of entry data (R193, R195), and a time event names an item of its table's index
range. -/

namespace Sys2Proof

/-- A head whose destination and source are not address 0 (R170). -/
def Hdr.wf (h : Hdr) : Bool := h.dst != 0 && h.src != 0

/-- The well-formed commands. The meanings act on every command; these are those that can arrive. -/
def Instr.wf : Instr → Bool
  | .powerOn | .resetPinReset => true
  | .writeEntry src _ _ _ data => src != 0 && decide (1 ≤ data.length) && decide (data.length ≤ 22)
  | .readStatus src _ | .readEntry src _ _ _ _ | .deleteEntry src _ _ _ | .readRecord src _ _ _ _
  | .arm src _ | .disarm src _ | .setClock src _ _ _ | .acknowledgeZone src _ _ | .cancelZone src _ _
  | .resetZone src _ _ | .isolateZone src _ _ | .restoreZone src _ _ | .evacuate src _ _
  | .silence src _ | .resound src _ | .raiseShutter src _ _ | .retryShutter src _ _
  | .releasePaternoster src _ | .clearCall src _ _ | .beginClosing src _ | .abortClosing src _
  | .boardMode src _ _ => src != 0
  | .runOrder h | .haltOrder h | .restOrder h | .stopAtOrder h _ | .cutOrder h | .dropOrder h
  | .raiseOrder h | .warnOrder h | .ringOrder h _ _ _ | .ringCancelOrder h | .phraseOrder h _ _
  | .gateOrder h _ | .pollOrder h => h.wf
  | .portAFrameDropped none => true
  | .portAFrameDropped (some (h, _)) => h.wf
  | .presenceReport h | .detectorLevelReport h _ | .callPointReport h _ | .chainReport h _ _ _
  | .landingReport h _ _ _ _ | .shutterPositionReport h _ | .pushReport h _ | .answerReport h _
  | .ringDoneReport h _ | .phraseDoneReport h _ | .frameFromAnotherKnownStation h _
  | .strangerFrame h _ => h.wf
  | .garbledFrame | .unusableFrame | .frameWithoutOutstandingPoll | .answerWindowExpiry => true
  | .stageTimerExpiry z => decide (z ≤ 15)
  | .warnTimerExpiry i | .travelTimerExpiry i | .retryTimerExpiry i => decide (i ≤ 31)
  | .ringTimerExpiry r => decide (r ≤ 15)
  | .nextRingTimeReached p => decide (p ≤ 63)
  | .phraseTimerExpiry f | .gapTimerExpiry f => decide (f ≤ 7)
  | .chimeNoteEnd g | .chimeEnd g => decide (g ≤ 1)
  | .stopTimerExpiry | .resumeTimerExpiry | .fireRepeatTimerExpiry | .panelTimerExpiry
  | .flashPhaseChange | .midnightStep | .automaticStart | .stepOffsetReached
  | .scanningPassCompletion | .testPassCompletion | .orderTransmissionComplete
  | .pollTransmissionComplete | .portATransmissionComplete => true

end Sys2Proof
end

