-- ==== Sys2Proof/Certificates/Slice0/Obligations.lean ====
section
/-! DEFINITION. The statements about the block.

`EndsAs o u` and `AnswersAs o … u` say that the outcome is a next state whose records are those of `u` once the
Port B arbiter has decided on them; that it decides at the end of every event is the model's choice (log 5), as is
the taking of an event's effects together in one step. -/

section
open Sys2Proof Sys2Proof.Machine

/-! ## The block and its queue -/

/-- One step takes the command at the front of the queue and runs it on the state with the queue's rest. On an empty
queue the first time event that is due runs, and with none due 8 µs pass. That time passes so, in which unit, and the
order of the events due at one moment, are the model's choice (log 1). In 8 µs the running time counts; the answer
window of an outstanding poll (R162), a note or gap (R150), a pass (R128) and every running timer have 8 µs less; the
SET clock counts its second and goes on to the next (R135), unless that is midnight or the first of today's closing
minute, where it stands at the second's end for the event that counts it (R136, R140); an UNSET clock stands (R135);
and nothing else changes. Due is a timer that runs with none left, in the state that has it; a call's next ring time
and the next step's offset, not yet waiting, that the running time has reached (R110, R143); a note or gap with none
left, as the chime's end in its last part (R150); the clock's event at the second's end; and the pass and the answer
window with none left. -/
def Obligations.StepRunsFront : Prop :=
  (∀ (c : Instr) (rest : List Instr) (s : State),
    step { s with pending := c :: rest } = exec c { s with pending := rest }) ∧
  (∀ s : State, s.pending = [] →
    (∀ c, nextDue s = some c → step s = exec c s) ∧ (nextDue s = none → step s = .next (tick s))) ∧
  ∀ s : State,
    let c := s.ann.clock
    let minute := (tget s.ann.days c.weekday).any fun m => decide (c.second + 1 = 60 * m)
    -- what 8 µs change
    let less := fun (t : Option Nat) => t.map fun n => n - 1
    let played := fun (g : Option Playing) => g.map fun p =>
      { p with sounding := p.sounding.map fun x => { x with left := x.left - 1 } }
    let t := tick s
    t = { s with
      mgmt := { s.mgmt with time := s.mgmt.time + 1 }
      line := { s.line with portB := match s.line.portB with
        | .awaiting a w => .awaiting a (w - 1)
        | x => x }
      reg := { s.reg with panelTimer := less s.reg.panelTimer }
      pat := { s.pat with stopTimer := less s.pat.stopTimer, resumeTimer := less s.pat.resumeTimer }
      fire := { s.fire with zones := s.fire.zones.map fun e => (e.1, { e.2 with timer := less e.2.timer }) }
      shut := s.shut.map fun e => (e.1, { e.2 with timer := less e.2.timer })
      call := { s.call with
        ringers := s.call.ringers.map fun e => (e.1, { e.2 with timer := less e.2.timer })
        fireTimer := less s.call.fireTimer }
      board := { s.board with
        flashTimer := less s.board.flashTimer, pass := s.board.pass.map fun p => { p with left := p.left - 1 } }
      ann := { s.ann with
        clock := t.ann.clock, gen0 := played s.ann.gen0, gen1 := played s.ann.gen1
        amps := s.ann.amps.map fun e => (e.1, { e.2 with
          phraseTimer := less e.2.phraseTimer, gapTimer := less e.2.gapTimer }) } } ∧
    (c.set = false → t.ann.clock = c) ∧
    (c.set = true → c.sub + 1 < 125000 → t.ann.clock = { c with sub := c.sub + 1 }) ∧
    (c.set = true → 125000 ≤ c.sub + 1 →
      (c.second = 86399 ∨ minute = true → t.ann.clock = { c with sub := 125000 }) ∧
      (c.second ≠ 86399 → minute = false → t.ann.clock = { c with second := c.second + 1, sub := 0 })) ∧
    -- the event that is due
    let now := s.mgmt.time / 125000
    let expired := fun (t : Option Nat) (x : Instr) => if t = some 0 then some x else none
    let first := fun (l : List (Nat × Option Nat)) (x : Nat → Instr) =>
      (l.find? fun e => e.2 == some 0).map fun e => x e.1
    let shutters := fun (l : List ShutterState) =>
      (s.shut.filter fun e => l.contains e.2.state).map fun e => (e.1, e.2.timer)
    let chime := fun (g : Nat) => (s.ann.gen g).bind fun p => p.sounding.bind fun x =>
      if x.left = 0 then
        some (if (tget s.ann.chimes p.chime).any fun c => match c.notes[x.note]? with
            | some n => decide (c.repeats ≤ x.round) && decide (c.notes.length ≤ x.note + 1) && (x.inGap || n.gap == 0)
            | none => true
          then .chimeEnd g else .chimeNoteEnd g)
      else none
    nextDue s = ([
      expired s.pat.stopTimer .stopTimerExpiry, expired s.pat.resumeTimer .resumeTimerExpiry,
      first (s.fire.zones.map fun e => (e.1, e.2.timer)) .stageTimerExpiry,
      first (shutters [.warning]) .warnTimerExpiry, first (shutters [.descending, .raising]) .travelTimerExpiry,
      first (shutters [.obstructed]) .retryTimerExpiry,
      first (s.call.ringers.map fun e => (e.1, e.2.timer)) .ringTimerExpiry,
      (s.call.calls.find? fun x => x.nextRing.any fun t => decide (t ≤ now)).map fun x => .nextRingTimeReached x.push,
      expired s.call.fireTimer .fireRepeatTimerExpiry,
      first (s.ann.amps.map fun e => (e.1, e.2.phraseTimer)) .phraseTimerExpiry,
      first (s.ann.amps.map fun e => (e.1, e.2.gapTimer)) .gapTimerExpiry,
      chime 0, chime 1,
      if c.set = false ∨ c.sub < 125000 then none
      else if c.second = 86399 then some .midnightStep
      else if minute = true then some .automaticStart else none,
      if s.ann.closing = .running ∧ s.ann.waitGen = false ∧ s.ann.waitFloors = 0 ∧
          (s.ann.startTime.any fun t0 => (s.ann.nextStep.bind (tget s.ann.programme)).any fun st =>
            decide (t0 + st.offset ≤ now)) = true
        then some .stepOffsetReached else none,
      s.board.pass.bind fun p => if p.left = 0
        then some (if p.kind = .scan then .scanningPassCompletion else .testPassCompletion) else none,
      expired s.reg.panelTimer .panelTimerExpiry, expired s.board.flashTimer .flashPhaseChange,
      match s.line.portB with
        | .awaiting _ 0 => some .answerWindowExpiry
        | _ => none] : List (Option Instr)).findSome? id

/-- Both resets start the part afresh, with their start cause and the power-on value of every record (R183). The reset
of the block is the power-on (log 21). That the queue of waiting commands is kept is the model's choice (log 20). -/
def Obligations.ResetsStartAfresh : Prop :=
  (∀ s : State,
    exec .powerOn s = .next { State.reset with pending := s.pending } ∧
    exec .resetPinReset s = .next { State.reset with
      mgmt := { State.reset.mgmt with cause := .pin }, pending := s.pending }) ∧
  (let r := State.reset
   r.pending = [] ∧ r.mgmt.mode = .configuring ∧ r.mgmt.cause = .power ∧ r.mgmt.time = 0 ∧
   -- R169, R181
   r.line.orders = [] ∧ r.line.reports = [] ∧ r.line.reply = none ∧ r.line.veto = none ∧
   r.line.vetoMark = false ∧ r.line.portA = none ∧ r.line.portB = .free ∧ r.line.orderRun = 0 ∧
   r.line.localRun = 0 ∧ r.line.requestOverrun = false ∧ r.line.forwardOverflow = false ∧
   r.line.reportOverflow = false ∧ r.line.stranger = none ∧ r.line.cycle = 0 ∧ r.line.position = none ∧
   r.reg.stations = [] ∧ r.reg.settings = none ∧ r.reg.panelLost = false ∧ r.reg.panelTimer = none ∧
   r.reg.lostTime = none ∧ r.reg.panelMark = false ∧
   -- R1 to R3, R31
   r.pat.geometry = none ∧ r.pat.landings = [] ∧ r.pat.state = .unknown ∧
   r.pat.chain = { position := none, motion := .none, fault := false, lastMove := 0 } ∧
   r.pat.revs = none ∧ r.pat.remembered = none ∧ r.pat.start = none ∧ r.pat.stop = none ∧
   r.pat.removed = [] ∧ r.pat.causes = 0 ∧ r.pat.fireStop = 0 ∧ r.pat.trips = [] ∧
   r.pat.stopTimer = none ∧ r.pat.resumeTimer = none ∧ r.pat.slot = none ∧ r.pat.mark = false ∧
   -- R44 to R47, R67, R68
   r.fire.detectors = [] ∧ r.fire.callPoints = [] ∧ r.fire.zones = [] ∧ r.fire.settings = none ∧
   r.fire.silence = false ∧ r.shut = [] ∧
   -- R96 to R98, R121
   r.call.pushes = [] ∧ r.call.patterns = [] ∧ r.call.ringers = [] ∧ r.call.counter = 1 ∧
   r.call.calls = [] ∧ r.call.queue = [] ∧ r.call.closingLevel = 0 ∧ r.call.fireLevel = 0 ∧
   r.call.fireRound = 0 ∧ r.call.fireTimer = none ∧ r.call.listFull = false ∧
   r.call.lastIgnored = none ∧ r.call.mark = false ∧
   -- R122, R123, R134
   r.board.layout = [] ∧ r.board.settings = none ∧ r.board.image = List.replicate 64 .off ∧
   r.board.lit = true ∧ r.board.flashTimer = some 62500 ∧ r.board.mode = .dark ∧
   r.board.returnMode = none ∧ r.board.pass = none ∧ r.board.record.number = 0 ∧
   r.board.record.kind = none ∧ r.board.record.degrade = .none ∧ r.board.testDone = false ∧
   r.board.mark = false ∧
   -- R137, R138, R146, R149, R157
   r.ann.clock.set = false ∧ r.ann.clock.second = 0 ∧ r.ann.clock.weekday = 0 ∧ r.ann.days = [] ∧
   r.ann.programme = [] ∧ r.ann.closing = .waiting ∧ r.ann.startTime = none ∧ r.ann.nextStep = none ∧
   r.ann.waitGen = false ∧ r.ann.waitFloors = 0 ∧ r.ann.chimes = [] ∧ r.ann.gen0 = none ∧
   r.ann.gen1 = none ∧ r.ann.amps = [] ∧ r.ann.counter = 1 ∧ r.ann.mark = false)

/-- The state after reset has its lamp image and call states in step and its collections within bounds, and is not
ARMED. -/
def Obligations.ResetMeetsInvariants : Prop :=
  State.reset.imageInStep ∧ State.reset.callsInStep ∧ State.reset.Bounded ∧ State.reset.armed = false

/-! ## What every step keeps -/

/-- The lamp image and the call states follow the records through every step (R100, R124). A command other than the
resets marks what it changes (R30, R66, R72, R120, R167, R168): the paternoster, a zone, a shutter, a station, the
panel at its return and the call list; stated while Port A is sending and goes on sending, so that no notice clears
the mark at once. Marks are found by comparing the records before and after the command (log 6). -/
def Obligations.ImageAndCallStatesKept : Prop :=
  (∀ s t : State, s.imageInStep → s.callsInStep → step s = .next t → t.imageInStep ∧ t.callsInStep) ∧
  ∀ (c : Instr) (s t : State), c ≠ .powerOn → c ≠ .resetPinReset → c ≠ .portATransmissionComplete →
    s.line.portA.isSome = true → exec c s = .next t →
    let chain := fun (p : Paternoster) => (p.state, p.causes, p.fireStop, p.removed, p.revs, p.remembered,
      p.stop.bind fun r => r.target, p.chain.motion, p.chain.fault)
    let calls := fun (u : CallUnit) => (u.calls.map fun c => (c.push, c.priority, c.presses, c.rings, c.escalated,
      c.owed, c.state), u.queue.length, u.listFull, max u.closingLevel u.fireLevel, u.lastIgnored)
    (chain s.pat ≠ chain t.pat → t.pat.mark = true) ∧
    (∀ f l m, tget s.pat.landings f = some l → tget t.pat.landings f = some m →
      (l.tripped, l.stopSwitch) ≠ (m.tripped, m.stopSwitch) → t.pat.mark = true) ∧
    (∀ z e f, tget s.fire.zones z = some e → tget t.fire.zones z = some f →
      ((e.state, e.acked, e.confirmers, e.fault) ≠ (f.state, f.acked, f.confirmers, f.fault) → f.mark = true) ∧
      (f.state = .fullAlarm → s.fire.silence ≠ t.fire.silence → f.mark = true) ∧
      (∀ i d g, tget s.fire.detectors i = some d → tget t.fire.detectors i = some g → d.zone = z → g.zone = z →
        (d.active, d.fault) ≠ (g.active, g.fault) → f.mark = true) ∧
      (∀ i d g, tget s.fire.callPoints i = some d → tget t.fire.callPoints i = some g → d.zone = z → g.zone = z →
        (d.operated, d.fault) ≠ (g.operated, g.fault) → f.mark = true)) ∧
    (∀ i e f, tget s.shut i = some e → tget t.shut i = some f →
      (e.state, e.reason, e.obstruction, e.fault, e.attempts, e.last) ≠
        (f.state, f.reason, f.obstruction, f.fault, f.attempts, f.last) → f.mark = true) ∧
    (∀ a e f, tget s.reg.stations a = some e → tget t.reg.stations a = some f →
      e.presence ≠ f.presence → f.mark = true) ∧
    (s.reg.panelLost = true → t.reg.panelLost = false → t.reg.panelMark = true) ∧
    (calls s.call ≠ calls t.call → t.call.mark = true)

/-- Every step keeps the collections within their capacities, the calls of distinct pushes, the fairness counts at
most 4, and the detector table in rising order of index (R21, R44, R99, R101, R173, R176, R179, R180). -/
def Obligations.BoundsKept : Prop :=
  ∀ s t : State, s.Bounded → step s = .next t → t.Bounded

/-- While the part is ARMED, no command but a reset changes a loaded field of a safety table, and neither does the
passing of time (R185). No index of the detector table stands twice: the table operations keep it so, and that its
indices rise is kept by every step (BoundsKept). -/
def Obligations.SafetyTablesFixedWhileArmed : Prop :=
  ∀ s : State, s.armed = true → (s.fire.detectors.map Prod.fst).Nodup →
    (∀ c t, c ≠ .powerOn → c ≠ .resetPinReset → exec c s = .next t → t.safetyTables = s.safetyTables) ∧
    (tick s).safetyTables = s.safetyTables

/-- The part mode changes by the resets, an Arm and a Disarm alone, and the start cause by the resets alone (R182).
While the part is ARMED, the paternoster leaves LOCKED only by a Release Paternoster or Disarm request or a reset
(R6), and a zone leaves FULL_ALARM only by a Reset Zone request that names it or a reset (R55). -/
def Obligations.ModeLockAndAlarmHold : Prop :=
  (∀ (c : Instr) (s t : State), exec c s = .next t →
    (t.mgmt.mode ≠ s.mgmt.mode →
      ((c = .powerOn ∨ c = .resetPinReset) ∧ t.mgmt.mode = .configuring) ∨
      ((∃ a b, c = .arm a b) ∧ t.mgmt.mode = .armed) ∨
      ((∃ a b, c = .disarm a b) ∧ t.mgmt.mode = .configuring)) ∧
    (t.mgmt.cause ≠ s.mgmt.cause → c = .powerOn ∨ c = .resetPinReset)) ∧
  (∀ (c : Instr) (s t : State), s.armed = true → c ≠ .powerOn → c ≠ .resetPinReset → exec c s = .next t →
    (s.pat.state = .locked → t.pat.state ≠ .locked →
      (∃ a b, c = .releasePaternoster a b) ∨ ∃ a b, c = .disarm a b) ∧
    (∀ z e, tget s.fire.zones z = some e → e.state = .fullAlarm →
      (∀ a b i, c = .resetZone a b i → i.toNat ≠ z) →
      ∃ f, tget t.fire.zones z = some f ∧ f.state = .fullAlarm))

/-- An order that an event puts on the floor line is safe there. A Run is sent only while the part is ARMED, the
paternoster IDLE with a start record, no zone in FULL_ALARM, every SHAFT shutter OPEN and the drive PRESENT (R11). A
Drop to the station of a SHAFT shutter is sent only while ARMED with that shutter's landing judged CLEAR (R82). A
Raise to the station of a shutter with reason FIRE is sent only while neither of its zones is in PRE_ALARM or
FULL_ALARM (R88). The premises say what the table operations keep: no index stands twice, shutter stations are bytes,
and no two shutters share one (R68). -/
def Obligations.SentOrdersAreSafe : Prop :=
  ∀ (c : Instr) (s t : State) (o : Order), exec c s = .next t →
    t.line.portB = .sending o → s.line.portB ≠ .sending o →
    (t.shut.map Prod.fst).Nodup → (t.shut.map fun e => e.2.station).Nodup →
    (∀ e ∈ t.shut, e.2.station < 256) →
    (o.body = .run → t.armed = true ∧ t.pat.state = .idle ∧ t.pat.start.isSome = true ∧
      t.anyFull = false ∧ t.shaftsOpen = true ∧ t.driveStation.any t.present = true) ∧
    (∀ i e, shutterAt t o.head.dst.toNat = some i → tget t.shut i = some e →
      (o.body = .drop → e.kind = .shaft → t.armed = true ∧ t.pat.judgeShutter e = .clear) ∧
      (o.body = .raise → e.reason = .fire → e.inZone t.zoneAlarm = false))

/-! ## Chain arithmetic -/

/-- A side at position `s` is blocked at `q` when (q - s + M) mod P is less than W = C + 2M, and clear when it is W or
more; the edges are exact; the blocked residues are the W values of q mod P from (s - M) mod P upward; and the test
gives the same answer for `s` and `s + P` (R33). A landing is clear exactly when both its sides are (R34). -/
def Obligations.ClearanceTest : Prop :=
  ∀ (g : Geometry) (l : Landing) (s q : Nat), 0 < g.pitch →
    (sideBlocked g s q = true ↔
      ((q : Int) - s + g.margin) % (g.pitch : Int) < (g.carLength + 2 * g.margin : Nat)) ∧
    (((q : Int) - s + g.margin) % (g.pitch : Int) = 0 → 0 < g.width → sideBlocked g s q = true) ∧
    (((q : Int) - s + g.margin) % (g.pitch : Int) = g.width → sideBlocked g s q = false) ∧
    (0 < g.width →
      ((q : Int) - s + g.margin) % (g.pitch : Int) = ((g.width - 1 : Nat) : Int) → sideBlocked g s q = true) ∧
    (sideBlocked g s q = true ↔
      ∃ k : Nat, k < g.width ∧ k < g.pitch ∧
        (q : Int) % (g.pitch : Int) = (((s : Int) - g.margin) % (g.pitch : Int) + k) % (g.pitch : Int)) ∧
    sideBlocked g (s + g.pitch) q = sideBlocked g s q ∧
    (landingClear g l q = true ↔ sideBlocked g l.up q = false ∧ sideBlocked g l.down q = false)

/-- The stop-target search: over the searched set less the removed landings, the target is (p + B + t) mod L for the
least t below P at which every landing is clear (R35, R36). Each landing removed is of the lowest rank of those then
left, and on the highest floor among these, and is removed only when those left are clear together at no residue
(R37). With the position absent, where no search is made, it is read as 0 (log 24). -/
def Obligations.StopTargetSearch : Prop :=
  ∀ (g : Geometry) (p : Paternoster) (k : SearchSet), 0 < g.pitch →
    let q := p.chain.position.getD 0 + g.braking
    let set := searchedLandings p k
    let r := stopTarget g p k
    let left := fun (n : Nat) => set.filter fun e => !(r.2.take n).contains e.1
    (∃ t, t < g.pitch ∧ r.1 = (q + t) % (g.cars * g.pitch) ∧
      (∀ e ∈ left r.2.length, landingClear g e.2 (q + t) = true) ∧
      ∀ u < t, ∃ e ∈ left r.2.length, landingClear g e.2 (q + u) = false) ∧
    ∀ n f, r.2[n]? = some f →
      (∀ u < g.pitch, ∃ e ∈ left n, landingClear g e.2 (q + u) = false) ∧
      ∃ e ∈ left n, e.1 = f ∧
        ∀ x ∈ left n, e.2.rank < x.2.rank ∨ (e.2.rank = x.2.rank ∧ x.1 ≤ e.1)

/-- What a Chain report writes (R43 steps 1 to 4). With the record's position absent the distance is 0 and the
reported position is taken; otherwise D = (p2 - p1) mod L up to L - P is taken with the reported position, and a
greater D is jitter: distance 0, position kept (R39). A wrap is a believed move to a lower position (R40). Motion and
condition are the report's (R3). Every side's expected count advances, modulo 256, by floor(((p1 - s) mod P + D) / P)
(R41), and a SETTLING side's travel by D up to P, where it enters CHECKING (R28). Nothing else of the Monitor's
records changes. -/
def Obligations.ChainRecordSteps : Prop :=
  ∀ (g : Geometry) (p : Paternoster) (p2 : Nat) (moving fault : Bool), 0 < g.pitch → 0 < g.cars →
    let r := chainRecord g p2 moving fault p
    r.chain.motion = (if moving then .moving else .stopped) ∧ r.chain.fault = fault ∧
    { r with chain := p.chain, landings := p.landings } = p ∧
    (p.chain.position = none → r.chain.position = some p2 ∧ r.chain.lastMove = 0 ∧
      (readMove g p.chain.position p2).wrap = false) ∧
    (∀ p1 d : Nat, p.chain.position = some p1 → (d : Int) = ((p2 : Int) - p1) % (g.cars * g.pitch : Nat) →
      (d ≤ g.cars * g.pitch - g.pitch → r.chain.position = some p2 ∧ r.chain.lastMove = d ∧
        ((readMove g p.chain.position p2).wrap = true ↔ p2 < p1)) ∧
      (g.cars * g.pitch - g.pitch < d → r.chain.position = some p1 ∧ r.chain.lastMove = 0 ∧
        (readMove g p.chain.position p2).wrap = false)) ∧
    ∀ f l, tget p.landings f = some l → ∃ m, tget r.landings f = some m ∧
      { m with upBeam := l.upBeam, downBeam := l.downBeam } = l ∧
      ∀ side b c, (side = l.up ∧ b = l.upBeam ∧ c = m.upBeam) ∨
          (side = l.down ∧ b = l.downBeam ∧ c = m.downBeam) →
        c.miss = b.miss ∧
        (p.chain.position = none → c.expected = b.expected % 256) ∧
        (∀ p1 e : Nat, p.chain.position = some p1 → (e : Int) = ((p1 : Int) - side) % (g.pitch : Int) →
          c.expected = (b.expected + (e + r.chain.lastMove) / g.pitch) % 256) ∧
        (b.settling = false → c.settling = false ∧ c.travel = b.travel) ∧
        (b.settling = true → c.travel = min (b.travel + r.chain.lastMove) g.pitch ∧
          (c.settling = false ↔ g.pitch ≤ b.travel + r.chain.lastMove))

/-- The beam check of one side (R29, R42). SETTLING: E becomes the reported count, and nothing is missed. CHECKING:
with δ the reported count minus E, modulo 256 in the range -128 to 127, δ from -1 to 1 makes the miss count 0, and any
other δ adds 1 with E kept; at K the miss count becomes 0 and the side has reached its limit. -/
def Obligations.BeamCheckOfOneSide : Prop :=
  ∀ (b : Beam) (k n : Nat), n < 256 → b.expected < 256 → 1 ≤ k →
    (b.settling = true → b.compare k n = ({ b with expected := n }, false)) ∧
    ∀ d : Int, b.settling = false → -128 ≤ d → d ≤ 127 → (d - ((n : Int) - b.expected)) % 256 = 0 →
      (-1 ≤ d → d ≤ 1 → b.compare k n = ({ b with miss := 0 }, false)) ∧
      (d < -1 ∨ 1 < d →
        (b.miss + 1 < k → b.compare k n = ({ b with miss := b.miss + 1 }, false)) ∧
        (k ≤ b.miss + 1 → b.compare k n = ({ b with miss := 0 }, true)))

/-! ## The line's bytes -/

/-- A frame of a report or an order, with its check, passes the line check and reads back as itself; the check run
over all its bytes finds 0; a report's frame carries that report and an order's frame is that order (R193, R194). -/
def Obligations.FramesReadBack : Prop :=
  (∀ f : Frame, f.payload.length ≤ 24 → crc f.bytes = 0) ∧
  (∀ (h : Hdr) (r : Report), h.wf = true →
    lineCheck (reportFrame h r).bytes = .valid (reportFrame h r) ∧
    frameClass (reportFrame h r).kind = some .report ∧ reportOf (reportFrame h r) = some r) ∧
  ∀ (c : Instr) (o : Order), orderParts c = some o → o.head.wf = true →
    lineCheck o.frame.bytes = .valid o.frame ∧ frameClass o.frame.kind = some .order ∧
    orderCommand o.frame = some c

/-! ## Requests -/

/-- A request that is not taken as from the panel changes nothing (R171). One that finds the reply slot occupied is
dropped with the request-overrun flag set, and counts as heard from the panel (R172). While the part is CONFIGURING,
Disarm and the requests of codes 9 to 22 are refused with NOT_ARMED and change nothing else (R184). A frame is taken
as from the panel when its source is the panel address of the line settings record or, while that record is absent,
any address from 224 to 239; an order is routed to the addresses 1 to 223 and to 255 (R171). A reply goes from the
address 240 to the panel address of that record or, while it is absent, to the request's source; it carries the
request's tag and code, the refusal code's number, and then its data (R184, R193, R194). That the record is the one
the request leaves, where the request itself writes or deletes it, is the model's choice (log 29). -/
def Obligations.RequestsTurnedAway : Prop :=
  (∀ (s : State) (src tag : Byte) (code : Nat) (r : Code) (d : List Byte),
    (∀ x, s.reg.settings = some x →
      (s.fromPanel src = true ↔ src.toNat = x.panel) ∧ replyDst s src = BitVec.ofNat 8 x.panel) ∧
    (s.reg.settings = none →
      (s.fromPanel src = true ↔ 224 ≤ src.toNat ∧ src.toNat ≤ 239) ∧ replyDst s src = src) ∧
    (orderDst src = true ↔ (1 ≤ src.toNat ∧ src.toNat ≤ 223) ∨ src = 255) ∧
    replyWith s src tag code r d =
      { dst := replyDst s src, src := 240, kind := BitVec.ofNat 8 (4 * 32 + code), tag := tag
        payload := (match r with
          | .ok => 0 | .badFormat => 1 | .badTable => 2 | .badIndex => 3 | .badValue => 4 | .inUse => 5
          | .armedLocked => 6 | .notArmed => 7 | .configError => 8 | .alarmActive => 9 | .wrongState => 10
          | .detectorActive => 11 | .zoneInAlarm => 12 | .busy => 13) :: d }) ∧
  ∀ (c : Instr) (src tag : Byte) (code : Nat) (s : State),
    requestParts c = some (src, tag, code) → c.wf = true →
    (s.fromPanel src = false → EndsAs (exec c s) s) ∧
    (s.fromPanel src = true → s.line.reply.isSome = true →
      EndsAs (exec c s) ((panelHeard src s).onLine fun l => { l with requestOverrun := true })) ∧
    (s.takesRequest src → s.armed = false → (code = 7 ∨ (9 ≤ code ∧ code ≤ 22)) →
      AnswersAs (exec c s) src tag code .notArmed [] (panelHeard src s))

/-- A valid frame whose source is the panel address makes the panel PRESENT, restarts the panel timer with the panel
timeout, and notes the source; one from the panel after a loss sets the panel's mark and closes the loss. With the
line settings record absent only the source is noted, and a frame not taken as from the panel does nothing (R167,
R171, R191). A frame dropped on Port A changes nothing but, when it is valid and from the panel, that the panel is
heard: one that fails the line check is without effect (R170), and one whose destination or class is not routed, or
whose source is not the panel's, is neither answered nor forwarded (R167, R171). -/
def Obligations.PanelHeardAndDroppedFrames : Prop :=
  (∀ (s : State) (src : Byte),
    (∀ x, s.reg.settings = some x →
      (src.toNat = x.panel → panelHeard src s =
        { s with
          mgmt := { s.mgmt with lastPanel := some src.toNat }
          reg := { s.reg with
            panelTimer := some (x.timeout * 125000), panelLost := false
            panelMark := s.reg.panelMark || s.reg.panelLost
            awaySecs := if s.reg.panelLost then s.reg.lostTime.map (s.now - ·) else s.reg.awaySecs } }) ∧
      (src.toNat ≠ x.panel → panelHeard src s = s)) ∧
    (s.reg.settings = none →
      (224 ≤ src.toNat → src.toNat ≤ 239 →
        panelHeard src s = { s with mgmt := { s.mgmt with lastPanel := some src.toNat } }) ∧
      (src.toNat < 224 ∨ 239 < src.toNat → panelHeard src s = s))) ∧
  (∀ (s : State),
    EndsAs (exec (.portAFrameDropped none) s) s ∧
    ∀ (h : Hdr) (c : FrameClass), h.wf = true →
      (s.fromPanel h.src = false → EndsAs (exec (.portAFrameDropped (some (h, c))) s) s) ∧
      (((h.dst = 240 ∧ c ≠ .request) ∨ (h.dst ≠ 240 ∧ orderDst h.dst = false) ∨
          (orderDst h.dst = true ∧ c ≠ .order)) →
        EndsAs (exec (.portAFrameDropped (some (h, c))) s) (panelHeard h.src s)))

/-- Read Entry answers with the entry as loaded and changes nothing; it is refused with BAD_TABLE for a code that
names no table, BAD_INDEX for an index out of range, BAD_FORMAT for a part byte on a table other than the chime table
or none on it, BAD_INDEX for an absent entry, BAD_INDEX for part 1 of a chime of 4 notes or fewer, and BAD_VALUE for a
part byte that names no part, in this order (R184, R185, R195; the tables' codes and index ranges are those of
WriteEntryAnswers). -/
def Obligations.ReadEntryAnswers : Prop :=
  ∀ (src tag table index : Byte) (part : Option Byte) (s : State), s.takesRequest src →
    let u := panelHeard src s
    let answer := fun c d => AnswersAs (exec (.readEntry src tag table index part) s) src tag 2 c d u
    (tableOf table.toNat = none → answer .badTable []) ∧
    ∀ t, tableOf table.toNat = some t →
      (t.indexOk index.toNat = false → answer .badIndex []) ∧
      (t.indexOk index.toNat = true →
        ((part.isSome ≠ (t == .chime)) → answer .badFormat []) ∧
        (part.isSome = (t == .chime) →
          (entryData t index.toNat u = none → answer .badIndex []) ∧
          ∀ d, entryData t index.toNat u = some d →
            (part = none ∨ part = some 0 → answer .ok d) ∧
            (part = some 1 → answer (if (chimeTail index.toNat u).isSome then .ok else .badIndex)
              ((chimeTail index.toNat u).getD [])) ∧
            (∀ p, part = some p → p ≠ 0 → p ≠ 1 → answer .badValue [])))

/-- Read Record answers with the part of the record and changes nothing; a kind that is none of 1 to 9 is refused with
BAD_TABLE, and an index or part that has no data with BAD_INDEX (R190, R196): another index than 0 for the
paternoster, the closing and the board pass, an absent entry, an empty call position, a part above 1 for a zone and
the board pass, above 9 for the paternoster, above 10 for the closing and above 0 for every other kind, and the part
of a floor without a landing or an amplifier. The length of each part of each record is the one R196 and R194 give,
and every part fits a reply (R193). A guard trip history holds at most 8 trips in every reachable state (R21). Each
part's contents, and the payloads of the eight notices (R30, R66, R94, R120, R133, R156, R168, R192), stand in the
layouts of R194 and R196: a quantity most significant byte first, all ones when absent, a named value as its place in
its list, a set with members 8k to 8k + 7 in byte k. The lamp image is that of the records as the request's frame
leaves them (R124, R133). Rested on choices of the model: a quantity too large for its bytes is free (log 15), whole
seconds are taken by the floor (log 16), four field readings (log 17), that a floor without an amplifier has no part
(log 44), and that no floor waited on is the empty set (log 53). -/
def Obligations.ReadRecordAnswers : Prop :=
  (∀ (src tag kind index part : Byte) (s : State), s.takesRequest src →
    let u := panelHeard src s
    let answer := fun c d => AnswersAs (exec (.readRecord src tag kind index part) s) src tag 5 c d u
    (kind.toNat < 1 ∨ 9 < kind.toNat → answer .badTable []) ∧
    (1 ≤ kind.toNat → kind.toNat ≤ 9 →
      (recordData u kind.toNat index.toNat part.toNat = none → answer .badIndex []) ∧
      ∀ d, recordData u kind.toNat index.toNat part.toNat = some d → answer .ok d)) ∧
  (∀ (s : State) (kind index part : Nat), (recordData s kind index part).isSome = true ↔ match kind with
    | 1 => (tget s.fire.zones index).isSome = true ∧ part ≤ 1
    | 2 => (tget s.fire.detectors index).isSome = true ∧ part = 0
    | 3 => (tget s.shut index).isSome = true ∧ part = 0
    | 4 => index = 0 ∧ (part = 0 ∨ part = 9 ∨
        (1 ≤ part ∧ part ≤ 8 ∧ (tget s.pat.landings (part - 1)).isSome = true))
    | 5 => index < s.call.calls.length ∧ part = 0
    | 6 => (tget s.call.ringers index).isSome = true ∧ part = 0
    | 7 => (index = 240 ∨ (tget s.reg.stations index).isSome = true) ∧ part = 0
    | 8 => index = 0 ∧ (part = 0 ∨ part = 9 ∨ part = 10 ∨
        (1 ≤ part ∧ part ≤ 8 ∧ (tget s.ann.amps (part - 1)).isSome = true))
    | 9 => index = 0 ∧ part ≤ 1
    | _ => False) ∧
  (∀ (n v : Nat) (m : BitVec (8 * n)),
    (v < 256 ^ n → quantity n v = (List.range n).map fun k => BitVec.ofNat 8 (v / 256 ^ (n - 1 - k))) ∧
    (quantity n v).length = n ∧ optQuantity n (some v) = quantity n v ∧
    optQuantity n none = List.replicate n 255 ∧
    (setBytes n m).length = n ∧
    ∀ k j, k < n → j < 8 → ((setBytes n m)[k]?.getD 0).getLsbD j = m.getLsbD (8 * k + j)) ∧
  (∀ (s : State) (kind index part : Nat) (d : List Byte), s.pat.trips.length ≤ 8 →
    recordData s kind index part = some d →
    d.length = (match kind, part with
      | 1, 0 => 22
      | 1, _ => 6
      | 2, _ => 4
      | 3, _ => 9
      | 4, 0 => 21
      | 4, 9 => 1 + 2 * s.pat.trips.length
      | 4, _ => 10
      | 5, _ => 15
      | 6, _ => 11
      | 7, _ => if index = 240 then 10 else 7
      | 8, 0 => 17
      | 8, 9 => 3
      | 8, 10 => 3
      | 8, _ => 8
      | 9, 0 => 13
      | _, _ => 16) ∧
    d.length ≤ 23) ∧
  ∀ s : State,
    let secs := fun (t : Option Nat) => t.getD 0 / 125000
    let indices := fun (l : List Nat) => l.foldl (fun m i => m ||| 2 ^ i) 0
    let detectors := fun z => indices ((s.fire.detectors.filter fun e => e.2.zone == z && e.2.active).map Prod.fst)
    let points := fun z (f : CallPoint → Bool) =>
      indices ((s.fire.callPoints.filter fun e => e.2.zone == z && f e.2).map Prod.fst)
    let floors := fun (f : Landing → Bool) => indices ((s.pat.landings.filter fun e => f e.2).map Prod.fst)
    let bits := fun n (m : Nat) => (List.range n).map fun k => byteOf (m / 256 ^ k)
    let calls := fun (f : Call → Bool) => byteOf (s.call.calls.filter f).length
    let beam := fun (b : Beam) =>
      [byteOf b.expected, byteOf b.miss, if b.settling then 0 else 1] ++ quantity 2 b.travel
    let shutter := fun i (e : Shutter) =>
      [byteOf i, named shutterStates e.state, named reasons e.reason,
       match e.obstruction, e.fault with
        | some .car, _ => 1 | some .jam, _ => 2
        | none, some .travelTimeout => 3 | none, some .retriesSpent => 4 | none, some .stationMissing => 5
        | none, some .unexpectedReport => 6 | none, none => 0,
       byteOf e.attempts, (e.last.map (named positions)).getD 255]
    let generator := fun (g : Option Playing) => match g with
      | none => [0, 255]
      | some p => [if p.sounding.isSome then 2 else 1, byteOf p.chime]
    let outstanding := fun a => ∃ w, s.line.portB = .awaiting a w
    -- the notices
    (∀ z e, zonePayload s z e = [byteOf z, named zoneStates e.state, flagByte e.acked] ++ quantity 2 (secs e.timer) ++
      setBytes 6 e.confirmers ++ bits 6 (detectors z) ++ bits 3 (points z fun c => c.operated) ++
      [flagByte e.fault, flagByte s.fire.silence]) ∧
    (∀ i e, shutterPayload i e = shutter i e) ∧
    (patPayload s.pat = [named patStates s.pat.state, byteOf s.pat.causes.toNat,
        byteOf (match s.pat.revs, s.pat.remembered with
          | some r, _ => r | none, some (.runout r) => r | none, _ => 0),
        match s.pat.remembered with
          | some .running => named patStates .running | some (.runout _) => named patStates .runout | none => 255,
        byteOf s.pat.fireStop.toNat] ++ (s.pat.removed.map byteOf ++ List.replicate 8 255).take 8 ++
      optQuantity 2 (s.pat.stop.bind fun r => r.target) ++ optQuantity 2 s.pat.chain.position ++
      [named motions s.pat.chain.motion, flagByte s.pat.chain.fault, byteOf (floors fun l => l.tripped),
       byteOf (floors fun l => l.stopSwitch)]) ∧
    (∀ a e, stationPayload a e = [byteOf a, named roles e.role, byteOf e.floor, named presences e.presence, byteOf e.miss]) ∧
    (panelPayload s.reg = optQuantity 1 (s.reg.settings.map fun x => x.panel) ++ [flagByte s.reg.panelLost] ++
      optQuantity 4 s.reg.lostTime ++ optQuantity 4 s.reg.awaySecs) ∧
    (callPayload s.call = [byteOf s.call.calls.length, calls fun c => c.state == .waiting, calls fun c => c.state == .rung,
        calls fun c => c.state == .deferred, calls fun c => c.escalated, calls fun c => c.owed,
        byteOf s.call.queue.length, byteOf (max s.call.closingLevel s.call.fireLevel), byteOf s.call.closingLevel,
        byteOf s.call.fireLevel, byteOf s.call.fireRound, flagByte s.call.listFull] ++ optQuantity 1 s.call.lastIgnored) ∧
    (closingPayload s = [named closingStates s.ann.closing] ++ optQuantity 2 (s.ann.startTime.map fun t => s.now - t) ++
      optQuantity 1 s.ann.nextStep ++ [flagByte s.ann.waitGen, byteOf s.ann.waitFloors.toNat, byteOf s.call.closingLevel] ++
      generator s.ann.gen0 ++ generator s.ann.gen1 ++
      [flagByte (s.anyFull && !s.fire.silence && s.fire.settings.isSome)] ++ quantity 3 s.ann.clock.second ++
      [byteOf s.ann.clock.weekday, flagByte s.ann.clock.set]) ∧
    (∀ v, vetoPayload v = [v.dst, v.kind, named vetoReasons v.reason, named vetoStages v.stage]) ∧
    (boardPayload s.board = [named boardModes s.board.mode, (s.board.returnMode.map (named boardModes)).getD 255,
        flagByte s.board.testDone] ++ quantity 2 s.board.record.number ++
      [match s.board.record.kind with
        | none => 0 | some .scan => 1 | some .test => 2,
       byteOf s.board.record.slots] ++ quantity 2 s.board.record.time ++ [named degrades s.board.record.degrade] ++
      optQuantity 2 s.board.record.reduced) ∧
    -- the records
    (∀ i, recordData s 1 i 0 = (tget s.fire.zones i).map (zonePayload s i) ∧
      recordData s 1 i 1 = (tget s.fire.zones i).map fun _ =>
        bits 3 (points i fun c => c.operated) ++ bits 3 (points i fun c => c.fault)) ∧
    (∀ i, recordData s 2 i 0 = (tget s.fire.detectors i).map fun d =>
      [byteOf d.level, byteOf d.run, flagByte d.active, flagByte d.fault]) ∧
    (∀ i, recordData s 3 i 0 = (tget s.shut i).map fun e => shutter i e ++
      [byteOf (secs e.timer),
       match e.prior with
        | some .closed => named shutterStates .closed | some (.obstructed _) => named shutterStates .obstructed
        | some (.faulted _) => named shutterStates .faulted | none => 255,
       match e.slot with
        | none => 0 | some .warn => 1 | some .drop => 2 | some .raise => 3]) ∧
    recordData s 4 0 0 = some (patPayload s.pat) ∧
    (∀ f < 8, recordData s 4 0 (f + 1) = (tget s.pat.landings f).map fun l => beam l.upBeam ++ beam l.downBeam) ∧
    recordData s 4 0 9 = some (byteOf s.pat.trips.length ::
      (s.pat.trips.map fun t => quantity 2 (min (s.now - t) 65535)).flatten) ∧
    (∀ i, recordData s 5 i 0 = (s.call.calls[i]?).map fun c =>
      [byteOf c.push, byteOf c.priority] ++ quantity 4 c.arrival ++ [byteOf c.presses, byteOf c.rings] ++
        optQuantity 4 c.nextRing ++ [flagByte c.escalated, flagByte c.owed, named callStates c.state]) ∧
    (∀ i, recordData s 6 i 0 = (tget s.call.ringers i).map fun g =>
      flagByte g.ring.isSome :: ((match g.ring with
        | none => List.replicate 5 255
        | some (.panel a b) => [byteOf a, byteOf b, 7, 3, 255]
        | some (.request r) => [byteOf r.ringer, byteOf r.pattern, byteOf r.priority] ++ match r.origin with
          | .call p => [0, byteOf p] | .fire => [1, 255] | .closing => [2, 255]) ++
        optQuantity 1 g.number ++ quantity 2 (g.timer.getD 0 / 12500) ++
        [flagByte (s.missing g.station),
         match g.slot with
          | none => 0 | some (.ring _ _ _) => 1 | some .cancel => 2])) ∧
    (∀ a e, a ≠ 240 → tget s.reg.stations a = some e → ∀ waits : Bool, (waits = true ↔ outstanding a) →
      recordData s 7 a 0 = some [named roles e.role, byteOf e.floor, named pollClasses e.cls, byteOf e.missLimit,
        named presences e.presence, byteOf e.miss, flagByte waits]) ∧
    recordData s 7 240 0 = some ([flagByte s.reg.panelLost, byteOf (secs s.reg.panelTimer)] ++
      optQuantity 4 s.reg.lostTime ++ [byteOf s.line.cycle, byteOf (s.line.position.getD 0)] ++
      match s.line.portB with
        | .awaiting a w => [byteOf a, byteOf (w / 125)]
        | _ => [255, 0]) ∧
    recordData s 8 0 0 = some (closingPayload s) ∧
    (∀ f < 8, recordData s 8 0 (f + 1) = (tget s.ann.amps f).map fun a =>
      [named ampStates a.state, (a.origin.map (named ampOrigins)).getD 255] ++ optQuantity 1 a.phrase ++
        optQuantity 1 a.number ++ optQuantity 1 a.gen ++
        [byteOf (secs a.phraseTimer), byteOf (secs a.gapTimer),
         match a.slot with
          | none => 0 | some (.phrase _ _) => 1 | some (.gateOn _) => 2 | some .gateOff => 3]) ∧
    (∀ g < 2, recordData s 8 0 (g + 9) = some (match s.ann.gen g with
      | none => [255, 255, 0]
      | some p => (match p.sounding with
          | none => [255, 255]
          | some x => [byteOf x.round, byteOf (x.note + 1)]) ++ [byteOf p.gated.toNat])) ∧
    recordData s 9 0 0 = some (boardPayload s.board ++ [if s.board.lit then 0 else 1]) ∧
    recordData s 9 0 1 = some ((List.range 16).map fun k =>
      let shown := fun j => displays.idxOf ((imageOf s)[4 * k + j]?.getD .off)
      byteOf (shown 0 + 4 * shown 1 + 16 * shown 2 + 64 * shown 3))

/-- A Write Entry is checked in the order of R185: BAD_TABLE, ARMED_LOCKED for a safety table while ARMED, BAD_INDEX,
BAD_FORMAT, and the table's own checks; the table's own checks and what they leave are those of WrittenEntryReadsBack.
The tables have the codes 1 to 18, of which 1 to 9 are the safety tables, and the index ranges and data lengths of
R195, which hold for ReadEntryAnswers and DeleteEntryAnswers as well. An unused byte that is not 0 is BAD_FORMAT: the
parameter of a cell assigned NONE, the bytes that a kind of step leaves unused, and a REST note's divider (R195). One
whose entry data is not 1 to 22 bytes long fails the line check and changes nothing (R170, R193). That a write of the
line settings is answered at the new panel address (log 29), and that a chime part byte that is neither 0 nor 1 is
BAD_FORMAT (log 43), are the model's choices. -/
def Obligations.WriteEntryAnswers : Prop :=
  (∀ (n : Nat), tableOf n = match n with
    | 1 => some .station | 2 => some .lineSettings | 3 => some .geometry | 4 => some .landing | 5 => some .detector
    | 6 => some .callPoint | 7 => some .zone | 8 => some .fireSettings | 9 => some .shutter | 10 => some .push
    | 11 => some .pattern | 12 => some .ringer | 13 => some .boardLayout | 14 => some .onTimes | 15 => some .day
    | 16 => some .closing | 17 => some .chime | 18 => some .amplifier | _ => none) ∧
  (∀ (n : Nat) (t : TableId) (i : Nat), tableOf n = some t →
    (t.safety = true ↔ n ≤ 9) ∧
    (t.indexOk i = true ↔ match n with
      | 1 => 1 ≤ i ∧ i ≤ 223
      | 4 | 18 => i ≤ 7
      | 5 => i ≤ 47
      | 6 => i ≤ 23
      | 7 | 11 | 12 | 17 => i ≤ 15
      | 9 | 16 => i ≤ 31
      | 10 | 13 => i ≤ 63
      | 15 => i ≤ 6
      | _ => i = 0)) ∧
  (∀ (n : Nat) (t : TableId) (d : List Byte), tableOf n = some t →
    let b := fun k => (d[k]?.getD 0).toNat
    let notes := fun (l : List Byte) => (l.length = 4 ∨ l.length = 8 ∨ l.length = 12 ∨ l.length = 16) ∧
      ∀ k, l[4 * k + 1]? = some 4 → l[4 * k]? = some 0
    (t.dataOk d = true ↔ match n with
      | 1 | 8 => d.length = 4
      | 2 | 14 => d.length = 3
      | 3 => d.length = 14
      | 4 => d.length = 7
      | 5 => d.length = 5
      | 6 | 12 | 15 | 18 => d.length = 2
      | 7 | 11 => d.length = 6
      | 9 => d.length = 9
      | 10 => d.length = 8
      | 13 => d.length = 2 ∧ (b 0 = 0 → b 1 = 0)
      | 16 => d.length = 6 ∧ (b 2 = 5 ∨ b 2 = 6 → b 3 = 0) ∧
          (b 2 = 0 ∨ b 2 = 1 ∨ b 2 = 5 → b 4 = 0) ∧ (b 2 = 3 ∨ b 2 = 4 ∨ b 2 = 6 → b 4 = 0 ∧ b 5 = 0)
      | _ => (d[0]? = some 0 ∧ notes (d.drop 2)) ∨ (d[0]? = some 1 ∧ notes (d.drop 1)))) ∧
  ∀ (src tag table index : Byte) (data : List Byte) (s : State), s.takesRequest src →
    let u := panelHeard src s
    let o := exec (.writeEntry src tag table index data) s
    let answer := fun c v => AnswersAs o src tag 3 c [] v
    (data.length < 1 ∨ 22 < data.length → EndsAs o s) ∧
    (1 ≤ data.length → data.length ≤ 22 →
      (tableOf table.toNat = none → answer .badTable u) ∧
      ∀ t, tableOf table.toNat = some t →
        (t.safety = true → u.armed = true → answer .armedLocked u) ∧
        ((t.safety && u.armed) = false →
          (t.indexOk index.toNat = false → answer .badIndex u) ∧
          (t.indexOk index.toNat = true →
            (t.dataOk data = false → answer .badFormat u) ∧
            (t.dataOk data = true →
              answer (writeTable t index.toNat data u).code (writeTable t index.toNat data u).state))))

/-- Each table's own checks at a write, in their order: a field out of its range or relation is BAD_VALUE, a name of
an absent entry BAD_INDEX, a station, station and key, or cell assignment already in use IN_USE, and a ringer,
amplifier or chime at work BUSY (R1, R2, R44 to R47, R68, R96 to R98, R122, R123, R137, R138, R146, R149, R158, R160;
the order within the closing and chime tables is log 18). An accepted write leaves the entry with exactly the data
written, byte for byte, and every other entry of every table, with the second parts of the other chimes, as it was;
part 0 of a chime leaves it without a second part, and part 1 is read back as its second part, with part 0 kept. A
refused write leaves the state as it was (R184, R185, R195). Nothing outside the table is changed by an accepted
write, but for the panel timer, which a write of the line settings starts (R160, R167). A rewritten entry keeps its
run-time record, and a new one starts: a station UNSEEN, its miss count 0 after either (R158, R159), a landing's,
detector's, call point's, zone's and shutter's record at the values after reset (R4, R28, R31, R67, R95), and a ringer
and an amplifier IDLE (R98, R146). That a rewritten IDLE amplifier keeps its record, a running gap timer too, is the
model's choice (log 51). -/
def Obligations.WrittenEntryReadsBack : Prop :=
  ∀ (t : TableId) (i : Nat) (d : List Byte) (s : State), t.indexOk i = true → t.dataOk d = true →
    let r := writeTable t i d s
    let b := byteAt d
    let w := wordAt d
    let bad := fun (lo hi n : Nat) => !(decide (lo ≤ n) && decide (n ≤ hi))
    let opt := fun k => if b k = 255 then none else some (b k)
    let first := fun (l : List (Bool × Code)) => ((l.find? fun c => c.1).map fun c => c.2).getD .ok
    let noZone := fun z => (tget s.fire.zones z).isNone
    let noPattern := fun p => (tget s.call.patterns p).isNone
    let noRinger := fun g => (tget s.call.ringers g).isNone
    let noRole := fun role => s.armed && !(tget s.reg.stations (b 0)).any fun e => e.role == role
    let playing := s.ann.gen0.any (fun p => p.chime == i) || s.ann.gen1.any fun p => p.chime == i
    let badNotes := fun (l : List Byte) => (noteBytes l).any fun n => bad 0 4 (byteAt n 1) || byteAt n 2 == 0
    (r.code ≠ .ok → r.state = s) ∧ r.data = [] ∧
    (r.code = .ok →
      (t ≠ .chime ∨ byteAt d 0 = 0 → entryData t i r.state = some d) ∧
      (t = .chime → byteAt d 0 = 0 → chimeTail i r.state = none) ∧
      (t = .chime → byteAt d 0 = 1 → chimeTail i r.state = some d ∧ entryData .chime i r.state = entryData .chime i s) ∧
      (∀ u j, u.indexOk j = true → (u, j) ≠ (t, i) → entryData u j r.state = entryData u j s) ∧
      (∀ j, t ≠ .chime ∨ j ≠ i → chimeTail j r.state = chimeTail j s) ∧
      -- the run-time records
      match t with
      | .station => ∃ e, r.state = s.onReg (fun k => { k with stations := tput k.stations i e }) ∧ e.miss = 0 ∧
          (e.presence, e.mark) = ((tget s.reg.stations i).map fun o => (o.presence, o.mark)).getD (.unseen, false)
      | .lineSettings => ∃ e, r.state = s.onReg fun k =>
          { k with settings := some e, panelTimer := some (e.timeout * 125000) }
      | .geometry => ∃ e, r.state = s.onPat fun k => { k with geometry := some e }
      | .landing =>
          let run := fun (e : Landing) => (e.tripped, e.stopSwitch, e.upBeam, e.downBeam)
          ∃ e, r.state = s.onPat (fun k => { k with landings := tput k.landings i e }) ∧
            run e = ((tget s.pat.landings i).map run).getD (false, false, Beam.start, Beam.start)
      | .detector =>
          let run := fun (e : Detector) => (e.level, e.run, e.active, e.fault)
          ∃ e, r.state = s.onFire (fun k => { k with detectors := tput k.detectors i e }) ∧
            run e = ((tget s.fire.detectors i).map run).getD (0, 0, false, false)
      | .callPoint =>
          let run := fun (e : CallPoint) => (e.operated, e.fault)
          ∃ e, r.state = s.onFire (fun k => { k with callPoints := tput k.callPoints i e }) ∧
            run e = ((tget s.fire.callPoints i).map run).getD (false, false)
      | .zone =>
          let run := fun (e : Zone) => (e.state, e.timer, e.acked, e.confirmers, e.fault, e.mark)
          ∃ e, r.state = s.onFire (fun k => { k with zones := tput k.zones i e }) ∧
            run e = ((tget s.fire.zones i).map run).getD (.quiet, none, false, 0, false, false)
      | .fireSettings => ∃ e, r.state = s.onFire fun k => { k with settings := some e }
      | .shutter =>
          let run := fun (e : Shutter) =>
            (e.state, e.reason, e.obstruction, e.fault, e.timer, e.attempts, e.prior, e.last, e.slot, e.mark)
          ∃ e, r.state = s.onShut (fun k => tput k i e) ∧
            run e = ((tget s.shut i).map run).getD (.unknown, .none, none, none, none, 0, none, none, none, false)
      | .push => ∃ e, r.state = s.onCall fun k => { k with pushes := tput k.pushes i e }
      | .pattern => ∃ e, r.state = s.onCall fun k => { k with patterns := tput k.patterns i e }
      | .ringer =>
          let run := fun (e : Ringer) => (e.ring, e.number, e.timer, e.slot)
          ∃ e, r.state = s.onCall (fun k => { k with ringers := tput k.ringers i e }) ∧
            run e = ((tget s.call.ringers i).map run).getD (none, none, none, none)
      | .boardLayout => ∃ e, r.state = s.onBoard fun k => { k with layout := tput k.layout i e }
      | .onTimes => ∃ e, r.state = s.onBoard fun k => { k with settings := some e }
      | .day => r.state = s.onAnn fun k => { k with days := tput k.days i (w 0) }
      | .closing => ∃ e, r.state = s.onAnn fun k => { k with programme := tput k.programme i e }
      | .chime => ∃ e : Table Chime, r.state = s.onAnn (fun k => { k with chimes := e }) ∧
          (tget e i).isSome = true ∧ ∀ j, j ≠ i → tget e j = tget s.ann.chimes j
      | .amplifier =>
          let run := fun (e : Amp) => (e.state, e.origin, e.phrase, e.number, e.phraseTimer, e.gen, e.gapTimer,
            e.owed, e.slot)
          ∃ e, r.state = s.onAnn (fun k => { k with amps := tput k.amps i e }) ∧
            run e = ((tget s.ann.amps i).map run).getD (.idle, none, none, none, none, none, none, false, none)) ∧
    -- the entry put stands at its index, and every other as it was
    (∀ {α : Type} (x : Table α) (j : Nat) (v : α),
      tget (tput x i v) i = some v ∧ (j ≠ i → tget (tput x i v) j = tget x j)) ∧
    r.code = match t with
      | .station => first
          [((tget s.reg.stations i).isNone && decide (96 ≤ s.reg.stations.length), .badIndex),
           (bad 0 8 (b 0) || bad 0 7 (b 1) || bad 0 1 (b 2) || bad 1 8 (b 3), .badValue)]
      | .lineSettings => first [(bad 224 239 (b 0) || bad 5 100 (b 1) || bad 5 120 (b 2), .badValue)]
      | .geometry => first
          [(bad 100 1000 (w 0) || bad 2 32 (b 2) || decide (32000 < b 2 * w 0) || bad 40 (w 0 - 1) (w 3) ||
             bad 0 50 (b 5) || decide (w 0 ≤ w 3 + 2 * b 5) || decide (w 0 ≤ w 6) || bad 1 8 (b 8) ||
             bad 1 30 (b 9) || bad 1 60 (b 10) || bad 1 8 (b 11) || bad 10 600 (w 12), .badValue)]
      | .landing => first
          [(bad 0 31999 (w 0) || bad 0 31999 (w 2) || bad 1 223 (b 4) || bad 0 1 (b 5) || bad 0 7 (b 6), .badValue)]
      | .detector => first
          [(bad 1 223 (b 0) || bad 0 15 (b 1) || b 2 == 0 || decide (b 2 ≤ b 3) || bad 1 8 (b 4), .badValue),
           (noZone (b 1), .badIndex),
           (s.fire.detectors.any fun e => e.1 != i && e.2.station == b 0, .inUse)]
      | .callPoint => first
          [(bad 1 223 (b 0) || bad 0 15 (b 1), .badValue), (noZone (b 1), .badIndex),
           (s.fire.callPoints.any fun e => e.1 != i && e.2.station == b 0, .inUse)]
      | .zone => first [(bad 10 120 (b 0) || bad 30 600 (w 1) || bad 0 1 (b 3) || bad 0 1 (b 5), .badValue)]
      | .fireSettings => first [(bad 0 15 (b 2) || bad 1 30 (b 3), .badValue), (noPattern (b 2), .badIndex)]
      | .shutter => first
          [(bad 1 223 (b 0) || bad 0 15 (b 1) || (opt 2).any (bad 0 15) || bad 0 1 (b 3) || (opt 4).any (bad 0 7) ||
             bad 0 7 (b 5) || bad 0 60 (b 6) || bad 5 120 (b 7) || bad 0 1 (b 8) ||
             (b 3 == 1 && opt 4 != some (b 5)) || (b 3 == 0 && (opt 4).isSome) || opt 2 == some (b 1), .badValue),
           (noZone (b 1) || (opt 2).any noZone || (opt 4).any fun f => (tget s.pat.landings f).isNone, .badIndex),
           (s.shut.any fun e => e.1 != i && e.2.station == b 0, .inUse)]
      | .push => first
          [(bad 1 223 (b 0) || bad 0 7 (b 1) || bad 0 7 (b 2) || bad 0 6 (b 3) || bad 0 15 (b 4) || bad 0 15 (b 5) ||
             (opt 6).any (bad 0 15) || (opt 7).any (bad 0 15) || (opt 6).isSome != (opt 7).isSome ||
             (opt 6 == some (b 5) && opt 7 == some (b 4)), .badValue),
           (noPattern (b 4) || noRinger (b 5) || (opt 6).any noRinger || (opt 7).any noPattern || noRole .push,
            .badIndex),
           (s.call.pushes.any fun e => e.1 != i && e.2.station == b 0 && e.2.key == b 1, .inUse)]
      | .pattern => first
          [(bad 1 15 (b 0) || bad 1 20 (b 1) || bad 0 1 (b 2) || (b 2 == 0 && (w 3 != 65535 || b 5 != 255)) ||
             (b 2 == 1 && (bad 5 600 (w 3) || bad 0 15 (b 5))), .badValue)]
      | .ringer => first
          [(bad 1 223 (b 0) || bad 0 7 (b 1), .badValue), (noRole .ringer, .badIndex),
           ((tget s.call.ringers i).any (fun g => g.ring.isSome || g.slot.isSome) ||
             s.call.queue.any fun q => q.ringer == i, .busy)]
      | .boardLayout => first
          [(bad 0 4 (b 0) || (b 0 == 1 && bad 0 63 (b 1)) || (b 0 == 2 && bad 0 15 (b 1)) ||
             (b 0 == 3 && bad 0 31 (b 1)) || (b 0 == 4 && bad 0 4 (b 1)), .badValue),
           ((b 0 == 1 && (tget s.call.pushes (b 1)).isNone) || (b 0 == 2 && noZone (b 1)) ||
             (b 0 == 3 && (tget s.shut (b 1)).isNone), .badIndex),
           (s.board.layout.any fun e => e.1 != i && ((b 0 == 1 && e.2 == .push (b 1)) ||
             (b 0 == 2 && e.2 == .zone (b 1)) || (b 0 == 3 && e.2 == .shutter (b 1))), .inUse)]
      | .onTimes => first [(decide (b 1 < b 0) || bad 5 40 (b 2), .badValue)]
      | .day => first [(bad 0 1439 (w 0), .badValue)]
      | .closing => first
          [(bad 0 6 (b 2) || ((b 2 == 0 || b 2 == 2) && bad 0 15 (b 3)) || (b 2 == 3 && bad 0 7 (b 3)) ||
             (b 2 == 4 && bad 1 4 (b 3)) || bad 0 3600 (w 0), .badValue),
           ((b 2 == 0 && (tget s.ann.chimes (b 3)).isNone) || (b 2 == 2 && noPattern (b 3)), .badIndex),
           (((s.ann.programme.filter fun e => decide (e.1 < i)).getLast?.any fun e => decide (w 0 < e.2.offset)) ||
             (s.ann.programme.filter fun e => decide (i < e.1)).head?.any fun e => decide (e.2.offset < w 0), .badValue),
           (s.ann.closing == .running, .wrongState)]
      | .chime =>
          if b 0 = 0 then first [(bad 1 4 (b 1) || badNotes (d.drop 2), .badValue), (playing, .busy)]
          else first
            [(badNotes (d.drop 1), .badValue), (playing, .busy), ((tget s.ann.chimes i).isNone, .badIndex),
             ((tget s.ann.chimes i).any fun c => c.notes.length != 4, .wrongState)]
      | .amplifier => first
          [(bad 1 223 (b 0) || b 1 != i, .badValue), (noRole .amplifier, .badIndex),
           (s.ann.amps.any fun e => e.1 != i && e.2.station == b 0, .inUse),
           ((tget s.ann.amps i).any fun a => a.state != .idle || a.slot.isSome, .busy)]

/-- A Delete Entry is checked in the order of R185 (the tables' codes and index ranges are those of
WriteEntryAnswers), with BAD_INDEX for an absent entry; then a station, landing, zone, shutter, push, pattern, ringer
or chime that something names is IN_USE, a ringer, chime or amplifier at work or the on-time settings of a board that
is not DARK are BUSY, and a step of a RUNNING closing is WRONG_STATE (R2, R46, R68, R96 to R98, R123, R138, R146,
R149, R158). An accepted one makes that entry absent, with the run-time record it held, and leaves every other entry,
with the second parts of the other chimes, as it was, and a refused one changes nothing. Nothing else changes with it,
but that the deletion of the line settings stops the panel timer with the presence as it stands (R167); that the
request's own frame is heard first, so that the panel is then PRESENT, is read from R167 (log 52). -/
def Obligations.DeleteEntryAnswers : Prop :=
  ∀ (src tag table index : Byte) (s : State), s.takesRequest src →
    let u := panelHeard src s
    let answer := fun c v => AnswersAs (exec (.deleteEntry src tag table index) s) src tag 4 c [] v
    (tableOf table.toNat = none → answer .badTable u) ∧
    ∀ t, tableOf table.toNat = some t →
      (t.safety = true → u.armed = true → answer .armedLocked u) ∧
      ((t.safety && u.armed) = false →
        (t.indexOk index.toNat = false → answer .badIndex u) ∧
        (t.indexOk index.toNat = true →
          (entryData t index.toNat u = none → answer .badIndex u) ∧
          ((entryData t index.toNat u).isSome = true →
            let r := deleteTable t index.toNat u
            let i := index.toNat
            let first := fun (l : List (Bool × Code)) => ((l.find? fun c => c.1).map fun c => c.2).getD .ok
            let shown := fun a => u.board.layout.any fun e => e.2 == a
            answer r.code r.state ∧ (r.code ≠ .ok → r.state = u) ∧
            (r.code = .ok → entryData t index.toNat r.state = none ∧
              (∀ x j, x.indexOk j = true → (x, j) ≠ (t, index.toNat) →
                entryData x j r.state = entryData x j u) ∧
              (t = .chime → chimeTail i r.state = none) ∧
              (∀ j, t ≠ .chime ∨ j ≠ i → chimeTail j r.state = chimeTail j u) ∧
              r.state = match t with
              | .station => u.onReg fun k => { k with stations := tdel k.stations i }
              | .lineSettings => u.onReg fun k => { k with settings := none, panelTimer := none }
              | .geometry => u.onPat fun k => { k with geometry := none }
              | .landing => u.onPat fun k => { k with landings := tdel k.landings i }
              | .detector => u.onFire fun k => { k with detectors := tdel k.detectors i }
              | .callPoint => u.onFire fun k => { k with callPoints := tdel k.callPoints i }
              | .zone => u.onFire fun k => { k with zones := tdel k.zones i }
              | .fireSettings => u.onFire fun k => { k with settings := none }
              | .shutter => u.onShut fun k => tdel k i
              | .push => u.onCall fun k => { k with pushes := tdel k.pushes i }
              | .pattern => u.onCall fun k => { k with patterns := tdel k.patterns i }
              | .ringer => u.onCall fun k => { k with ringers := tdel k.ringers i }
              | .boardLayout => u.onBoard fun k => { k with layout := tdel k.layout i }
              | .onTimes => u.onBoard fun k => { k with settings := none }
              | .day => u.onAnn fun k => { k with days := tdel k.days i }
              | .closing => u.onAnn fun k => { k with programme := tdel k.programme i }
              | .chime => u.onAnn fun k => { k with chimes := tdel k.chimes i }
              | .amplifier => u.onAnn fun k => { k with amps := tdel k.amps i }) ∧
            (∀ {α : Type} (x : Table α) (j : Nat),
              tget (tdel x i) i = none ∧ (j ≠ i → tget (tdel x i) j = tget x j)) ∧
            r.code = match t with
              | .station => first
                  [((u.fire.detectors.any fun e => e.2.station == i) || (u.fire.callPoints.any fun e => e.2.station == i) ||
                     (u.shut.any fun e => e.2.station == i) || (u.pat.landings.any fun e => e.2.station == i) ||
                     (u.call.pushes.any fun e => e.2.station == i) || (u.call.ringers.any fun e => e.2.station == i) ||
                     u.ann.amps.any fun e => e.2.station == i, .inUse)]
              | .landing => first [(u.shut.any fun e => e.2.landing == some i, .inUse)]
              | .zone => first
                  [((u.fire.detectors.any fun e => e.2.zone == i) || (u.fire.callPoints.any fun e => e.2.zone == i) ||
                     (u.shut.any fun e => e.2.zoneA == i || e.2.zoneB == some i) || shown (.zone i), .inUse)]
              | .shutter => first [(shown (.shutter i), .inUse)]
              | .push => first [(shown (.push i) || u.call.calls.any fun c => c.push == i, .inUse)]
              | .pattern => first
                  [((u.call.pushes.any fun e => e.2.pattern == i || e.2.escalation.any fun x => x.2 == i) ||
                     (u.fire.settings.any fun f => f.pattern == i) ||
                     (u.ann.programme.any fun e => match e.2.kind with | .ring p _ => p == i | _ => false) ||
                     (u.call.queue.any fun q => q.pattern == i) ||
                     u.call.ringers.any fun e => match e.2.ring with | some (.request q) => q.pattern == i | _ => false,
                    .inUse)]
              | .ringer => first
                  [((tget u.call.ringers i).any (fun g => g.ring.isSome || g.slot.isSome) ||
                     u.call.queue.any fun q => q.ringer == i, .busy),
                   (u.call.pushes.any fun e => e.2.ringer == i || e.2.escalation.any fun x => x.1 == i, .inUse)]
              | .onTimes => first [(u.board.mode != .dark, .busy)]
              | .closing => first [(u.ann.closing == .running, .wrongState)]
              | .chime => first
                  [(u.ann.programme.any fun e => match e.2.kind with | .chime c _ => c == i | _ => false, .inUse),
                   (u.ann.gen0.any (fun p => p.chime == i) || u.ann.gen1.any fun p => p.chime == i, .busy)]
              | .amplifier => first [((tget u.ann.amps i).any fun a => a.state != .idle || a.slot.isSome, .busy)]
              | .lineSettings | .geometry | .detector | .callPoint | .fireSettings | .boardLayout | .day => .ok)))

/-- An Arm request is refused with WRONG_STATE while ARMED, and with CONFIG_ERROR, naming check, table and index,
while an Arm check fails (R186). The eight checks, in order, each with the entry it names: the first entry, of the
role tables in their order, whose station is not in the station table with the role; the first whose station an
earlier entry names, but for two pushes with different keys; the second DRIVE station; the first SHAFT shutter whose
landing is absent; landings without a geometry record; landings without a DRIVE station; the first landing with a side
at L or above; and the first push that names an absent pattern or ringer. Otherwise the part is ARMED and every unit's
run-time records take their Arm values, with every mark of theirs set: the paternoster (R31), the zones, detectors and
call points, the fault flags by the stations now MISSING (R67), the shutters (R95), the calls and ringers, the ring
counter kept (R121), the closing and the amplifiers, the play counter kept (R157); the tables, the line, the presence,
the board and the clock are kept (R187). -/
def Obligations.ArmAnswers : Prop :=
  ∀ (src tag : Byte) (s : State), s.takesRequest src →
    let u := panelHeard src s
    let answer := fun c d v => AnswersAs (exec (.arm src tag) s) src tag 6 c d v
    let v := armPart u
    (u.armed = true → answer .wrongState [] u) ∧
    (u.armed = false →
      (∀ n t i, armFailure u = some (n, t, i) →
        answer .configError [byteOf n, byteOf t.code, byteOf i] u) ∧
      (armFailure u = none → answer .ok [] v)) ∧
    -- the Arm checks
    (let entries : List (TableId × Role × Nat × Nat × Nat) :=
       (u.fire.detectors.map fun e => (.detector, .detector, e.1, e.2.station, 0)) ++
       (u.fire.callPoints.map fun e => (.callPoint, .callPoint, e.1, e.2.station, 0)) ++
       (u.shut.map fun e => (.shutter, .shutter, e.1, e.2.station, 0)) ++
       (u.pat.landings.map fun e => (.landing, .landing, e.1, e.2.station, 0)) ++
       (u.call.pushes.map fun e => (.push, .push, e.1, e.2.station, e.2.key)) ++
       (u.call.ringers.map fun e => (.ringer, .ringer, e.1, e.2.station, 0)) ++
       (u.ann.amps.map fun e => (.amplifier, .amplifier, e.1, e.2.station, 0))
     let named := fun (n : Nat) (e : TableId × Role × Nat × Nat × Nat) => (n, e.1, e.2.2.1)
     let clash := fun (d e : TableId × Role × Nat × Nat × Nat) => d.2.2.2.1 == e.2.2.2.1 &&
       !(d.1 == .push && e.1 == .push && d.2.2.2.2 != e.2.2.2.2)
     let drives := (u.reg.stations.filter fun e => e.2.role == .drive).map Prod.fst
     let loop := match u.pat.geometry with
       | some g => g.cars * g.pitch
       | none => 0
     let noPattern := fun p => (tget u.call.patterns p).isNone
     let noRinger := fun g => (tget u.call.ringers g).isNone
     armFailure u =
       ([(entries.find? fun e => !(tget u.reg.stations e.2.2.2.1).any fun x => x.role == e.2.1).map (named 1),
         ((List.range entries.length).findSome? fun k => entries[k]?.bind fun e =>
           if (entries.take k).any (clash e) then some (named 2 e) else none),
         (drives[1]?).map fun a => (3, .station, a),
         (u.shut.find? fun e => e.2.kind == .shaft && e.2.landing.any fun f => (tget u.pat.landings f).isNone).map
           fun e => (4, .shutter, e.1),
         if u.pat.landings ≠ [] ∧ u.pat.geometry = none then some (5, .geometry, 0) else none,
         if u.pat.landings ≠ [] ∧ drives = [] then some (6, .station, 0) else none,
         (u.pat.landings.find? fun e => decide (loop ≤ e.2.up) || decide (loop ≤ e.2.down)).map
           fun e => (7, .landing, e.1),
         (u.call.pushes.find? fun e => noPattern e.2.pattern || noRinger e.2.ringer ||
           e.2.escalation.any fun x => noRinger x.1 || noPattern x.2).map fun e => (8, .push, e.1)] :
         List (Option (Nat × TableId × Nat))).findSome? id) ∧
    -- what an accepted Arm leaves
    v.mgmt = { u.mgmt with mode := .armed, armedAt := u.now } ∧ v.line = u.line ∧ v.reg = u.reg ∧
    v.board = u.board ∧ (∀ t i, entryData t i v = entryData t i u ∧ chimeTail i v = chimeTail i u) ∧
    v.fire.settings = u.fire.settings ∧ v.fire.silence = false ∧
    v.fire.detectors = (u.fire.detectors.map fun e => (e.1, { e.2 with
      level := 0, run := 0, active := false, fault := u.missing e.2.station })) ∧
    v.fire.callPoints = (u.fire.callPoints.map fun e => (e.1, { e.2 with
      operated := false, fault := u.missing e.2.station })) ∧
    v.fire.zones = (u.fire.zones.map fun e => (e.1, { e.2 with
      state := if e.2.tableIsolated then .isolated else .quiet, timer := none, acked := false, confirmers := 0,
      mark := true,
      fault := (u.fire.detectors.any fun d => d.2.zone == e.1 && u.missing d.2.station) ||
        u.fire.callPoints.any fun c => c.2.zone == e.1 && u.missing c.2.station })) ∧
    let at' := fun (t : Table Landing) => t.map fun e => (e.1, { e.2 with
      tripped := false, stopSwitch := false, upBeam := Beam.start, downBeam := Beam.start })
    v.pat =
      { geometry := u.pat.geometry, landings := at' u.pat.landings, state := .unknown, chain := Chain.start, revs := none,
        remembered := none, start := none, stop := none, removed := [], causes := 0, fireStop := 0, trips := [],
        stopTimer := none, resumeTimer := none, slot := none, mark := true } ∧
    v.shut = (u.shut.map fun e => (e.1, { e.2 with
      state := .unknown, reason := .none, obstruction := none, fault := none, timer := none, attempts := 0,
      prior := none, last := none, slot := none, mark := true })) ∧
    v.call =
      { pushes := u.call.pushes, patterns := u.call.patterns,
        ringers := u.call.ringers.map fun e => (e.1, { e.2 with ring := none, number := none, timer := none, slot := none }),
        counter := u.call.counter, calls := [], queue := [], nextSeq := u.call.nextSeq, closingLevel := 0, fireLevel := 0,
        fireRound := 0, fireTimer := none, listFull := false, lastIgnored := none, mark := true } ∧
    v.ann =
      { clock := u.ann.clock, days := u.ann.days, programme := u.ann.programme, closing := .waiting, startTime := none,
        nextStep := none, waitGen := false, waitFloors := 0, chimes := u.ann.chimes, gen0 := none, gen1 := none,
        amps := u.ann.amps.map fun e => (e.1, { e.2 with
          state := .idle, origin := none, phrase := none, number := none, phraseTimer := none, gen := none,
          gapTimer := none, owed := false, slot := none }),
        counter := u.ann.counter, mark := true }

/-- A Disarm request is refused with ALARM_ACTIVE while a zone is in PRE_ALARM or FULL_ALARM. Otherwise the part is
CONFIGURING and every unit's run-time records take their Disarm values, field by field: the paternoster with its
landings' guard, stop-switch and beam records (R31), the zones, detectors and call points, their fault flags cleared
(R67), the shutters (R95), the calls, the ring queue and the ringers, the ring counter kept (R121), the closing, the
generators and the amplifiers, the play counter kept (R157), and the board, DARK with the flash phase and the pass
record kept and the test-done indication cleared (R134); the tables, the line, the presence and the clock are kept
(R188). -/
def Obligations.DisarmAnswers : Prop :=
  ∀ (src tag : Byte) (s : State), s.takesRequest src → s.armed = true →
    let u := panelHeard src s
    let answer := fun c v => AnswersAs (exec (.disarm src tag) s) src tag 7 c [] v
    let v := disarmPart u
    ((∃ e ∈ u.fire.zones, e.2.state = .preAlarm ∨ e.2.state = .fullAlarm) → answer .alarmActive u) ∧
    ((∀ e ∈ u.fire.zones, e.2.state ≠ .preAlarm ∧ e.2.state ≠ .fullAlarm) → answer .ok v) ∧
    v.mgmt = { u.mgmt with mode := .configuring } ∧ v.line = u.line ∧ v.reg = u.reg ∧
    (∀ t i, entryData t i v = entryData t i u ∧ chimeTail i v = chimeTail i u) ∧
    v.board = { u.board with mode := .dark, returnMode := none, pass := none, testDone := false, mark := false } ∧
    v.fire.settings = u.fire.settings ∧ v.fire.silence = false ∧
    v.fire.detectors = (u.fire.detectors.map fun e => (e.1, { e.2 with
      level := 0, run := 0, active := false, fault := false })) ∧
    v.fire.callPoints = (u.fire.callPoints.map fun e => (e.1, { e.2 with operated := false, fault := false })) ∧
    v.fire.zones = (u.fire.zones.map fun e => (e.1, { e.2 with
      state := .quiet, timer := none, acked := false, confirmers := 0, fault := false, mark := true })) ∧
    let at' := fun (t : Table Landing) => t.map fun e => (e.1, { e.2 with
      tripped := false, stopSwitch := false, upBeam := Beam.start, downBeam := Beam.start })
    v.pat =
      { geometry := u.pat.geometry, landings := at' u.pat.landings, state := .unknown, chain := Chain.start, revs := none,
        remembered := none, start := none, stop := none, removed := [], causes := 0, fireStop := 0, trips := [],
        stopTimer := none, resumeTimer := none, slot := none, mark := true } ∧
    v.shut = (u.shut.map fun e => (e.1, { e.2 with
      state := .unknown, reason := .none, obstruction := none, fault := none, timer := none, attempts := 0,
      prior := none, last := none, slot := none, mark := true })) ∧
    v.call =
      { pushes := u.call.pushes, patterns := u.call.patterns,
        ringers := u.call.ringers.map fun e => (e.1, { e.2 with ring := none, number := none, timer := none, slot := none }),
        counter := u.call.counter, calls := [], queue := [], nextSeq := u.call.nextSeq, closingLevel := 0, fireLevel := 0,
        fireRound := 0, fireTimer := none, listFull := false, lastIgnored := none, mark := true } ∧
    v.ann =
      { clock := u.ann.clock, days := u.ann.days, programme := u.ann.programme, closing := .waiting, startTime := none,
        nextStep := none, waitGen := false, waitFloors := 0, chimes := u.ann.chimes, gen0 := none, gen1 := none,
        amps := u.ann.amps.map fun e => (e.1, { e.2 with
          state := .idle, origin := none, phrase := none, number := none, phraseTimer := none, gen := none,
          gapTimer := none, owed := false, slot := none }),
        counter := u.ann.counter, mark := true }

/-- Set Clock takes effect in either mode: the clock is SET at the second and weekday given, and a second above 86,399
or a weekday above 6 is refused with BAD_VALUE (R135). Read Status answers OK in either mode with the values of that
moment, in the layout of R194, and then the three status flags are clear (R189). An optional value of one byte is that
byte, or 255 when absent (R194). A running time, or a last stranger, too large for its bytes is a free value (log 15);
no frame brings a last stranger above 255. -/
def Obligations.SetClockAndReadStatusAnswer : Prop :=
  (∀ (src tag : Byte) (second : BitVec 24) (weekday : Byte) (s : State), s.takesRequest src →
    let u := panelHeard src s
    let answer := fun c v => AnswersAs (exec (.setClock src tag second weekday) s) src tag 8 c [] v
    (second.toNat ≤ 86399 → weekday.toNat ≤ 6 →
      answer .ok (markClosing (u.onAnn fun a =>
        { a with clock := { set := true, second := second.toNat, weekday := weekday.toNat, sub := 0 } }))) ∧
    (86399 < second.toNat ∨ 6 < weekday.toNat → answer .badValue u)) ∧
  (∀ (src tag : Byte) (s : State), s.takesRequest src →
    let u := panelHeard src s
    AnswersAs (exec (.readStatus src tag) s) src tag 1 .ok
      ([if u.armed then 1 else 0, if u.mgmt.cause = .pin then 1 else 0] ++
        quantity 4 (u.mgmt.time / 125000) ++ quantity 3 u.ann.clock.second ++
        [byteOf u.ann.clock.weekday, if u.ann.clock.set then 1 else 0,
         byteOf ((if u.line.requestOverrun then 1 else 0) + (if u.line.forwardOverflow then 2 else 0) +
           (if u.line.reportOverflow then 4 else 0))] ++
        optQuantity 1 u.line.stranger ++
        [byteOf (u.reg.stations.filter fun e => e.2.presence == .missing).length,
         byteOf (u.fire.zones.filter fun e => e.2.state != .quiet).length,
         byteOf (u.shut.filter fun e => e.2.state != .open).length,
         byteOf u.call.calls.length, byteOf (patStates.idxOf u.pat.state)])
      (u.onLine fun l =>
        { l with requestOverrun := false, forwardOverflow := false, reportOverflow := false })) ∧
  optQuantity 1 none = [255] ∧ ∀ n, n < 256 → optQuantity 1 (some n) = [byteOf n]

/-- Acknowledge, Cancel, Isolate and Restore Zone act on a present zone by its state, and are refused with BAD_INDEX
for an absent one, with WRONG_STATE in another state, and Cancel with DETECTOR_ACTIVE while a detector of the zone is
active (R56 to R58, R60, R61). -/
def Obligations.ZoneRequestsAnswer : Prop :=
  ∀ (src tag zone : Byte) (s : State), s.takesRequest src → s.armed = true →
    let u := panelHeard src s
    let z := zone.toNat
    let ack := fun c v => AnswersAs (exec (.acknowledgeZone src tag zone) s) src tag 9 c [] v
    let cancel := fun c v => AnswersAs (exec (.cancelZone src tag zone) s) src tag 10 c [] v
    let isolate := fun c v => AnswersAs (exec (.isolateZone src tag zone) s) src tag 12 c [] v
    let restore := fun c v => AnswersAs (exec (.restoreZone src tag zone) s) src tag 13 c [] v
    let quiet := onZone u z fun e =>
      { e with state := .quiet, timer := none, acked := false, confirmers := 0, mark := true }
    (15 < z ∨ tget s.fire.zones z = none →
      ack .badIndex u ∧ cancel .badIndex u ∧ isolate .badIndex u ∧ restore .badIndex u) ∧
    ∀ e, z ≤ 15 → tget s.fire.zones z = some e →
      (e.state = .preAlarm → e.acked = false →
        ack .ok (onZone u z fun e =>
          { e with acked := true, timer := some (e.investTime * 125000), mark := true })) ∧
      (e.state ≠ .preAlarm ∨ e.acked = true → ack .wrongState u) ∧
      (e.state ≠ .preAlarm → cancel .wrongState u) ∧
      (e.state = .preAlarm →
        ((∃ d ∈ s.fire.detectors, d.1 < 48 ∧ d.2.zone = z ∧ d.2.active = true) → cancel .detectorActive u) ∧
        ((∀ d ∈ s.fire.detectors, d.2.zone = z → d.2.active = false) → cancel .ok quiet)) ∧
      (e.state = .quiet → isolate .ok (onZone u z fun e => { e with state := .isolated, mark := true })) ∧
      (e.state ≠ .quiet → isolate .wrongState u) ∧
      (e.state ≠ .isolated → restore .wrongState u) ∧
      (e.state = .isolated →
        ((∀ d ∈ s.fire.detectors, d.2.zone = z → d.2.active = false) → restore .ok quiet) ∧
        (∀ m : DetSet, m ≠ 0 → (∀ i < 48, m.getLsbD i = true ↔
            ∃ d ∈ s.fire.detectors, d.1 = i ∧ d.2.zone = z ∧ d.2.active = true) →
          restore .ok (onZone u z fun e =>
            { e with state := .preAlarm, timer := some (e.ackTime * 125000), acked := false,
                     confirmers := m, mark := true })))

/-- Reset Zone returns a zone in FULL_ALARM to QUIET, and is refused with BAD_INDEX for an absent one or an index
above 15, with WRONG_STATE in another state and with DETECTOR_ACTIVE while a detector of the zone is active or a call
point operated (R56, R59). While another zone remains in FULL_ALARM nothing else changes. When none remains, the
silence flag is clear, the fire level, round count and repeat timer are 0, 0 and stopped, every FIRE request leaves
the queue, every fire ring is stopped, the owed calls are re-offered and a dispatch follows (R59, R102, R114), no gap
timer runs and no amplifier is owed its fire phrase (R148, R154), and all else is as it was. That the closing's mark
is set whether or not phrases were being issued is the model's choice (log 40). -/
def Obligations.ResetZoneAnswers : Prop :=
  ∀ (src tag zone : Byte) (s : State), s.takesRequest src → s.armed = true →
    let u := panelHeard src s
    let z := zone.toNat
    let answer := fun c v => AnswersAs (exec (.resetZone src tag zone) s) src tag 11 c [] v
    let quiet := onZone u z fun e =>
      { e with state := .quiet, timer := none, acked := false, confirmers := 0, mark := true }
    (15 < z ∨ tget s.fire.zones z = none → answer .badIndex u) ∧
    ∀ e, z ≤ 15 → tget s.fire.zones z = some e →
    (e.state ≠ .fullAlarm → answer .wrongState u) ∧
    (e.state = .fullAlarm →
      ((∃ d ∈ s.fire.detectors, d.1 < 48 ∧ d.2.zone = z ∧ d.2.active = true) → answer .detectorActive u) ∧
      ((∃ c ∈ s.fire.callPoints, c.1 < 24 ∧ c.2.zone = z ∧ c.2.operated = true) →
        answer .detectorActive u) ∧
      ((∀ d ∈ s.fire.detectors, d.2.zone = z → d.2.active = false) →
        (∀ c ∈ s.fire.callPoints, c.2.zone = z → c.2.operated = false) →
        (quiet.anyFull = true → answer .ok quiet) ∧
        (quiet.anyFull = false →
          let w := { quiet with
            fire := { quiet.fire with silence := false }
            call := { u.call with
              queue := u.call.queue.filter fun r => r.origin != .fire
              ringers := u.call.ringers.map fun e => (e.1, match e.2.ring with
                | some (.request r) => if r.origin = .fire then e.2.stop else e.2
                | _ => e.2)
              fireLevel := 0, fireRound := 0, fireTimer := none, mark := true } }
          ∃ v, answer .ok v ∧ v.fire = { quiet.fire with silence := false } ∧ v.line = u.line ∧
            v.reg = u.reg ∧ v.pat = u.pat ∧ v.shut = u.shut ∧ v.board = u.board ∧ v.mgmt = u.mgmt ∧
            v.call.fireLevel = 0 ∧ v.call.fireRound = 0 ∧ v.call.fireTimer = none ∧
            v.call.closingLevel = u.call.closingLevel ∧ v.call.pushes = u.call.pushes ∧
            (∀ r ∈ v.call.queue, r.origin ≠ .fire) ∧
            (∀ g ∈ v.call.ringers, ∀ r, g.2.ring = some (.request r) → r.origin ≠ .fire) ∧
            (∀ a ∈ v.ann.amps, a.2.gapTimer = none) ∧
            v = (dispatch (reoffer w)).onAnn fun a => { a with
              amps := a.amps.map fun e => (e.1, { e.2 with gapTimer := none, owed := false }), mark := true })))

/-- Evacuate is refused with BAD_INDEX when its mask names an absent zone. Otherwise each named zone in QUIET or
PRE_ALARM is in FULL_ALARM, with its stage timer stopped, its acknowledged flag false and its confirmer set kept, and
every other zone is as it was; the reply carries the mask of the named zones that are ISOLATED; and the silence flag
is clear when some zone has entered FULL_ALARM, and as it was otherwise (R53, R62). The state is the one that the
entries of the named zones in QUIET and PRE_ALARM leave, one after the other in rising order of index; what an entry
does in every unit is said in FullAlarmEntry. -/
def Obligations.EvacuateAnswers : Prop :=
  ∀ (src tag : Byte) (zones : ZoneSet) (s : State), s.takesRequest src → s.armed = true →
    let u := panelHeard src s
    let answer := fun c d v => AnswersAs (exec (.evacuate src tag zones) s) src tag 14 c d v
    let enters := fun (z : Nat) (e : Zone) =>
      zones.getLsbD z && (e.state == .quiet || e.state == .preAlarm)
    ((∃ z, zones.getLsbD z = true ∧ tget s.fire.zones z = none) → answer .badIndex [] u) ∧
    ((∀ z, zones.getLsbD z = true → (tget s.fire.zones z).isSome = true) →
      ∃ (v : State) (skipped : ZoneSet), answer .ok (setBytes 2 skipped) v ∧
        (∀ z, skipped.getLsbD z = true ↔
          zones.getLsbD z = true ∧ ∃ e, tget s.fire.zones z = some e ∧ e.state = .isolated) ∧
        v = ((List.range 16).filter fun z => (tget s.fire.zones z).any (enters z)).foldl
          (fun w z => enterFullAlarm z w) u ∧
        v.line = u.line ∧ v.reg = u.reg ∧ v.mgmt = u.mgmt ∧ v.board = u.board ∧
        v.fire.detectors = u.fire.detectors ∧ v.fire.callPoints = u.fire.callPoints ∧
        v.fire.settings = u.fire.settings ∧
        v.fire.silence = (if (List.range 16).any fun z => (tget s.fire.zones z).any (enters z) then false
          else s.fire.silence) ∧
        ∀ z e, tget s.fire.zones z = some e → ∃ f, tget v.fire.zones z = some f ∧
          { f with mark := e.mark } =
            if enters z e then { e with state := .fullAlarm, timer := none, acked := false } else e)

/-- Silence and Resound are refused with WRONG_STATE while no zone is in FULL_ALARM. An accepted Silence sets the
silence flag, withdraws every FIRE request and fire ring, stops the fire repeat timer with round count 0 and the fire
level kept, and stops the gap timers; the zones stay as they are, each in FULL_ALARM with its mark set, the owed calls
are re-offered, a dispatch follows, and all else is as it was; with the flag already set it changes nothing (R63,
R102, R114, R154). That the closing's mark is set too is the model's choice (log 40). An accepted Resound clears the
flag, starts the fire rings, then the fire phrases, and marks every zone in FULL_ALARM (R64, R112, R152). Starting the
fire rings: with the fire settings record present one FIRE request at priority 7 joins for each ringer in turn, the
round count is 1, and the repeat timer starts with the interval of a REPEAT pattern; in either case each ringer with a
ring below priority 7 is preempted in turn (QueueOrderKept), and a dispatch follows. Starting the fire phrases: both
generators are IDLE; with the record present each amplifier whose station is not MISSING, and which does not play a
fire phrase already, is given its own (PhrasesEnd); with it absent each GATED amplifier is IDLE with a Gate off in its
slot, or with no order placed while its station is MISSING (log 11). -/
def Obligations.SilenceAndResoundAnswer : Prop :=
  (∀ (src tag : Byte) (s : State), s.takesRequest src → s.armed = true →
    let u := panelHeard src s
    let sil := fun c v => AnswersAs (exec (.silence src tag) s) src tag 15 c [] v
    let res := fun c v => AnswersAs (exec (.resound src tag) s) src tag 16 c [] v
    (s.anyFull = false → sil .wrongState u ∧ res .wrongState u) ∧
    (s.anyFull = true →
      (s.fire.silence = true → sil .ok u) ∧
      (s.fire.silence = false →
        let marked := fun (f : FireUnit) => { f with
          silence := true
          zones := f.zones.map fun e => (e.1, { e.2 with mark := e.2.mark || e.2.state == .fullAlarm }) }
        let w := { u with
          fire := marked u.fire
          call := { u.call with
            queue := u.call.queue.filter fun r => r.origin != .fire
            ringers := u.call.ringers.map fun e => (e.1, match e.2.ring with
              | some (.request r) => if r.origin = .fire then e.2.stop else e.2
              | _ => e.2)
            fireRound := 0, fireTimer := none, mark := true } }
        ∃ v, sil .ok v ∧ v.fire = marked u.fire ∧
          (v = (dispatch (reoffer w)).onAnn fun a => { a with
            amps := a.amps.map fun e => (e.1, { e.2 with gapTimer := none, owed := false }), mark := true }) ∧
          v.fire.silence = true ∧ v.fire.detectors = u.fire.detectors ∧
          v.line = u.line ∧ v.reg = u.reg ∧ v.pat = u.pat ∧ v.shut = u.shut ∧ v.board = u.board ∧
          v.mgmt = u.mgmt ∧ v.call.fireTimer = none ∧ v.call.fireRound = 0 ∧
          v.call.fireLevel = u.call.fireLevel ∧ (∀ r ∈ v.call.queue, r.origin ≠ .fire) ∧
          (∀ g ∈ v.call.ringers, ∀ r, g.2.ring = some (.request r) → r.origin ≠ .fire) ∧
          (∀ a ∈ v.ann.amps, a.2.gapTimer = none)) ∧
      ∃ v, res .ok v ∧ v.fire.silence = false ∧ v.fire.detectors = u.fire.detectors ∧
        v.line = u.line ∧ v.reg = u.reg ∧ v.pat = u.pat ∧ v.shut = u.shut ∧ v.board = u.board ∧
        v.mgmt = u.mgmt ∧ (u.fire.settings.isSome = true → v.call.fireRound = 1) ∧
        v = markFullZones (fireOverride (fireRings (u.onFire fun f => { f with silence := false }))))) ∧
  ∀ v : State,
    let indices := fun (w : State) => w.call.ringers.map Prod.fst
    let preempted := fun (w : State) => dispatch ((indices w).foldl preemptOne w)
    let silent := v.onAnn fun a => { a with gen0 := none, gen1 := none, mark := true }
    (v.fire.settings = none →
      fireRings v = preempted v ∧
      fireOverride v = silent.onAnn fun a => { a with amps := a.amps.map fun e => (e.1,
        if e.2.state = .gated then
          { e.2 with
            state := .idle, origin := none, phrase := none, number := none, phraseTimer := none, gen := none,
            slot := if v.missing e.2.station then e.2.slot else some .gateOff }
        else e.2) }) ∧
    (∀ f, v.fire.settings = some f →
      fireRings v = preempted
        (((indices v).foldl (fun w i => joinAndDispatch i f.pattern 7 .fire w) v).onCall fun k =>
          { k with
            fireRound := 1
            fireTimer := (tget v.call.patterns f.pattern).bind fun p => p.repeating.map fun r => r.1 * 125000 }) ∧
      fireOverride v = ((v.ann.amps.filter fun e =>
          !v.missing e.2.station && !(e.2.state == .playing && e.2.origin == some .fire)).map Prod.fst).foldl
        (fun w x => giveFirePhrase x w) silent) ∧
    markFullZones v = v.onFire fun k => { k with zones := k.zones.map fun e =>
      (e.1, { e.2 with mark := e.2.mark || e.2.state == .fullAlarm }) }

/-- Raise Shutter is refused in the order of R87 and otherwise puts the shutter into RAISING from its state, with the
travel timer started and a Raise in its slot. Retry Shutter is refused in the order of R85. Otherwise the attempt
count is 0 and obstruction and fault cause are cleared, and a DEPARTMENT shutter is in DESCENDING with a Drop in its
slot; a SHAFT shutter whose landing is judged CLEAR is in WARNING with a Warn (R77), one judged BLOCKED is OBSTRUCTED
by a car, and one judged NOT_STOPPED is in AWAIT_CLEAR, its landing handed to the Monitor when its reason is FIRE
(R81). An accepted Retry leaves the shutter's mark set, also where the judgment BLOCKED puts back the obstruction it
cleared (R72); stated while Port A is sending, so that no notice clears it at once. -/
def Obligations.RaiseAndRetryShutterAnswer : Prop :=
  (∀ (src tag shutter : Byte) (s : State), s.takesRequest src → s.armed = true →
    let u := panelHeard src s
    let i := shutter.toNat
    let answer := fun c v => AnswersAs (exec (.raiseShutter src tag shutter) s) src tag 17 c [] v
    let raising := fun p => onShutter u i fun e =>
      { e with state := .raising, prior := some p, timer := some (e.travelLimit * 125000),
               obstruction := none, fault := none, slot := some .raise }
    (31 < i ∨ tget s.shut i = none → answer .badIndex u) ∧
    ∀ e, i ≤ 31 → tget s.shut i = some e → (s.shut.map Prod.fst).Nodup →
      (e.state ≠ .closed → e.state ≠ .obstructed → e.state ≠ .faulted → answer .wrongState u) ∧
      (e.state = .closed ∨ e.state = .obstructed ∨ e.state = .faulted →
        (s.missing e.station = true → answer .busy u) ∧
        (s.missing e.station = false →
          (e.reason = .fire → e.inZone s.zoneAlarm = true → answer .zoneInAlarm u) ∧
          (e.reason ≠ .fire ∨ e.inZone s.zoneAlarm = false →
            (e.state = .closed → answer .ok (raising .closed)) ∧
            (∀ o, e.state = .obstructed → e.obstruction = some o → answer .ok (raising (.obstructed o))) ∧
            (∀ c, e.state = .faulted → e.fault = some c → answer .ok (raising (.faulted c))))))) ∧
  (∀ (src tag shutter : Byte) (s : State), s.takesRequest src → s.armed = true →
    let u := panelHeard src s
    let i := shutter.toNat
    let answer := fun c v => AnswersAs (exec (.retryShutter src tag shutter) s) src tag 18 c [] v
    let cleared := fun (e : Shutter) => { e with attempts := 0, obstruction := none, fault := none, prior := none }
    (31 < i ∨ tget s.shut i = none → answer .badIndex u) ∧
    ∀ e, i ≤ 31 → tget s.shut i = some e → (s.shut.map Prod.fst).Nodup →
      (e.state ≠ .obstructed → e.state ≠ .faulted → answer .wrongState u) ∧
      (e.state = .obstructed ∨ e.state = .faulted →
        (s.missing e.station = true → answer .busy u) ∧
        (s.missing e.station = false →
          (e.reason = .none → answer .wrongState u) ∧
          (e.reason ≠ .none →
            (s.line.portA.isSome = true → ∃ t f, exec (.retryShutter src tag shutter) s = .next t ∧
              tget t.shut i = some f ∧ f.mark = true) ∧
            (e.kind = .department →
              answer .ok (onShutter u i fun e =>
                { cleared e with state := .descending, timer := some (e.travelLimit * 125000),
                                 slot := some .drop })) ∧
            (e.kind = .shaft →
              (s.pat.judgeShutter e = .clear → 1 ≤ e.warnTime →
                answer .ok (onShutter u i fun e =>
                  { cleared e with state := .warning, timer := some (e.warnTime * 125000),
                                   slot := some .warn })) ∧
              (s.pat.judgeShutter e = .clear → e.warnTime = 0 →
                answer .ok (onShutter u i fun e =>
                  { cleared e with state := .descending, timer := some (e.travelLimit * 125000),
                                   slot := some .drop })) ∧
              (s.pat.judgeShutter e = .blocked →
                answer .ok (onShutter u i fun e =>
                  { cleared e with state := .obstructed, obstruction := some .car, timer := none })) ∧
              (s.pat.judgeShutter e = .notStopped →
                let waiting := onShutter u i fun e =>
                  { cleared e with state := .awaitClear, timer := none, mark := true }
                (e.reason = .fire → ∀ f, e.landing = some f → answer .ok (addLanding f waiting)) ∧
                (e.reason ≠ .fire → answer .ok waiting)))))))

/-- Release Paternoster is refused in the order of R26; on BUSY the reply names the lowest SHAFT shutter in
AWAIT_CLEAR, WARNING or DESCENDING, or 255 when it is the drive that is not ready. An accepted one makes the
paternoster IDLE and empties the lock causes, the fire stop set, the removed landings, the trip history, the drive
order slot and the start record. -/
def Obligations.ReleasePaternosterAnswers : Prop :=
  ∀ (src tag : Byte) (s : State), s.takesRequest src → s.armed = true →
    let u := panelHeard src s
    let answer := fun c d v => AnswersAs (exec (.releasePaternoster src tag) s) src tag 19 c d v
    let closing := fun (e : Shutter) => e.kind = .shaft ∧
      (e.state = .awaitClear ∨ e.state = .warning ∨ e.state = .descending)
    let unready := (∃ a, s.driveStation = some a ∧ s.missing a = true) ∨ s.pat.chain.fault = true ∨
      s.pat.chain.motion ≠ .stopped
    (s.pat.state ≠ .locked → answer .wrongState [] u) ∧
    (s.pat.state = .locked →
      (s.anyFull = true → answer .alarmActive [] u) ∧
      (s.anyFull = false →
        (∀ l i e r, s.shut = l ++ (i, e) :: r → (∀ x ∈ l, ¬closing x.2) → closing e →
          answer .busy [byteOf i] u) ∧
        ((∀ x ∈ s.shut, ¬closing x.2) →
          (unready → answer .busy [255] u) ∧
          (¬unready →
            answer .ok [] (u.onPat fun p =>
              { p with state := .idle, causes := 0, fireStop := 0, removed := [], trips := [],
                       slot := none, start := none, mark := true })))))

/-- Clear Call takes the call of the push named out of the list; 255 takes every call, and every queued CALL request,
and the reply carries the number of calls removed. It is refused with BAD_INDEX for a push that is absent or above 63,
and with WRONG_STATE for one without a call (R117, R116). The rings of the calls removed are stopped, by a Ring Cancel
or by taking an unsent Ring order out of its slot (QueueOrderKept); their requests leave the queue, LIST_FULL is
cleared when a call left, and then the owed calls are re-offered and a dispatch follows (R102, R106). That all the
calls leave before one look at the owed calls and one dispatch is the model's choice (log 27). -/
def Obligations.ClearCallAnswers : Prop :=
  (∀ (src tag push : Byte) (s : State), s.takesRequest src → s.armed = true →
    let u := panelHeard src s
    let answer := fun c d v => AnswersAs (exec (.clearCall src tag push) s) src tag 20 c d v
    let kept := fun (v : State) => v.line = u.line ∧ v.reg = u.reg ∧ v.pat = u.pat ∧ v.fire = u.fire ∧
      v.shut = u.shut ∧ v.board = u.board ∧ v.ann = u.ann ∧ v.mgmt = u.mgmt ∧
      v.call.closingLevel = u.call.closingLevel ∧ v.call.fireLevel = u.call.fireLevel
    let unrung := fun (v : State) => ∀ c ∈ s.call.calls, push = 255 ∨ c.push = push.toNat →
      ∀ g ∈ v.call.ringers, ∀ r, g.2.ring = some (.request r) → r.origin ≠ .call c.push
    (push ≠ 255 → (63 < push.toNat ∨ tget s.call.pushes push.toNat = none → answer .badIndex [] u) ∧
      (push.toNat ≤ 63 → (tget s.call.pushes push.toNat).isSome = true →
        ((∀ c ∈ s.call.calls, c.push ≠ push.toNat) → answer .wrongState [] u) ∧
        ((∃ c ∈ s.call.calls, c.push = push.toNat) →
          let v := removeCalls [push.toNat] false u
          answer .ok [] v ∧ kept v ∧ unrung v ∧ v.call.listFull = false ∧
            (v.call.calls.map fun c => c.push) =
              (s.call.calls.map fun c => c.push).filter (· ≠ push.toNat) ∧
            ∀ r ∈ v.call.queue, r.origin ≠ .call push.toNat))) ∧
    (push = 255 →
      let v := removeCalls (u.call.calls.map fun c => c.push) true u
      answer .ok [byteOf s.call.calls.length] v ∧ kept v ∧ unrung v ∧ v.call.calls = [] ∧
        (s.call.calls ≠ [] → v.call.listFull = false) ∧
        (s.call.calls = [] → v.call.listFull = s.call.listFull) ∧
        ∀ r ∈ v.call.queue, ∀ p, r.origin ≠ .call p)) ∧
  ∀ v : State,
    let stopped := fun (gone : Nat → Bool) (t : Table Ringer) => t.map fun e => (e.1,
      match e.2.ring with
      | some (.request r) => match r.origin with
        | .call p => if gone p then e.2.stop else e.2
        | _ => e.2
      | _ => e.2)
    let calling := fun (r : Req) => match r.origin with
      | .call _ => true
      | _ => false
    let queue := v.call.queue.filter fun r => !calling r
    (∀ p, (∃ c ∈ v.call.calls, c.push = p) → removeCalls [p] false v = dispatch (reoffer (v.onCall fun k =>
      { k with
        calls := k.calls.filter fun c => c.push != p
        queue := k.queue.filter fun r => r.origin != .call p
        ringers := stopped (· == p) k.ringers, listFull := false, mark := true }))) ∧
    removeCalls (v.call.calls.map fun c => c.push) true v = dispatch (reoffer (v.onCall fun k =>
      { k with
        calls := [], queue := queue
        ringers := stopped (fun p => v.call.calls.any fun c => c.push == p) k.ringers
        listFull := k.listFull && k.calls.isEmpty
        mark := k.mark || queue.length != k.queue.length || !k.calls.isEmpty }))

/-- Begin Closing is refused with BUSY while RUNNING, ALARM_ACTIVE while a zone is in FULL_ALARM and WRONG_STATE for
an empty programme, in this order; otherwise the closing is RUNNING from now with the first step next, and a first
step whose offset is not 0 is not yet taken (R141 to R143). Abort Closing is refused with WRONG_STATE when the closing
is FINISHED or ABORTED; otherwise the closing is ABORTED, both generators are IDLE, the closing level is 0, and no
CLOSING request is queued or rung (R115, R145). -/
def Obligations.ClosingRequestsAnswer : Prop :=
  ∀ (src tag : Byte) (s : State), s.takesRequest src → s.armed = true →
    let u := panelHeard src s
    let begin' := fun c v => AnswersAs (exec (.beginClosing src tag) s) src tag 21 c [] v
    let abort := fun c v => AnswersAs (exec (.abortClosing src tag) s) src tag 22 c [] v
    (s.ann.closing = .running → begin' .busy u) ∧
    (s.ann.closing ≠ .running →
      (s.anyFull = true → begin' .alarmActive u) ∧
      (s.anyFull = false →
        (s.ann.programme = [] → begin' .wrongState u) ∧
        ∀ i st rest, s.ann.programme = (i, st) :: rest →
          (0 < st.offset →
            begin' .ok (u.onAnn fun a =>
              { a with closing := .running, startTime := some u.now, nextStep := some i, waitGen := false,
                       waitFloors := 0, mark := true })) ∧
          (st.offset = 0 →
            begin' .ok (stepCheck (u.onAnn fun a =>
              { a with closing := .running, startTime := some u.now, nextStep := some i, waitGen := false,
                       waitFloors := 0, mark := true }))))) ∧
    (s.ann.closing = .finished ∨ s.ann.closing = .aborted → abort .wrongState u) ∧
    (s.ann.closing = .waiting ∨ s.ann.closing = .running →
      ∃ v, abort .ok v ∧ v.ann.closing = .aborted ∧ v.ann.startTime = none ∧ v.ann.nextStep = none ∧
        v.ann.waitGen = false ∧ v.ann.waitFloors = 0 ∧ v.ann.gen0 = none ∧ v.ann.gen1 = none ∧
        (∀ a ∈ v.ann.amps, a.2.state ≠ .gated) ∧ v.ann.clock = u.ann.clock ∧
        v.ann.programme = u.ann.programme ∧ v.call.closingLevel = 0 ∧
        (∀ r ∈ v.call.queue, r.origin ≠ .closing) ∧
        (∀ g ∈ v.call.ringers, ∀ r, g.2.ring = some (.request r) → r.origin ≠ .closing) ∧
        v.line = u.line ∧ v.reg = u.reg ∧ v.pat = u.pat ∧ v.fire = u.fire ∧ v.shut = u.shut ∧
        v.board = u.board ∧ v.mgmt = u.mgmt)

/-- Board Mode is refused with BAD_VALUE for no mode, BAD_INDEX for SCANNING or TEST without on-time settings and BUSY
for TEST while in TEST; otherwise the reply carries the mode that results. DARK makes the board DARK with no pass in
flight; SCANNING from DARK starts a pass or waits; SCANNING while in TEST becomes the mode to return to; TEST from
SCANNING waits for the scanning pass in flight; and a test pass with at least one assigned cell is in flight from DARK
at once (R130 to R132). A pass that the request starts is planned from the lamp image of the records as the request's
frame leaves them (R124, R128, R167). -/
def Obligations.BoardModeAnswers : Prop :=
  ∀ (src tag mode : Byte) (s : State), s.takesRequest src →
    let u := panelHeard src s
    let b := s.board
    let now := refreshImage u
    let p := planPass now.board
    let answer := fun c d v => AnswersAs (exec (.boardMode src tag mode) s) src tag 23 c d v
    let passAfter := fun p => ∃ t, exec (.boardMode src tag mode) s = .next t ∧ t.board.pass = p
    (2 < mode.toNat → answer .badValue [] u) ∧
    (mode.toNat = 1 ∨ mode.toNat = 2 → b.settings = none → answer .badIndex [] u) ∧
    (mode.toNat = 2 → b.settings.isSome = true → b.mode = .test → answer .busy [] u) ∧
    (mode.toNat = 0 →
      (b.mode = .dark → answer .ok [0] now) ∧
      (b.mode ≠ .dark → passAfter none ∧
        answer .ok [0] (now.onBoard fun b => { b with mode := .dark, returnMode := none, pass := none }))) ∧
    ∀ o, b.settings = some o →
      (mode.toNat = 1 →
        (b.mode = .scanning → answer .ok [1] now) ∧
        (b.mode = .test → answer .ok [2] (now.onBoard fun b => { b with returnMode := some .scanning })) ∧
        (b.mode = .dark → answer .ok [1] (now.onBoard fun b =>
          { b with mode := .scanning,
                   pass := if (p o .scan).plan = [] then none else some (p o .scan) }) ∧
          ((p o .scan).plan ≠ [] → passAfter (some (p o .scan))))) ∧
      (mode.toNat = 2 →
        (b.mode = .dark → (p o .test).plan ≠ [] → passAfter (some (p o .test)) ∧
          answer .ok [2] (now.onBoard fun b =>
            { b with mode := .test, returnMode := some .dark, pass := some (p o .test) })) ∧
        (b.mode = .dark → (p o .test).plan = [] →
          ∃ v, answer .ok [0] v ∧ v.board.mode = .dark ∧ v.board.returnMode = none ∧
            v.board.record.number = (b.record.number + 1) % 65536) ∧
        (b.mode = .scanning → b.pass.isSome = true → passAfter b.pass ∧
          answer .ok [2] (now.onBoard fun b => { b with mode := .test, returnMode := some .scanning })) ∧
        (b.mode = .scanning → b.pass = none → (p o .test).plan ≠ [] →
          passAfter (some (p o .test)) ∧
          answer .ok [2] (now.onBoard fun b =>
            { b with mode := .test, returnMode := some .scanning, pass := some (p o .test) })) ∧
        (b.mode = .scanning → b.pass = none → (p o .test).plan = [] →
          ∃ v, answer .ok [1] v ∧ v.board.mode = .scanning ∧ v.board.returnMode = none ∧
            v.board.record.number = (b.record.number + 1) % 65536))

/-! ## Panel orders -/

/-- An order taken as from the panel and routed to a station joins the forwarded-order FIFO unchanged, with nothing
else but the panel heard, when it is a Warn or Ring Cancel to a known destination in either mode, or, while the part
is CONFIGURING, a Halt, Rest, Stop-At, Cut, Raise, Ring, Phrase or Gate, or a Drop that would reach no SHAFT shutter
(R5, R89, R118, R155, R173). A passed order that finds the FIFO holding 16 is dropped with the forward-overflow flag
set, and its owner makes no record change, whatever the order (R173); a Halt is always passed. -/
def Obligations.PlainOrdersPass : Prop :=
  (∀ (c : Instr) (o : Order) (s : State), orderParts c = some o → s.takesOrder o.head →
    s.line.orders.length < 16 →
    let u := panelHeard o.head.src s
    let shaftless := (o.head.dst = 255 → s.anyShaft = false) ∧
      ∀ i e, o.head.dst ≠ 255 → shutterAt s o.head.dst.toNat = some i → tget s.shut i = some e → e.kind ≠ .shaft
    (s.knows o.head → (o.body = .warn ∨ o.body = .ringCancel) → EndsAs (exec c s) (u.forwarding o)) ∧
    (s.armed = false → o.body ≠ .poll → o.body ≠ .run → (o.body = .drop → shaftless) →
      EndsAs (exec c s) (u.forwarding o))) ∧
  (∀ (c : Instr) (o : Order) (s : State), orderParts c = some o → s.takesOrder o.head →
    16 ≤ s.line.orders.length → judgeOrder o (panelHeard o.head.src s) = .pass →
    EndsAs (exec c s) ((panelHeard o.head.src s).onLine fun l => { l with forwardOverflow := true })) ∧
  ∀ (h : Hdr) (s : State), s.takesOrder h → s.knows h → 16 ≤ s.line.orders.length →
    judgeOrder ⟨h, .halt⟩ (panelHeard h.src s) = .pass ∧
    EndsAs (exec (.haltOrder h) s)
      ((panelHeard h.src s).onLine fun l => { l with forwardOverflow := true })

/-- A panel Run passes, with the start record RUNNING, while the part is ARMED, the paternoster IDLE, no zone in
FULL_ALARM, every SHAFT shutter OPEN and the drive station PRESENT; the state stays IDLE (R11). What the Monitor notes
of a panel Halt or Rest while ARMED (R12, R13). A Halt always passes: in IDLE the start record becomes absent, in
RESTING and STOPPING the stop is halted and an unsent Stop-At withdrawn, and in every other state nothing changes. A
Rest in RUNNING or RUNOUT is not forwarded: the state is RESTING with the stop timer started and the revolutions
dropped, and the slot holds a Stop-At to the target of the rest set, or a Halt when that set is empty. -/
def Obligations.PaternosterOrdersNoted : Prop :=
  (∀ (h : Hdr) (s : State), s.takesOrder h → s.knows h → s.line.orders.length < 16 →
    s.armed = true → s.pat.state = .idle → s.anyFull = false →
    (∀ e ∈ s.shut, e.2.kind = .shaft → e.2.state = .open) →
    (∃ a e, s.driveStation = some a ∧ tget s.reg.stations a = some e ∧ e.presence = .present) →
    EndsAs (exec (.runOrder h) s)
      (((panelHeard h.src s).forwarding ⟨h, .run⟩).onPat fun p => { p with start := some .running })) ∧
  (∀ (h : Hdr) (s : State), s.takesOrder h → s.knows h → s.armed = true →
    let u := panelHeard h.src s
    let f := u.forwarding ⟨h, .halt⟩
    (s.line.orders.length < 16 →
      (s.pat.state = .idle → EndsAs (exec (.haltOrder h) s) (f.onPat fun p => { p with start := none })) ∧
      (s.pat.state = .resting ∨ s.pat.state = .stopping →
        EndsAs (exec (.haltOrder h) s) (f.onPat fun p =>
          { p with stop := some { target := none, searched := none, halted := true },
                   slot := match p.slot with
                     | some (.stopAt _) => none
                     | x => x })) ∧
      (s.pat.state = .running ∨ s.pat.state = .runout ∨ s.pat.state = .unknown ∨ s.pat.state = .held ∨
          s.pat.state = .locked → EndsAs (exec (.haltOrder h) s) f)) ∧
    ∀ g, s.pat.geometry = some g → s.pat.state = .running ∨ s.pat.state = .runout →
      ((∀ e ∈ s.pat.landings, e.2.restClear = false) →
        EndsAs (exec (.restOrder h) s) (u.onPat fun p =>
          { p with state := .resting, revs := none, stopTimer := some (g.stopTimeout * 125000),
                   slot := if p.slot = some .cut then p.slot else some .halt,
                   stop := some { target := none, searched := none, halted := false } })) ∧
      ((∃ e ∈ s.pat.landings, e.2.restClear = true) →
        EndsAs (exec (.restOrder h) s) (u.onPat fun p =>
          { p with state := .resting, revs := none, stopTimer := some (g.stopTimeout * 125000),
                   slot := if p.slot = some .cut then p.slot else some (.stopAt (stopTarget g p .rest).1),
                   removed := (stopTarget g p .rest).2,
                   stop := some { target := some (stopTarget g p .rest).1, searched := some .rest,
                                  halted := false } })))

/-- A panel Drop or Raise for a shutter's own station while ARMED (R90 to R92). A Drop for a DEPARTMENT shutter, or
for a SHAFT shutter whose landing is judged CLEAR, passes: in UNKNOWN, and in FAULTED with the station MISSING, the
record is kept; in every other state the shutter is in DESCENDING with the travel timer started, attempts 0 and reason
MANUAL unless it is FIRE. A Raise passes in OPEN and RAISING with the record kept, and in CLOSED, OBSTRUCTED or
FAULTED with no FIRE zone in alarm it puts the shutter into RAISING with no order placed. A Drop or Raise to a station
that no shutter names is forwarded alone (R89). -/
def Obligations.DropAndRaiseOrders : Prop :=
  (∀ (h : Hdr) (s : State), s.takesOrder h → s.knows h → s.armed = true → h.dst ≠ 255 →
    s.line.orders.length < 16 → shutterAt s h.dst.toNat = none →
    EndsAs (exec (.dropOrder h) s) ((panelHeard h.src s).forwarding ⟨h, .drop⟩) ∧
    EndsAs (exec (.raiseOrder h) s) ((panelHeard h.src s).forwarding ⟨h, .raise⟩)) ∧
  ∀ (h : Hdr) (i : Nat) (e : Shutter) (s : State), s.takesOrder h → s.knows h → s.armed = true →
    h.dst ≠ 255 → s.line.orders.length < 16 → shutterAt s h.dst.toNat = some i → tget s.shut i = some e →
    (s.shut.map Prod.fst).Nodup →
    let u := panelHeard h.src s
    let gone := e.state = .unknown ∨ (e.state = .faulted ∧ s.missing e.station = true)
    (e.kind = .department ∨ s.pat.judgeShutter e = .clear →
      (gone → EndsAs (exec (.dropOrder h) s) (u.forwarding ⟨h, .drop⟩)) ∧
      (¬gone → EndsAs (exec (.dropOrder h) s) (onShutter (u.forwarding ⟨h, .drop⟩) i fun e =>
        { e with state := .descending, timer := some (e.travelLimit * 125000), obstruction := none,
                 fault := none, prior := none, attempts := 0,
                 reason := if e.reason = .fire then .fire else .manual }))) ∧
    (e.state = .open ∨ e.state = .raising ∨ (e.state = .unknown ∧ e.inZone s.zoneAlarm = false) ∨
        (e.state = .faulted ∧ s.missing e.station = true) →
      EndsAs (exec (.raiseOrder h) s) (u.forwarding ⟨h, .raise⟩)) ∧
    (e.state = .closed ∨ e.state = .obstructed ∨ (e.state = .faulted ∧ s.missing e.station = false) →
      e.reason ≠ .fire ∨ e.inZone s.zoneAlarm = false →
      EndsAs (exec (.raiseOrder h) s) (onShutter (u.forwarding ⟨h, .raise⟩) i fun x =>
        { x with state := .raising, prior := some e.priorNow, timer := some (e.travelLimit * 125000),
                 obstruction := none, fault := none }))

/-- A panel Ring while ARMED passes, and is noted on the ringer of the station named, or on every ringer in turn for
255 (R118): the ringer is RINGING a panel ring with the order's strokes, spacing and number, its timer runs for
strokes × spacing + 5 s, an unsent Ring order leaves its slot, the request it was ringing rejoins the queue, and that
is a dispatch occasion. Of two ringers that name one station the lower takes it (log 48). A Ring to a station that no
ringer names is forwarded alone. A panel Phrase or Gate while ARMED, with no fire phrase being issued, passes, and is
noted on the amplifier of the station named, or on every amplifier in turn for 255 (R155): PLAYING the phrase with
origin PANEL and a phrase timer of 60 s, or GATED to the tone output with origin PANEL, or IDLE for a Gate off, which
is an occasion of the step check, made after each amplifier in turn for 255 (log 39); each with the slot emptied and
no gap timer, and out of the gated set of the generator it was gated to, while a Gate on joins no set (log 50). What a
step of the closing waits on changes at a step check alone, and so not at a Phrase or a Gate on (log 49). A Gate value
the manual does not list is noted as one of the three, which one being a free value (log 14). -/
def Obligations.RingPhraseAndGateOrdersNoted : Prop :=
  (∀ (h : Hdr) (strokes spacing number : Byte) (s : State),
    s.takesOrder h → s.knows h → s.armed = true → s.line.orders.length < 16 →
    let f := (panelHeard h.src s).forwarding ⟨h, .ring strokes spacing number⟩
    let note := notePanelRing strokes.toNat spacing.toNat number.toNat
    let ends := EndsAs (exec (.ringOrder h strokes spacing number) s)
    (∀ v i g, tget v.call.ringers i = some g →
      note v i = dispatch (rejoin g.ring (onRinger v i fun g =>
        { g with ring := some (.panel strokes.toNat spacing.toNat), number := some number.toNat,
                 timer := some (strokes.toNat * spacing.toNat * 12500 + 5 * 125000),
                 slot := match g.slot with
                   | some (.ring _ _ _) => none
                   | x => x }))) ∧
    (h.dst ≠ 255 →
      (ringerAt s h.dst.toNat = none → ends f) ∧ ∀ i, ringerAt s h.dst.toNat = some i → ends (note f i)) ∧
    (h.dst = 255 → ends ((s.call.ringers.map Prod.fst).foldl note f))) ∧
  (∀ (h : Hdr) (s : State), s.takesOrder h → s.knows h → s.armed = true → s.line.orders.length < 16 →
    (s.anyFull = false ∨ s.fire.silence = true) →
    let u := panelHeard h.src s
    let floors := if h.dst = 255 then s.ann.amps.map Prod.fst else (ampAt s h.dst.toNat).toList
    (∀ phrase number : Byte,
      EndsAs (exec (.phraseOrder h phrase number) s)
        (floors.foldl (notePanelPhrase phrase.toNat number.toNat) (u.forwarding ⟨h, .phrase phrase number⟩))) ∧
    (∀ value : Byte, value.toNat ≤ 2 →
      EndsAs (exec (.gateOrder h value) s)
        (floors.foldl (notePanelGate value.toNat) (u.forwarding ⟨h, .gate value⟩))) ∧
    (∀ value : Byte, 2 < value.toNat → ∃ w, w ≤ 2 ∧
      EndsAs (exec (.gateOrder h value) s)
        (floors.foldl (notePanelGate w) ((u.forwarding ⟨h, .gate value⟩).onMgmt fun m =>
          { m with draws := m.draws + 1 }))) ∧
    ∀ v f a, tget v.ann.amps f = some a →
      (∀ p n, notePanelPhrase p n v f = leaveGate f a (onAmp v f fun a =>
        { a with state := .playing, origin := some .panel, phrase := some p, number := some n,
                 phraseTimer := some (60 * 125000), gen := none, gapTimer := none, slot := none })) ∧
      (∀ g, notePanelGate (g + 1) v f = leaveGate f a (onAmp v f fun a =>
        { a with state := .gated, origin := some .panel, phrase := none, number := none,
                 phraseTimer := none, gen := some g, slot := none, gapTimer := none })) ∧
      notePanelGate 0 v f = stepCheck (leaveGate f a (onAmp v f fun a =>
        { a with state := .idle, origin := none, phrase := none, number := none, phraseTimer := none,
                 gen := none, gapTimer := none, slot := none })))

/-- The vetoes of panel orders at arrival, each with its reason, while Port B is occupied: UNKNOWN_STATION for a
destination the station table does not hold while ARMED, whatever the kind (R173); FORBIDDEN_KIND for a Poll in both
modes, and for a Stop-At or Cut, and a Drop or Raise to 255, while ARMED (R12, R89, R173); the first failing check of
R11 for a Run; CHAIN_NOT_IDLE for a Rest outside RUNNING and RUNOUT (R13); CHAIN_MOVING or LANDING_BLOCKED for a Drop
to a SHAFT shutter (R91); SHUTTER_NOT_OPEN or ZONE_IN_ALARM for a Raise (R92); EVACUATION for a Phrase or Gate while a
fire phrase may be issued (R155). The veto stands in the veto slot or its notice is being sent, and nothing else
changes but the panel heard. -/
def Obligations.VetoedOrders : Prop :=
  ∀ (c : Instr) (o : Order) (s : State), orderParts c = some o → s.takesOrder o.head →
    s.line.portB ≠ .free →
    let vetoed := fun r => ∃ t, exec c s = .next t ∧ t.records = (panelHeard o.head.src s).records ∧
      t.vetoed { dst := o.head.dst, kind := byteOf (64 + o.body.code), reason := r, stage := .arrival }
    let drivePresent := ∃ a e, s.driveStation = some a ∧ tget s.reg.stations a = some e ∧ e.presence = .present
    let shaftsOpen := ∀ e ∈ s.shut, e.2.kind = .shaft → e.2.state = .open
    (s.armed = true → o.head.dst ≠ 255 → tget s.reg.stations o.head.dst.toNat = none →
      vetoed .unknownStation) ∧
    (s.knows o.head →
      (o.body = .poll → vetoed .forbiddenKind) ∧
      (o.body = .run → s.armed = false → vetoed .notArmed) ∧
      (o.body = .drop → s.armed = false → o.head.dst = 255 → s.anyShaft = true → vetoed .notArmed) ∧
      (s.armed = true →
        (∀ x, o.body = .stopAt x → vetoed .forbiddenKind) ∧
        (o.body = .cut → vetoed .forbiddenKind) ∧
        (o.body = .run →
          (s.pat.state ≠ .idle → vetoed .chainNotIdle) ∧
          (s.pat.state = .idle → s.anyFull = true → vetoed .fire) ∧
          (s.pat.state = .idle → s.anyFull = false → ¬shaftsOpen → vetoed .shutterNotOpen) ∧
          (s.pat.state = .idle → s.anyFull = false → shaftsOpen → ¬drivePresent → vetoed .chainNotIdle)) ∧
        (o.body = .rest → s.pat.state ≠ .running → s.pat.state ≠ .runout → vetoed .chainNotIdle) ∧
        (o.body = .drop ∨ o.body = .raise → o.head.dst = 255 → vetoed .forbiddenKind) ∧
        (∀ a b, o.body = .phrase a b → s.anyFull = true → s.fire.silence = false → vetoed .evacuation) ∧
        (∀ a, o.body = .gate a → s.anyFull = true → s.fire.silence = false → vetoed .evacuation))) ∧
    (s.knows o.head → ∀ i e, o.head.dst ≠ 255 → shutterAt s o.head.dst.toNat = some i →
      tget s.shut i = some e →
      (o.body = .drop → e.kind = .shaft →
        (s.armed = false → vetoed .notArmed) ∧
        (s.armed = true → s.pat.judgeShutter e = .notStopped → vetoed .chainMoving) ∧
        (s.armed = true → s.pat.judgeShutter e = .blocked → vetoed .landingBlocked)) ∧
      (o.body = .raise → s.armed = true →
        (e.state = .awaitClear ∨ e.state = .warning ∨ e.state = .descending → vetoed .shutterNotOpen) ∧
        (e.inZone s.zoneAlarm = true →
          (e.state = .unknown → vetoed .zoneInAlarm) ∧
          (e.reason = .fire →
            e.state = .closed ∨ e.state = .obstructed ∨ (e.state = .faulted ∧ s.missing e.station = false) →
            vetoed .zoneInAlarm))))

/-! ## What the Monitor's and the Shutter Unit's records do -/

/-- Entering LOCKED adds the cause, adds FIRE when the state left is STOPPING or the fire stop set is not empty, stops
both timers and drops revolutions, remembered state, start record and stop; in LOCKED only the cause is added (R6). An
order placed replaces an unsent one in the drive order slot, except that only a Cut replaces an unsent Cut (R7). A
shutter is judged by its landing, and a landing judgment is NOT_STOPPED unless the latest report shows STOPPED in
IDLE, HELD or LOCKED, and otherwise CLEAR or BLOCKED as both sides are clear or not (R19). A landing judgment handed
over acts on every SHAFT shutter of the landing that waits: CLEAR puts it into WARNING with a Warn and its warn timer,
or into DESCENDING with a Drop when its warn time is 0; BLOCKED puts one in AWAIT_CLEAR into OBSTRUCTED by a car;
every other shutter is left as it is (R20, R77, R80). Beginning a stop over a searched set enters the state given,
drops the revolutions, starts the stop timer and places a Stop-At to the set's target, or a Halt when the rest set is
empty (R9, R13, R18). A landing newly added to the fire stop set (R17) begins or renews the stop over the fire stop
set in RUNNING, RUNOUT, RESTING and STOPPING, but makes a halted stop only STOPPING; with the latest report STOPPED in
IDLE, HELD and LOCKED it locks with FIRE, after which every landing of the fire stop set is judged; in LOCKED with the
chain not stopped it adds the cause FIRE; in UNKNOWN it does nothing more. That in IDLE with the latest report MOVING
it does nothing more is the model's choice (log 33). -/
def Obligations.LockPlaceAndLandingJudgment : Prop :=
  (∀ (p : Paternoster) (c : LockCause) (o : DriveOrder) (f : Nat),
    (p.state = .locked → p.lock (some c) = { p with causes := p.causes ||| BitVec.twoPow 8 c.index }) ∧
    (p.state ≠ .locked → p.lock (some c) =
      { p with
        state := .locked, stopTimer := none, resumeTimer := none, revs := none, remembered := none,
        start := none, stop := none,
        causes := if p.state = .stopping ∨ p.fireStop ≠ 0
          then p.causes ||| BitVec.twoPow 8 c.index ||| BitVec.twoPow 8 0
          else p.causes ||| BitVec.twoPow 8 c.index }) ∧
    p.place o = (if p.slot = some .cut ∧ o ≠ .cut then p else { p with slot := some o }) ∧
    p.addCause c = { p with causes := p.causes ||| BitVec.twoPow 8 c.index } ∧
    (∀ x : Shutter, (x.landing = some f → p.judgeShutter x = p.judge f) ∧
      (x.landing = none → p.judgeShutter x = .notStopped)) ∧
    (p.chain.motion ≠ .stopped → p.judge f = .notStopped) ∧
    (p.state ≠ .idle → p.state ≠ .held → p.state ≠ .locked → p.judge f = .notStopped) ∧
    (∀ g l q, p.chain.motion = .stopped → p.state = .idle ∨ p.state = .held ∨ p.state = .locked →
      p.geometry = some g → tget p.landings f = some l → p.chain.position = some q →
      p.judge f = if sideBlocked g l.up q = false ∧ sideBlocked g l.down q = false then .clear else .blocked)) ∧
  (∀ (p : Paternoster) (f i : Nat) (e : Shutter) (t : Table Shutter), tget t i = some e →
    let r := tget (handLanding p f t) i
    let waits := e.kind = .shaft ∧ e.landing = some f ∧
      (e.state = .awaitClear ∨ (e.state = .obstructed ∧ e.obstruction = some .car))
    let base := { e with obstruction := none, fault := none, prior := none }
    (¬waits → r = some e) ∧
    (waits →
      (p.judge f = .clear → 1 ≤ e.warnTime → r = some
        { base with state := .warning, timer := some (e.warnTime * 125000), slot := some .warn }) ∧
      (p.judge f = .clear → e.warnTime = 0 → r = some
        { base with state := .descending, timer := some (e.travelLimit * 125000), slot := some .drop }) ∧
      (p.judge f = .blocked → e.state = .awaitClear → r = some
        { base with state := .obstructed, obstruction := some .car, timer := none }) ∧
      (p.judge f = .blocked → e.state = .obstructed → r = some e) ∧
      (p.judge f = .notStopped → r = some e))) ∧
  (∀ (p : Paternoster) (g : Geometry) (k : SearchSet) (st : PatState), p.geometry = some g →
    let begun := { p with state := st, revs := none, stopTimer := some (g.stopTimeout * 125000) }
    let slot := fun o => if p.slot = some .cut then p.slot else some o
    let empty := k = .rest ∧ ∀ e ∈ p.landings, e.2.restClear = false
    (empty → p.beginStop k st =
      { begun with slot := slot .halt, stop := some { target := none, searched := none, halted := false } }) ∧
    (¬empty → p.beginStop k st =
      { begun with
        slot := slot (.stopAt (stopTarget g p k).1), removed := (stopTarget g p k).2,
        stop := some { target := some (stopTarget g p k).1, searched := some k, halted := false } })) ∧
  ∀ (f : Nat) (s : State),
    let added := s.onPat fun p => { p with fireStop := p.fireStop ||| BitVec.twoPow 8 f, mark := true }
    let stopped := s.pat.chain.motion = .stopped
    let halted := ∃ r, s.pat.stop = some r ∧ r.halted = true
    let renewed := added.onPat fun p => p.beginStop .fire .stopping
    let locked := added.onPat fun p => p.lock (some .fire)
    (∀ floors w, judgeLandings floors w =
      floors.foldl (fun x y => { x with shut := handLanding x.pat y x.shut }) w) ∧
    (s.pat.fireStop.getLsbD f = true → addLanding f s = s) ∧
    (s.pat.fireStop.getLsbD f = false →
      (s.pat.state = .unknown → addLanding f s = added) ∧
      (s.pat.state = .running ∨ s.pat.state = .runout → addLanding f s = renewed) ∧
      (s.pat.state = .resting ∨ s.pat.state = .stopping →
        (¬halted → addLanding f s = renewed) ∧
        (halted → addLanding f s = added.onPat fun p => { p with state := .stopping })) ∧
      (s.pat.state = .idle ∨ s.pat.state = .held ∨ s.pat.state = .locked → stopped → addLanding f s =
        judgeLandings ((List.range 8).filter fun y => y == f && decide (f < 8) || s.pat.fireStop.getLsbD y) locked) ∧
      (s.pat.state = .locked → ¬stopped → addLanding f s =
        added.onPat fun p => { p with causes := p.causes ||| BitVec.twoPow 8 0 }) ∧
      (s.pat.state = .idle ∨ s.pat.state = .held → ¬stopped → addLanding f s = added))

/-- A zone's entry to FULL_ALARM (R53): the zone is in FULL_ALARM with its timer stopped, its acknowledged flag false
and its confirmer set kept, and the silence flag is clear. The fire level is 7 (R103), both tone generators are IDLE
(R151), a running closing is ABORTED (R145), a RUNNING, RUNOUT or RESTING paternoster is STOPPING, and a HELD one
LOCKED (R17, R18). A DEPARTMENT shutter of the zone in OPEN is in WARNING with reason FIRE and a Warn in its slot, and
no shutter of the zone but one in UNKNOWN keeps another reason than FIRE (R76). The units react in the order of log 7:
the shutters of the zone in rising order (log 55), one that its other zone has released already being left alone (log
8); the Monitor; the fire level and the fire rings; a RUNNING closing's abandonment; and the fire phrases (the rings
and phrases are said in SilenceAndResoundAnswer, a landing's addition to the fire stop set in
LockPlaceAndLandingJudgment). A release for FIRE acts by state and kind as R76's table says: nothing in UNKNOWN and in
AWAIT_CLEAR for FIRE; reason FIRE alone in WARNING, DESCENDING, CLOSED, FAULTED and for a jammed SHAFT shutter; for a
DEPARTMENT shutter WARNING from OPEN (DESCENDING with a Drop when its warn time is 0), DESCENDING with a Drop from
RAISING, and a retry timer of 10 s, should none run, in OBSTRUCTED; for a SHAFT shutter AWAIT_CLEAR from OPEN, RAISING
(an unsent Raise withdrawn) and OBSTRUCTED by a car, and in AWAIT_CLEAR for another reason the reason, each with its
landing handed to the Monitor. -/
def Obligations.FullAlarmEntry : Prop :=
  (∀ (z : Nat) (e : Zone) (s : State), tget s.fire.zones z = some e → s.fire.zones.Pairwise (·.1 < ·.1) →
    s.shut.Pairwise (·.1 < ·.1) →
    let v := enterFullAlarm z s
    (∃ f, tget v.fire.zones z = some f ∧
      { f with mark := e.mark } = { e with state := .fullAlarm, timer := none, acked := false }) ∧
    (∀ y d, y ≠ z → tget s.fire.zones y = some d → ∃ f, tget v.fire.zones y = some f ∧
      { f with mark := d.mark } = d) ∧
    v.fire.silence = false ∧ v.fire.detectors = s.fire.detectors ∧ v.fire.callPoints = s.fire.callPoints ∧
    v.line = s.line ∧ v.reg = s.reg ∧ v.mgmt = s.mgmt ∧ v.board = s.board ∧
    v.call.fireLevel = 7 ∧ v.call.calls.map (fun c => c.push) = s.call.calls.map (fun c => c.push) ∧
    v.ann.gen0 = none ∧ v.ann.gen1 = none ∧
    (s.ann.closing = .running → v.ann.closing = .aborted ∧ v.call.closingLevel = 0) ∧
    (s.ann.closing ≠ .running → v.ann.closing = s.ann.closing) ∧
    (s.pat.geometry.isSome = true → s.pat.state = .running ∨ s.pat.state = .runout ∨ s.pat.state = .resting →
      v.pat.state = .stopping) ∧
    (s.pat.state = .held → v.pat.state = .locked) ∧
    (∀ i sh, tget s.shut i = some sh → (sh.zoneA = z ∨ sh.zoneB = some z) →
      ∃ x, tget v.shut i = some x ∧
        (sh.state = .unknown → x = sh) ∧
        (sh.state ≠ .unknown → (sh.kind = .shaft ∨ sh.state ≠ .awaitClear) → x.reason = .fire) ∧
        (sh.state = .open → sh.kind = .department → 1 ≤ sh.warnTime →
          (∀ y, (sh.zoneA = y ∨ sh.zoneB = some y) → y ≠ z → s.zoneFull y = false) →
          x = { sh with reason := .fire, state := .warning, obstruction := none, fault := none,
                        prior := none, timer := some (sh.warnTime * 125000), slot := some .warn })) ∧
    (∀ i sh, tget s.shut i = some sh → sh.kind = .department → sh.zoneA ≠ z → sh.zoneB ≠ some z →
      tget v.shut i = some sh) ∧
    (let w := markFullZones ((onZone s z fun e => { e with state := .fullAlarm, timer := none, acked := false }).onFire
       fun u => { u with silence := false })
     let rung := fireRings ((monitorFullAlarm (releaseZone z w)).onCall fun k => { k with fireLevel := 7 })
     v = fireOverride (if rung.ann.closing = .running then abandonClosing rung else rung))) ∧
  (∀ (z : Nat) (s : State),
    (s.pat.state = .running ∨ s.pat.state = .runout →
      monitorFullAlarm s = s.onPat fun p => p.beginStop .rest .stopping) ∧
    (s.pat.state = .resting → monitorFullAlarm s = s.onPat fun p => { p with state := .stopping }) ∧
    (s.pat.state = .held → monitorFullAlarm s = s.onPat fun p => p.lock (some .fire)) ∧
    (s.pat.state = .idle ∨ s.pat.state = .stopping ∨ s.pat.state = .locked ∨ s.pat.state = .unknown →
      monitorFullAlarm s = s) ∧
    releaseZone z s =
      ((s.shut.filter fun e => e.2.zoneA == z || e.2.zoneB == some z).map Prod.fst).foldl
        (fun w i => match tget w.shut i with
          | none => w
          | some x =>
            let other := fun y => y != z && (tget w.fire.zones y).any fun e => e.state == .fullAlarm
            if x.reason = .fire ∧ (other x.zoneA = true ∨ x.zoneB.any other = true) then w else release i w) s) ∧
  ∀ (i : Nat) (x : Shutter) (s : State), tget s.shut i = some x → (s.shut.map Prod.fst).Nodup →
    let set := fun f => onShutter s i f
    let fired := set fun x => { x with reason := .fire }
    let drop := fun (x : Shutter) =>
      { x with reason := .fire, state := .descending, obstruction := none, fault := none, prior := none,
               timer := some (x.travelLimit * 125000), slot := some .drop }
    let awaiting := fun (x : Shutter) =>
      { x with reason := .fire, state := .awaitClear, timer := none, obstruction := none, fault := none, prior := none,
               mark := true }
    (x.state = .unknown → release i s = s) ∧
    (x.state = .warning ∨ x.state = .descending ∨ x.state = .closed ∨ x.state = .faulted → release i s = fired) ∧
    (x.kind = .department →
      (x.state = .open → 1 ≤ x.warnTime → release i s = set fun x =>
        { x with reason := .fire, state := .warning, obstruction := none, fault := none, prior := none,
                 timer := some (x.warnTime * 125000), slot := some .warn }) ∧
      (x.state = .open → x.warnTime = 0 → release i s = set drop) ∧
      (x.state = .raising → release i s = set drop) ∧
      (x.state = .obstructed → release i s = set fun x =>
        { x with reason := .fire, timer := if x.timer = none then some (10 * 125000) else x.timer })) ∧
    ∀ f, x.kind = .shaft → x.landing = some f →
      (x.state = .open → release i s = addLanding f (set awaiting)) ∧
      (x.state = .awaitClear → x.reason = .fire → release i s = s) ∧
      (x.state = .awaitClear → x.reason ≠ .fire → release i s = addLanding f fired) ∧
      (x.state = .raising → release i s = addLanding f (set fun x =>
        { awaiting x with slot := if x.slot = some .raise then none else x.slot })) ∧
      (x.state = .obstructed → x.obstruction = some .car → release i s = addLanding f (set awaiting)) ∧
      (x.state = .obstructed → x.obstruction ≠ some .car → release i s = fired)

/-! ## Polls and reports -/

/-- A poll answered makes the miss count 0 and the station PRESENT (R166). The return of an UNSEEN or MISSING station
while ARMED is told to the owner of the role: a shutter is UNKNOWN with fault, obstruction, prior state, timer and
last position cleared (R93); a landing's sides settle afresh at a return from MISSING (R4), and that they do not at a
first answer is read from R28 (log 9); a ringer's return is a dispatch occasion (R119); a detector's or call point's
fault flag is cleared, its zone's fault flag is then true exactly when a detector or call point of the zone has its
fault flag set, and the zone is marked, as its mark shows while Port A is sending (R65, R66); while the override is
issuing an IDLE amplifier is given its fire phrase, and a PLAYING or GATED one is owed it until it is IDLE (R148, log
10); while it is not, an amplifier's return changes nothing more, what a step waits on included (log 49), and neither
does a drive's, push's or desk's (R25, R119). A Presence report does this alone. -/
def Obligations.AnsweredPolls : Prop :=
  (∀ (h : Hdr) (e : Station) (s : State), s.answers h e → EndsAs (exec (.presenceReport h) s) (s.answeredBy h)) ∧
  ∀ (a : Nat) (e : Station) (s : State), tget s.reg.stations a = some e →
    let v := onStation s a fun e => { e with miss := 0, presence := .present }
    (e.presence = .present ∨ s.armed = false ∨ (e.presence = .unseen ∧ e.role = .landing) → pollAnswered a s = v) ∧
    (e.presence ≠ .present → s.armed = true →
      (e.role = .drive ∨ e.role = .push ∨ e.role = .desk → pollAnswered a s = v) ∧
      (∀ i, e.role = .shutter → shutterAt s a = some i → pollAnswered a s = onShutter v i fun x =>
        { x with state := .unknown, fault := none, obstruction := none, prior := none, timer := none,
                 last := none }) ∧
      (∀ f, e.role = .landing → e.presence = .missing → landingAt s a = some f → pollAnswered a s = v.onPat fun p =>
        { p with landings := tmod p.landings f fun l =>
          { l with upBeam := { l.upBeam with settling := true, travel := 0, miss := 0 }
                   downBeam := { l.downBeam with settling := true, travel := 0, miss := 0 } } }) ∧
      (∀ i, e.role = .ringer → ringerAt s a = some i → pollAnswered a s = dispatch v) ∧
      (∀ i d, e.role = .detector → detectorAt s a = some i → tget s.fire.detectors i = some d →
        pollAnswered a s = refreshZoneFault d.zone (onDetector v i fun d => { d with fault := false })) ∧
      (∀ i c, e.role = .callPoint → callPointAt s a = some i → tget s.fire.callPoints i = some c →
        pollAnswered a s = refreshZoneFault c.zone (onCallPoint v i fun c => { c with fault := false })) ∧
      (∀ f x, e.role = .amplifier → ampAt s a = some f → tget s.ann.amps f = some x →
        (s.issuing = false → pollAnswered a s = v) ∧
        (s.issuing = true → x.state = .idle → pollAnswered a s = giveFirePhrase f v) ∧
        (s.issuing = true → x.state ≠ .idle → pollAnswered a s = onAmp v f fun b => { b with owed := true }))) ∧
    -- the zone
    (∀ (h : Hdr) (z : Nat), s.answers h e → h.src.toNat = a → e.presence ≠ .present → s.armed = true →
      s.line.portA.isSome = true → (tget s.fire.zones z).isSome = true →
      ((e.role = .detector ∧ ∃ i d, detectorAt s a = some i ∧ tget s.fire.detectors i = some d ∧ d.zone = z ∧
          d.fault = true) ∨
        (e.role = .callPoint ∧ ∃ i c, callPointAt s a = some i ∧ tget s.fire.callPoints i = some c ∧ c.zone = z ∧
          c.fault = true)) →
      ∃ t f, exec (.presenceReport h) s = .next t ∧ tget t.fire.zones z = some f ∧ f.mark = true) ∧
    ∀ (z : Nat) (w : State),
      let entryFault := (∃ d ∈ w.fire.detectors, d.2.zone = z ∧ d.2.fault = true) ∨
        ∃ c ∈ w.fire.callPoints, c.2.zone = z ∧ c.2.fault = true
      ∀ flag : Bool, (flag = true ↔ entryFault) →
        refreshZoneFault z w = onZone w z fun x => { x with fault := flag }

/-- A missed poll adds 1 to the miss count up to the limit, and at the limit makes the station MISSING (R165). While
ARMED the loss is told to the owner of the role: a drive's loss empties the drive order slot, sets the motion to NONE
and locks with DRIVE_MISSING, or adds that cause in UNKNOWN (R25); a shutter not in UNKNOWN is FAULTED with
STATION_MISSING (R93); a detector's fault flag is set and its run count 0, a call point's fault flag set, and the
fault flag of its zone is then set and the zone marked, as its mark shows while Port A is sending (R65, R66); an
amplifier's slot is emptied and its gap timer stopped, and a GATED one is IDLE (R148; log 11); and landings, pushes,
desks and ringers keep their records (R4, R119). The poll is missed at the expiry of the answer window, at a garbled
frame, at an unusable frame and at a malformed report of the polled station (R163, R176); with no poll outstanding
none of the first three does anything (R164; for the expiry, log 3). A report is malformed when a field lies outside
its list or range (R194), and a Chain report of the drive station while ARMED also when its position is at or above L
(R3; the byte 1 of a Call Point value is log 34). An expiry commanded while a poll is outstanding acts whatever is
left of the window (log 2). -/
def Obligations.MissedPolls : Prop :=
  (∀ (s : State) (a w : Nat), s.line.portB = .awaiting a w →
    EndsAs (exec .answerWindowExpiry s) (pollMissed a (freePortB s)) ∧
    EndsAs (exec .garbledFrame s) (pollMissed a (freePortB s)) ∧
    EndsAs (exec .unusableFrame s) (pollMissed a (freePortB s))) ∧
  (∀ s : State, (∀ a w, s.line.portB ≠ .awaiting a w) →
    EndsAs (exec .answerWindowExpiry s) s ∧ EndsAs (exec .garbledFrame s) s ∧
    EndsAs (exec .unusableFrame s) s) ∧
  (∀ (h : Hdr) (e : Station) (r : Report) (s : State), s.answers h e →
    malformed h.src.toNat r (freePortB s) = true →
    EndsAs (exec (reportCommand h r) s) (pollMissed h.src.toNat (freePortB s))) ∧
  (∀ (a : Nat) (r : Report) (s : State),
    let outside := match r with
      | .callPoint v => 1 < v.toNat
      | .chain p m c => 1 < m.toNat ∨ 1 < c.toNat ∨ (s.armed = true ∧ s.driveStation = some a ∧
          ∃ g, s.pat.geometry = some g ∧ g.cars * g.pitch ≤ p.toNat)
      | .landing _ _ g t => 1 < g.toNat ∨ 1 < t.toNat
      | .shutterPosition v => 5 < v.toNat
      | .push k => 7 < k.toNat
      | .answer c => 64 < c.toNat
      | .presence | .detectorLevel _ | .ringDone _ | .phraseDone _ => False
    malformed a r s = true ↔ outside) ∧
  ∀ (a : Nat) (e : Station) (s : State), tget s.reg.stations a = some e →
    let n := min (e.miss + 1) e.missLimit
    (n ≠ e.missLimit ∨ e.presence = .missing → pollMissed a s = onStation s a fun x => { x with miss := n }) ∧
    (n = e.missLimit → e.presence ≠ .missing →
      let v := onStation s a fun x => { x with miss := n, presence := .missing }
      (s.armed = false ∨ e.role = .landing ∨ e.role = .push ∨ e.role = .desk ∨ e.role = .ringer →
        pollMissed a s = v) ∧
      (s.armed = true →
        (e.role = .drive → pollMissed a s = v.onPat fun p =>
          let q := { p with slot := none, chain := { p.chain with motion := .none }, mark := true }
          if p.state = .unknown then { q with causes := p.causes ||| BitVec.twoPow 8 LockCause.driveMissing.index }
          else q.lock (some .driveMissing)) ∧
        (∀ i, e.role = .shutter → shutterAt s a = some i → pollMissed a s = onShutter v i fun x =>
          if x.state = .unknown then x
          else { x with state := .faulted, timer := none, slot := none, prior := none, obstruction := none,
                        fault := some .stationMissing }) ∧
        (∀ i d, e.role = .detector → detectorAt s a = some i → tget s.fire.detectors i = some d →
          pollMissed a s =
            refreshZoneFault d.zone (onDetector v i fun d => { d with fault := true, run := 0 })) ∧
        (∀ i c, e.role = .callPoint → callPointAt s a = some i → tget s.fire.callPoints i = some c →
          pollMissed a s = refreshZoneFault c.zone (onCallPoint v i fun c => { c with fault := true })) ∧
        (∀ f x, e.role = .amplifier → ampAt s a = some f → tget s.ann.amps f = some x →
          (x.state ≠ .gated → (s.ann.amps.map Prod.fst).Nodup → pollMissed a s =
            stepCheck (onAmp v f fun b => { b with slot := none, gapTimer := none, owed := false })) ∧
          (x.state = .gated → (s.ann.amps.map Prod.fst).Nodup → pollMissed a s =
            stepCheck (leaveGate f x (onAmp v f fun b =>
              { b with state := .idle, origin := none, phrase := none, number := none, phraseTimer := none,
                       gen := none, slot := none, gapTimer := none, owed := false })))) ∧
        -- the zone
        ∀ (z w : Nat), s.line.portB = .awaiting a w → (tget s.fire.zones z).isSome = true →
          ((e.role = .detector ∧ ∃ i d, detectorAt s a = some i ∧ tget s.fire.detectors i = some d ∧ d.zone = z ∧
              d.fault = false) ∨
            (e.role = .callPoint ∧ ∃ i c, callPointAt s a = some i ∧ tget s.fire.callPoints i = some c ∧
              c.zone = z ∧ c.fault = false)) →
          ∃ t f, exec .answerWindowExpiry s = .next t ∧ tget t.fire.zones z = some f ∧ f.fault = true ∧
            (s.line.portA.isSome = true → f.mark = true)))

/-- Frames on Port B that are no answer, and what joins the forwarded-report FIFO (R163, R164, R176, R177). A frame
from another known station is a missed poll for the polled one; a report from a PRESENT station is then tapped and
forwarded, and any other such frame is dropped. A stranger's frame is a missed poll, its address is kept, and its
report is forwarded in CONFIGURING alone; that a malformed report of a stranger leaves no address is the model's
choice (log 30). A frame while no poll is outstanding is dropped and changes nothing (R164); the same of that event
commanded while a poll is outstanding is the model's choice (log 3). In CONFIGURING a well-formed report of the polled
station is not tapped. In both modes every one but a Presence report, tapped or not, joins the FIFO unchanged, or is
dropped with the report-overflow flag set when the FIFO holds 24 (R176, R182); so does a report of a PRESENT station
that was not polled, and in CONFIGURING a stranger's; every other frame leaves the FIFO as it was. While Port A is
sending, the FIFO's contents show it. -/
def Obligations.UntappedFramesOnPortB : Prop :=
  let joined := fun (h : Hdr) (x : Report) (l : List Frame) =>
    if x ≠ .presence ∧ l.length < 24
      then l ++ [{ dst := h.dst, src := h.src, kind := byteOf (32 + reportCode x), tag := h.tag,
                   payload := reportPayload x }]
      else l
  let shows := fun (c : Instr) (s : State) (l : List Frame) =>
    s.line.portA.isSome = true → ∃ t, exec c s = .next t ∧ t.line.reports = l
  (∀ (h : Hdr) (r : Option Report) (s : State), h.wf = true →
    (EndsAs (exec .frameWithoutOutstandingPoll s) s) ∧
    ((∀ a w, s.line.portB ≠ .awaiting a w) →
      EndsAs (exec (.frameFromAnotherKnownStation h r) s) s ∧ EndsAs (exec (.strangerFrame h r) s) s ∧
      ∀ x, EndsAs (exec (reportCommand h x) s) s) ∧
    ∀ a w, s.line.portB = .awaiting a w →
      let missed := pollMissed a (freePortB s)
      let reports := s.line.reports
      (∀ e, h.src.toNat ≠ a → tget s.reg.stations h.src.toNat = some e →
        let c := Instr.frameFromAnotherKnownStation h r
        (e.presence ≠ .present ∨ r = none → EndsAs (exec c s) missed ∧ shows c s reports) ∧
        (∀ x, r = some x → malformed h.src.toNat x (freePortB s) = true →
          EndsAs (exec c s) missed ∧ shows c s reports) ∧
        (∀ x, r = some x → malformed h.src.toNat x (freePortB s) = false → e.presence = .present →
          EndsAs (exec c s) (forwardReport h x (tap h.src.toNat x missed)) ∧ shows c s (joined h x reports))) ∧
      (tget s.reg.stations h.src.toNat = none →
        let noted := missed.onLine fun l => { l with stranger := some h.src.toNat }
        let c := Instr.strangerFrame h r
        (r = none ∨ s.armed = true → (∀ x, r = some x → reportListed x = true) →
          EndsAs (exec c s) noted ∧ shows c s reports) ∧
        (∀ x, r = some x → reportListed x = true → s.armed = false →
          EndsAs (exec c s) (forwardReport h x noted) ∧ shows c s (joined h x reports)) ∧
        (∀ x, r = some x → reportListed x = false → EndsAs (exec c s) missed ∧ shows c s reports))) ∧
  ∀ (h : Hdr) (e : Station) (r : Report) (s : State), s.answers h e →
    let c := reportCommand h r
    (s.armed = false → reportListed r = true → EndsAs (exec c s) (forwardReport h r (s.answeredBy h))) ∧
    (malformed h.src.toNat r (freePortB s) = false → shows c s (joined h r s.line.reports)) ∧
    (malformed h.src.toNat r (freePortB s) = true → shows c s s.line.reports) ∧
    ∀ v : State, forwardReport h r v =
      if r = .presence then v
      else if v.line.reports.length < 24 then v.onLine fun l => { l with reports := l.reports ++ [reportFrame h r] }
      else v.onLine fun l => { l with reportOverflow := true }

/-- A Detector Level report tapped (R49, R50, R52, R54, R55, R60): the level is written; a level at or above the alarm
threshold adds 1 to the run count up to the confirm count, any other makes it 0; an active detector stays active until
a level below its restore threshold, and an inactive one becomes active when its run count reaches the confirm count,
and its zone is told: a QUIET zone enters PRE_ALARM with that detector and its acknowledge time, a zone in PRE_ALARM
or FULL_ALARM adds it to the confirmer set, PRE_ALARM with the coincidence flag enters FULL_ALARM, and an ISOLATED
zone is left as it is. A report that no entry's station sends is forwarded untapped (R48). -/
def Obligations.DetectorReportsTapped : Prop :=
  ∀ (h : Hdr) (st : Station) (level : Byte) (s : State), s.answers h st → s.armed = true →
    let u := s.answeredBy h
    let ends := fun w => EndsAs (exec (.detectorLevelReport h level) s) (forwardReport h (.detectorLevel level) w)
    (detectorAt u h.src.toNat = none → ends u) ∧
    ∀ i d, detectorAt u h.src.toNat = some i → tget u.fire.detectors i = some d →
      let run := if d.alarm ≤ level.toNat then min (d.run + 1) d.confirm else 0
      let v := fun on => onDetector u i fun _ => { d with level := level.toNat, run := run, active := on }
      (d.active = true → ends (v (decide (d.restore ≤ level.toNat)))) ∧
      (d.active = false → run ≠ d.confirm → ends (v false)) ∧
      (d.active = false → run = d.confirm →
        (tget u.fire.zones d.zone = none → ends (v true)) ∧
        ∀ z, tget u.fire.zones d.zone = some z →
          let joined := onZone (v true) d.zone fun z =>
            { z with confirmers := z.confirmers ||| BitVec.twoPow 48 i, mark := true }
          (z.state = .quiet → ends (onZone (v true) d.zone fun z =>
            { z with state := .preAlarm, timer := some (z.ackTime * 125000), acked := false,
                     confirmers := BitVec.twoPow 48 i, mark := true })) ∧
          (z.state = .isolated → ends (v true)) ∧
          (z.state = .preAlarm ∨ z.state = .fullAlarm → z.confirmers.getLsbD i = true → ends (v true)) ∧
          (z.state = .preAlarm → z.confirmers.getLsbD i = false → z.coincidence = false → ends joined) ∧
          (z.state = .preAlarm → z.confirmers.getLsbD i = false → z.coincidence = true →
            ends (enterFullAlarm d.zone joined)) ∧
          (z.state = .fullAlarm → z.confirmers.getLsbD i = false → ends joined))

/-- A Call Point report tapped writes the operated flag, and OPERATED takes a zone in QUIET or PRE_ALARM into
FULL_ALARM (the value bytes 0 for NORMAL and 1 for OPERATED are log 34); the expiry of the stage timer of a zone in
PRE_ALARM does so too (R51, R54). A stage timer that does not run does not expire (log 3), and one that runs expires
when that is commanded (log 2). -/
def Obligations.CallPointsAndStageTimer : Prop :=
  (∀ (h : Hdr) (st : Station) (value : Byte) (s : State), s.answers h st → s.armed = true → value.toNat ≤ 1 →
    let u := s.answeredBy h
    let ends := fun w => EndsAs (exec (.callPointReport h value) s) (forwardReport h (.callPoint value) w)
    (callPointAt u h.src.toNat = none → ends u) ∧
    ∀ i c, callPointAt u h.src.toNat = some i → tget u.fire.callPoints i = some c →
      let v := onCallPoint u i fun c => { c with operated := decide (value = 1) }
      (value = 0 → ends v) ∧
      (value = 1 →
        (tget u.fire.zones c.zone = none → ends v) ∧
        ∀ z, tget u.fire.zones c.zone = some z →
          (z.state = .quiet ∨ z.state = .preAlarm → ends (enterFullAlarm c.zone v)) ∧
          (z.state = .fullAlarm ∨ z.state = .isolated → ends v))) ∧
  ∀ (z : Nat) (e : Zone) (s : State), tget s.fire.zones z = some e →
    (e.state = .preAlarm → e.timer.isSome = true →
      EndsAs (exec (.stageTimerExpiry z) s) (enterFullAlarm z s)) ∧
    (e.state ≠ .preAlarm ∨ e.timer = none → EndsAs (exec (.stageTimerExpiry z) s) s)

/-- A Chain report of the drive station tapped in a state other than UNKNOWN (R10, R15, R20, R24, R27, R43). The
record is written first; then condition FAULT places a Halt and locks with DRIVE_FAULT, and a NORMAL report acts by
state and motion; then, at a STOPPED report that leaves the state IDLE, HELD or LOCKED, the landings with waiting
shutters are judged, but for those the stop itself has judged; and in HELD the resume timer starts once its conditions
hold (R22). The landings with waiting shutters are those of floors 0 to 7 with a SHAFT shutter in AWAIT_CLEAR or
OBSTRUCTED by a car (R20). A start of movement makes every side settle afresh, and enters STOPPING for the fire stop
set, STOPPING to rest while a zone is in FULL_ALARM, and otherwise RUNOUT or RUNNING as its start record says (R9,
R28). An unsent Stop-At alone is withdrawn from the drive order slot (R12, R15). The first Chain report tapped after
Arm takes the paternoster out of UNKNOWN by the first of R8's cases, and then the landings with waiting shutters are
judged at a STOPPED one (R8, R20). A Chain report with the geometry absent, or from another station than the drive, is
forwarded untapped (R3, R5). -/
def Obligations.ChainReportsTapped : Prop :=
  (∀ (h : Hdr) (st : Station) (p2 : BitVec 16) (m c : Byte) (g : Geometry) (s : State),
    s.answers h st → s.armed = true →
    let u := s.answeredBy h
    u.driveStation = some h.src.toNat → u.pat.geometry = some g → p2.toNat < g.loop → m.toNat ≤ 1 → c.toNat ≤ 1 →
    u.pat.state ≠ .unknown →
    let v := u.onPat (chainRecord g p2.toNat (decide (m = 1)) (decide (c = 1)))
    let done := fun (w : State) => EndsAs (exec (.chainReport h p2 m c) s)
      (forwardReport h (.chain p2 m c) (w.onPat Paternoster.tryResumeTimer))
    let judged := fun (w : State) => done (judgeLandings (waitingFloors w) w)
    let stopJudged := fun (w : State) =>
      done (judgeLandings ((waitingFloors w).filter fun f => !u.pat.fireStop.getLsbD f) w)
    let set := fun f => v.onPat f
    (c = 1 → m = 1 → done (set fun p => (p.place .halt).lock (some .driveFault))) ∧
    (c = 1 → m = 0 → judged (set fun p => (p.place .halt).lock (some .driveFault))) ∧
    (c = 0 → m = 1 →
      (u.pat.state = .running ∨ u.pat.state = .resting ∨ u.pat.state = .stopping → done v) ∧
      (u.pat.state = .held ∨ u.pat.state = .locked → done (set fun p => p.place .halt)) ∧
      (u.pat.state = .runout →
        let wrap := (readMove g u.pat.chain.position p2.toNat).wrap
        (wrap = false → done v) ∧
        (∀ r, wrap = true → u.pat.revs = some (r + 2) →
          done (set fun p => { p with revs := some (r + 1), mark := true })) ∧
        (wrap = true → u.pat.revs = some 1 →
          done (markPat (set fun p => p.beginStop .rest .resting)))) ∧
      (u.pat.state = .idle →
        let moved := fun (p : Paternoster) =>
          { p.resettleAll with start := none, mark := p.mark || u.pat.start.isNone }
        (u.pat.fireStop ≠ 0 → done (set fun p => (moved p).beginStop .fire .stopping)) ∧
        (u.pat.fireStop = 0 → u.anyFull = true → done (set fun p => (moved p).beginStop .rest .stopping)) ∧
        (u.pat.fireStop = 0 → u.anyFull = false →
          (u.pat.start = none ∨ u.pat.start = some .running →
            done (set fun p => { moved p with state := .running })) ∧
          (∀ r, u.pat.start = some (.runout r) →
            done (set fun p => { moved p with state := .runout, revs := some r }))))) ∧
    (c = 0 → m = 0 →
      (u.pat.state = .idle ∨ u.pat.state = .locked → judged v) ∧
      (u.pat.state = .running → judged (set fun p => { p with state := .idle, start := none })) ∧
      (u.pat.state = .runout → judged (set fun p => { p with state := .idle, revs := none })) ∧
      (u.pat.state = .resting → judged (set fun p =>
        { p.withdrawStopAt with state := .idle, stopTimer := none, stop := none })) ∧
      (u.pat.state = .stopping →
        stopJudged ((lockAndJudge v).onPat fun p => p.withdrawStopAt)) ∧
      (u.pat.state = .held →
        (u.pat.fireStop = 0 → judged (set fun p => { p with stopTimer := none })) ∧
        (u.pat.fireStop ≠ 0 → stopJudged (lockAndJudge (set fun p => { p with stopTimer := none })))))) ∧
  (∀ (h : Hdr) (st : Station) (p2 : BitVec 16) (m c : Byte) (s : State),
    s.answers h st → s.armed = true → m.toNat ≤ 1 → c.toNat ≤ 1 →
    let u := s.answeredBy h
    let ends := fun w => EndsAs (exec (.chainReport h p2 m c) s) (forwardReport h (.chain p2 m c) w)
    (u.pat.geometry = none ∨ u.driveStation ≠ some h.src.toNat → ends u) ∧
    ∀ g, u.driveStation = some h.src.toNat → u.pat.geometry = some g → p2.toNat < g.loop →
      u.pat.state = .unknown →
      let v := (u.onPat (chainRecord g p2.toNat (decide (m = 1)) (decide (c = 1)))).onPat fun p =>
        { p with mark := true }
      let judged := fun (w : State) =>
        ends (if m = 0 then judgeLandings (waitingFloors w) w else w)
      (c = 1 → judged (v.onPat fun p => (p.place .halt).lock (some .driveFault))) ∧
      (c = 0 → u.pat.causes ≠ 0 → m = 1 → ends (v.onPat fun p => (p.place .halt).lock none)) ∧
      (c = 0 → u.pat.causes ≠ 0 → m = 0 → judged (v.onPat fun p => p.lock none)) ∧
      (c = 0 → u.pat.causes = 0 → u.pat.fireStop ≠ 0 → m = 0 →
        let w := lockAndJudge v
        ends (judgeLandings ((waitingFloors w).filter fun f => !u.pat.fireStop.getLsbD f) w)) ∧
      (c = 0 → u.pat.causes = 0 → m = 1 → ends (startOfMovement v)) ∧
      (c = 0 → u.pat.causes = 0 → u.pat.fireStop = 0 → m = 0 →
        judged (v.onPat fun p => { p with state := .idle }))) ∧
  ∀ s : State,
    let afresh := fun (b : Beam) => { b with settling := true, travel := 0, miss := 0 }
    let moved := s.onPat fun p => { p.resettleAll with start := none, mark := p.mark || p.start.isNone }
    waitingFloors s = ((List.range 8).filter fun f => s.shut.any fun e => decide (e.2.kind = .shaft ∧
      e.2.landing = some f ∧
      (e.2.state = .awaitClear ∨ (e.2.state = .obstructed ∧ e.2.obstruction = some .car)))) ∧
    lockAndJudge s = (judgeLandings ((List.range 8).filter fun f => s.pat.fireStop.getLsbD f)
      (s.onPat fun p => p.lock (some .fire))) ∧
    s.pat.resettleAll = { s.pat with landings := s.pat.landings.map fun e =>
      (e.1, { e.2 with upBeam := afresh e.2.upBeam, downBeam := afresh e.2.downBeam }) } ∧
    ((∀ t, s.pat.slot = some (.stopAt t) → s.pat.withdrawStopAt = { s.pat with slot := none }) ∧
      ((∀ t, s.pat.slot ≠ some (.stopAt t)) → s.pat.withdrawStopAt = s.pat)) ∧
    (s.pat.fireStop ≠ 0 → startOfMovement s = moved.onPat fun p => p.beginStop .fire .stopping) ∧
    (s.pat.fireStop = 0 → s.anyFull = true → startOfMovement s = moved.onPat fun p => p.beginStop .rest .stopping) ∧
    (s.pat.fireStop = 0 → s.anyFull = false →
      (s.pat.start = none ∨ s.pat.start = some .running →
        startOfMovement s = moved.onPat fun p => { p with state := .running }) ∧
      ∀ r, s.pat.start = some (.runout r) →
        startOfMovement s = moved.onPat fun p => { p with state := .runout, revs := some r })

/-- A Landing report of a landing's station tapped with the stop switch NORMAL and no new trip (R4, R22, R29): the
beam counts are compared, a side that reaches the slip limit places a Halt and locks with SLIP, the guard and
stop-switch records are written, and in HELD the resume timer starts once its conditions hold. An operated stop switch
is taken first and locks with EMERGENCY (R23), and a new trip acts by state (R21). A slip is a Halt and LOCKED with
SLIP in the moving states, HELD and IDLE, the cause alone in LOCKED, and nothing in UNKNOWN (R29); the trip history
keeps the latest 8 times, oldest first (R21). -/
def Obligations.LandingReportsTapped : Prop :=
  (∀ (h : Hdr) (st : Station) (up down guard stop : Byte) (s : State), s.answers h st → s.armed = true →
    guard.toNat ≤ 1 → stop.toNat ≤ 1 →
    let u := s.answeredBy h
    let ends := fun w => EndsAs (exec (.landingReport h up down guard stop) s)
      (forwardReport h (.landing up down guard stop) w)
    (landingAt u h.src.toNat = none → ends u) ∧
    ∀ f l g, landingAt u h.src.toNat = some f → tget u.pat.landings f = some l → u.pat.geometry = some g →
      -- the beam counts and then the records, after the switch and the guard have been taken as `w`
      let finished := fun (w : State) =>
        let a := l.upBeam.compare g.slipLimit up.toNat
        let b := l.downBeam.compare g.slipLimit down.toNat
        let x := onLanding w f fun l => { l with upBeam := a.1, downBeam := b.1 }
        let y := if a.2 = true ∨ b.2 = true then slip x else x
        ends ((onLanding y f fun l =>
          { l with tripped := decide (guard = 1), stopSwitch := decide (stop = 1) }).onPat
            Paternoster.tryResumeTimer)
      let trip := guard = 1 ∧ l.tripped = false
      let trips := addTrip u.now u.pat.trips
      let full := g.guardLimit ≤ (trips.filter fun t => u.now - t < g.guardWindow).length
      let set := fun k => u.onPat fun p => k { p with mark := true }
      (stop = 0 → ¬trip → finished u) ∧
      (stop = 1 →
        let noted := fun (p : Paternoster) => { p with mark := p.mark || (guard == 1 && !l.tripped) }
        (u.pat.state = .unknown → finished (u.onPat fun p => noted ((p.place .halt).addCause .emergency))) ∧
        (u.pat.state = .locked → finished (u.onPat fun p => noted (p.addCause .emergency))) ∧
        (u.pat.state ≠ .unknown → u.pat.state ≠ .locked →
          finished (u.onPat fun p => noted ((p.place .halt).lock (some .emergency))))) ∧
      (stop = 0 → trip →
        (u.pat.state = .running ∨ u.pat.state = .runout →
          (full → finished (set fun p => ({ p.place .halt with trips := trips }).lock (some .guardLimit))) ∧
          (¬full → finished (set fun p =>
            { p.place .halt with
              trips := trips, state := .held, revs := none, stopTimer := some (g.stopTimeout * 125000),
              remembered := some (match u.pat.revs with
                | some r => .runout r
                | none => .running) }))) ∧
        (u.pat.state = .held →
          (full → finished (set fun p =>
            ({ p.place .halt with trips := trips, resumeTimer := none }).lock (some .guardLimit))) ∧
          (¬full → finished (set fun p => { p.place .halt with trips := trips, resumeTimer := none }))) ∧
        (u.pat.state = .resting ∨ u.pat.state = .stopping →
          finished (set fun p => { p.place .halt with
            stop := some { target := none, searched := none, halted := true } })) ∧
        (u.pat.state = .idle → u.pat.start.isSome = true →
          finished (set fun p => { p.place .halt with start := none })) ∧
        (u.pat.state = .idle → u.pat.start = none → finished (set id)) ∧
        (u.pat.state = .unknown ∨ u.pat.state = .locked → finished (set id)))) ∧
  (∀ s : State,
    (s.pat.state = .locked → slip s = s.onPat fun p => { p with causes := p.causes ||| BitVec.twoPow 8 1 }) ∧
    (s.pat.state = .unknown → slip s = s) ∧
    (s.pat.state ≠ .locked → s.pat.state ≠ .unknown →
      slip s = s.onPat fun p => (p.place .halt).lock (some .slip))) ∧
  ∀ (now : Nat) (l : List Nat),
    (l.length < 8 → addTrip now l = l ++ [now]) ∧ (l.length = 8 → addTrip now l = l.tail ++ [now])

/-- A Shutter Position report tapped (R70, R71, R73): the position is written and the state changes by the state and
the report. Out of UNKNOWN by R71: OPEN, CLOSED, OBSTRUCTED by a jam, or FAULTED with UNEXPECTED_REPORT, each with
reason NONE; otherwise by the table of R73. A shutter that leaves UNKNOWN or enters OPEN while a zone of it is in
FULL_ALARM is released at once (R72, R75). -/
def Obligations.ShutterReportsTapped : Prop :=
  ∀ (h : Hdr) (st : Station) (v : Byte) (pos : Position) (s : State), s.answers h st → s.armed = true →
    valueOf positions v.toNat = some pos →
    let u := s.answeredBy h
    let ends := fun w => EndsAs (exec (.shutterPositionReport h v) s) (forwardReport h (.shutterPosition v) w)
    (shutterAt u h.src.toNat = none → ends u) ∧
    ∀ i e, shutterAt u h.src.toNat = some i → tget u.shut i = some e → (u.shut.map Prod.fst).Nodup →
      let set := fun f => onShutter u i fun x => f { x with last := some pos }
      let released := fun (w : State) => ends (if e.inZone u.zoneFull then release i w else w)
      let opened := fun (x : Shutter) => { x with
        state := .open, reason := .none, attempts := 0, timer := none, obstruction := none, fault := none,
        prior := none }
      let closed := fun (x : Shutter) => { x with
        state := .closed, timer := none, attempts := 0, obstruction := none, fault := none, prior := none }
      let faulted := fun (x : Shutter) => { x with
        state := .faulted, timer := none, slot := none, prior := none, obstruction := none,
        fault := some .unexpectedReport }
      let jammed := fun (x : Shutter) => { x with
        state := .obstructed, obstruction := some .jam, fault := none, prior := none,
        timer := if x.kind = .department ∧ x.reason ≠ .none then some (10 * 125000) else none }
      (e.state = .unknown →
        (pos = .open → released (set opened)) ∧
        (pos = .closed → released (set fun x => closed { x with reason := .none })) ∧
        (pos = .lowering ∨ pos = .part ∨ pos = .raising →
          released (set fun x => faulted { x with reason := .none })) ∧
        (pos = .jammed → released (set fun x => jammed { x with reason := .none }))) ∧
      (e.state = .open →
        (pos = .open ∨ pos = .raising → ends (set id)) ∧
        (pos = .closed → ends (set fun x => closed { x with reason := .manual })) ∧
        (pos = .lowering ∨ pos = .part ∨ pos = .jammed → ends (set faulted))) ∧
      (e.state = .awaitClear →
        (pos = .open ∨ pos = .raising → ends (set id)) ∧ (pos = .closed → ends (set closed)) ∧
        (pos = .lowering ∨ pos = .part ∨ pos = .jammed → ends (set faulted))) ∧
      (e.state = .warning →
        (pos = .open → ends (set id)) ∧ (pos = .closed → ends (set closed)) ∧
        (pos = .lowering ∨ pos = .raising ∨ pos = .part ∨ pos = .jammed → ends (set faulted))) ∧
      (e.state = .descending →
        (pos = .open ∨ pos = .lowering → ends (set id)) ∧ (pos = .closed → ends (set closed)) ∧
        (pos = .raising → ends (set faulted)) ∧ (pos = .part ∨ pos = .jammed → ends (set jammed))) ∧
      (e.state = .closed →
        (pos = .open → released (set opened)) ∧ (pos = .lowering ∨ pos = .closed → ends (set id)) ∧
        (pos = .raising ∨ pos = .part ∨ pos = .jammed → ends (set faulted))) ∧
      (e.state = .obstructed →
        (pos = .closed → ends (set closed)) ∧ (pos ≠ .closed → ends (set id))) ∧
      (e.state = .raising →
        (pos = .open → released (set opened)) ∧ (pos = .raising ∨ pos = .closed → ends (set id)) ∧
        (pos = .lowering ∨ pos = .part ∨ pos = .jammed → ends (set faulted))) ∧
      (e.state = .faulted → ends (set id))

/-! ## Staff calls and bells -/

/-- A Push report tapped for a present push (R104, R105). With no call listed for the push a call record joins the
list, with its arrival time the difference of the whole seconds of the running time now and at Arm (log 36), or
LIST_FULL is set when the list holds 32, and the push's own ring request joins the queue. With a call listed its
presses count up to 15, and at the third press a call not yet escalated escalates: its priority rises by 1 up to 6,
the next ring time is dropped, its queued requests take the new priority, each at the place in queue order that it
gives, and with an escalation ringer and pattern a request for them joins at that priority (R101, R111; how a request
joins, also in a full queue, is said in QueueOrderKept); then a dispatch follows. -/
def Obligations.PushReportsTapped : Prop :=
  (∀ (h : Hdr) (st : Station) (key : Byte) (s : State), s.answers h st → s.armed = true → key.toNat ≤ 7 →
    let u := s.answeredBy h
    let ends := fun w => EndsAs (exec (.pushReport h key) s) (forwardReport h (.push key) w)
    (pushAt u h.src.toNat key.toNat = none → ends u) ∧
    ∀ i p, pushAt u h.src.toNat key.toNat = some i → tget u.call.pushes i = some p →
      ((∀ c ∈ u.call.calls, c.push ≠ i) →
        (u.call.calls.length < 32 → ends (joinAndDispatch p.ringer p.pattern p.priority (.call i)
          (u.onCall fun k => { k with
            calls := k.calls ++ [{ push := i, priority := p.priority, arrival := u.now - u.mgmt.armedAt,
                                   presses := 1, rings := 0, nextRing := none, escalated := false,
                                   owed := false, state := .waiting }], mark := true }))) ∧
        (32 ≤ u.call.calls.length → ends (joinAndDispatch p.ringer p.pattern p.priority (.call i)
          (u.onCall fun k => { k with listFull := true, mark := true })))) ∧
      ∀ c, u.call.calls.find? (fun c => c.push == i) = some c →
        let n := min (c.presses + 1) 15
        let v := u.onCall fun k => { k with
          calls := k.calls.map fun x => if x.push = i then { x with presses := n } else x }
        (n < 3 ∨ c.escalated = true → ends v) ∧
        (3 ≤ n → c.escalated = false → ends (dispatch (escalate i v)))) ∧
  ∀ (i : Nat) (c : Call) (v : State), v.call.calls.find? (fun c => c.push == i) = some c →
    (c.escalated = true → escalate i v = v) ∧
    (c.escalated = false →
      (∃ q : List Req,
        let w := v.onCall fun k => { k with
          calls := k.calls.map fun x => if x.push = i then
            { x with priority := min (c.priority + 1) 6, escalated := true, nextRing := none } else x
          queue := q, mark := true }
        q.Perm (v.call.queue.map fun r =>
          if r.origin = .call i then { r with priority := min (c.priority + 1) 6 } else r) ∧
        q.Pairwise (fun a b => b.before a = false) ∧
        ((∀ p, tget v.call.pushes i = some p → p.escalation = none) → escalate i v = w) ∧
        ∀ p rg pt, tget v.call.pushes i = some p → p.escalation = some (rg, pt) →
          escalate i v = joinNew rg pt (min (c.priority + 1) 6) (.call i) w) ∧
      (v.call.queue.length < 24 → (escalate i v).call.calls = v.call.calls.map fun x =>
        if x.push = i then
          { x with priority := min (c.priority + 1) 6, escalated := true, nextRing := none }
        else x) ∧
      ∀ r ∈ (escalate i v).call.queue, r.origin = .call i → r.priority = min (c.priority + 1) 6)

/-- An Answer report of a desk tapped (R116). A cell of a push with a call takes that call out, its requests leave the
queue and its rings stop; 64 takes every call and every queued CALL request; LIST_FULL is cleared when a call left.
What the removal is, ring by ring and request by request, is said in ClearCallAnswers; that at 64 all the calls leave
before one look at the owed calls and one dispatch is the model's choice (log 27). A cell that answers no call, and 64
with no call listed and no CALL request queued, is kept as the last ignored answer. From a station that is no desk the
report is forwarded untapped. -/
def Obligations.AnswerReportsTapped : Prop :=
  ∀ (h : Hdr) (st : Station) (cell : Byte) (s : State), s.answers h st → s.armed = true → cell.toNat ≤ 64 →
    let u := s.answeredBy h
    let ends := fun w => EndsAs (exec (.answerReport h cell) s) (forwardReport h (.answer cell) w)
    let kept := fun (v : State) => v.line = u.line ∧ v.reg = u.reg ∧ v.pat = u.pat ∧ v.fire = u.fire ∧
      v.shut = u.shut ∧ v.board = u.board ∧ v.ann = u.ann ∧ v.mgmt = u.mgmt ∧
      v.call.closingLevel = u.call.closingLevel ∧ v.call.fireLevel = u.call.fireLevel ∧
      v.call.lastIgnored = u.call.lastIgnored
    let ignored := u.onCall fun k => { k with lastIgnored := some cell.toNat, mark := true }
    (u.hasRole h.src.toNat .desk = false → ends u) ∧
    (u.hasRole h.src.toNat .desk = true →
      (cell.toNat = 64 →
        (u.call.calls = [] → (∀ r ∈ u.call.queue, ∀ p, r.origin ≠ .call p) → ends ignored) ∧
        (u.call.calls ≠ [] ∨ (∃ r ∈ u.call.queue, ∃ p, r.origin = .call p) →
          ∃ v, v = removeCalls (u.call.calls.map fun c => c.push) true u ∧
            ends v ∧ kept v ∧ v.call.calls = [] ∧ (∀ r ∈ v.call.queue, ∀ p, r.origin ≠ .call p) ∧
            (∀ g ∈ v.call.ringers, ∀ r, g.2.ring = some (.request r) → ∀ c ∈ u.call.calls, r.origin ≠ .call c.push) ∧
            (u.call.calls ≠ [] → v.call.listFull = false) ∧
            (u.call.calls = [] → v.call.listFull = u.call.listFull))) ∧
      (cell.toNat < 64 →
        ((∀ p, tget u.board.layout cell.toNat = some (.push p) → ∀ c ∈ u.call.calls, c.push ≠ p) →
          ends ignored) ∧
        ∀ p, tget u.board.layout cell.toNat = some (.push p) → (∃ c ∈ u.call.calls, c.push = p) →
          ∃ v, v = removeCalls [p] false u ∧ ends v ∧ kept v ∧ v.call.listFull = false ∧
            (v.call.calls.map fun c => c.push) = (u.call.calls.map fun c => c.push).filter (· ≠ p) ∧
            (∀ r ∈ v.call.queue, r.origin ≠ .call p) ∧
            ∀ g ∈ v.call.ringers, ∀ r, g.2.ring = some (.request r) → r.origin ≠ .call p))

/-- A Ring Done with the ringer's ring number makes the ringer IDLE, and the ring counts as done for its call: rings
done rises up to 15, and for a ring of the push's own ringer and REPEAT pattern, the call not escalated, the next ring
time is set, or the call escalates when the repeat limit is reached (R108). Another number is stale. At the ring
timer's expiry the ringer is IDLE, no ring is counted, and the next ring time is set for such a ring (R109). Each is a
dispatch occasion. An unsent Ring order stays in the ringer's slot at its timer's expiry and is sent (log 12). Of two
ringers that name one station the lower takes the Ring Done (log 48). A ring timer that does not run does not expire
(log 3), and one that runs expires when that is commanded (log 2). -/
def Obligations.RingsEnd : Prop :=
  let idle := fun (v : State) (i : Nat) => onRinger v i fun g => { g with ring := none, number := none, timer := none }
  let own := fun (v : State) (r : Req) (c : Call) (interval limit : Nat) => c.escalated = false ∧
    (∃ e, tget v.call.pushes c.push = some e ∧ e.ringer = r.ringer ∧ e.pattern = r.pattern) ∧
    ∃ pat, tget v.call.patterns r.pattern = some pat ∧ pat.repeating = some (interval, limit)
  let onCall := fun (v : State) (p : Nat) (f : Call → Call) =>
    v.onCall fun k => { k with calls := k.calls.map fun x => if x.push = p then f x else x }
  (∀ (h : Hdr) (st : Station) (number : Byte) (s : State), s.answers h st → s.armed = true →
    let u := s.answeredBy h
    let ends := fun w => EndsAs (exec (.ringDoneReport h number) s) (forwardReport h (.ringDone number) w)
    (ringerAt u h.src.toNat = none → ends u) ∧
    ∀ i g, ringerAt u h.src.toNat = some i → tget u.call.ringers i = some g →
      (g.ring = none ∨ g.number ≠ some number.toNat → ends u) ∧
      (g.number = some number.toNat →
        (∀ a b, g.ring = some (.panel a b) → ends (dispatch (idle u i))) ∧
        ∀ r, g.ring = some (.request r) →
          ((∀ p, r.origin = .call p → ∀ c ∈ u.call.calls, c.push ≠ p) → ends (dispatch (idle u i))) ∧
          ∀ p c, r.origin = .call p → u.call.calls.find? (fun c => c.push == p) = some c →
            let n := min (c.rings + 1) 15
            let rung := onCall (idle u i) p fun x => { x with rings := n }
            ((¬∃ interval limit, own u r c interval limit) → ends (dispatch rung)) ∧
            ∀ interval limit, own u r c interval limit →
              (limit ≠ 0 → limit ≤ n → ends (dispatch (escalate p rung))) ∧
              (limit = 0 ∨ n < limit →
                ends (dispatch (onCall rung p fun x => { x with nextRing := some (u.now + interval) }))))) ∧
  ∀ (i : Nat) (g : Ringer) (s : State), tget s.call.ringers i = some g →
    let ends := fun w => EndsAs (exec (.ringTimerExpiry i) s) w
    (g.timer = none ∨ g.ring = none → ends s) ∧
    (g.timer.isSome = true →
      (∀ a b, g.ring = some (.panel a b) → ends (dispatch (idle s i))) ∧
      ∀ r, g.ring = some (.request r) →
        ((∀ p, r.origin = .call p → ∀ c ∈ s.call.calls, c.push ≠ p) → ends (dispatch (idle s i))) ∧
        ∀ p c, r.origin = .call p → s.call.calls.find? (fun c => c.push == p) = some c →
          ((¬∃ interval limit, own s r c interval limit) → ends (dispatch (idle s i))) ∧
          ∀ interval limit, own s r c interval limit →
            ends (dispatch (onCall (idle s i) p fun x => { x with nextRing := some (s.now + interval) })))

/-- At the next ring time of a push's call that time is dropped and the push's own request joins at the call's
priority, unless the call is owed its ring: then nothing joins, the flag stays, and the next re-offer brings the
request in (R102, R110). At the fire repeat timer's expiry, while a zone is in FULL_ALARM, the alarm is not silenced,
and the pattern's repeat limit is 0 or not reached, a FIRE request for each ringer joins, the round count rises up to
15 and the timer starts afresh; otherwise it stops (R113). That the running time is then at least the next ring time
is the model's choice (log 4), as is the timer's stopping for a pattern that has become NORMAL (log 26), and that an
event with nothing to reach changes nothing (log 3), and that a timer that runs expires when that is commanded (log
2). -/
def Obligations.RingTimesReached : Prop :=
  (∀ (push : Nat) (c : Call) (s : State), s.call.calls.find? (fun c => c.push == push) = some c →
    (c.nextRing = none → EndsAs (exec (.nextRingTimeReached push) s) s) ∧
    ∀ t p, c.nextRing = some t → tget s.call.pushes push = some p →
      let v := { s with
        mgmt := { s.mgmt with time := max s.mgmt.time (t * 125000) }
        call := { s.call with
          calls := s.call.calls.map fun x => if x.push = push then { x with nextRing := none } else x } }
      (c.owed = false → EndsAs (exec (.nextRingTimeReached push) s)
        (joinAndDispatch p.ringer p.pattern c.priority (.call push) v)) ∧
      (c.owed = true → EndsAs (exec (.nextRingTimeReached push) s) v)) ∧
  (∀ (push : Nat) (s : State), (∀ c ∈ s.call.calls, c.push ≠ push) →
    EndsAs (exec (.nextRingTimeReached push) s) s) ∧
  ∀ (s : State) (f : FireSettings) (pat : Pattern), s.fire.settings = some f →
    tget s.call.patterns f.pattern = some pat →
    let stopped := s.onCall fun k => { k with fireTimer := none }
    let ends := EndsAs (exec .fireRepeatTimerExpiry s)
    (s.call.fireTimer = none → ends s) ∧
    (pat.repeating = none → ends stopped) ∧
    ∀ interval limit, s.call.fireTimer.isSome = true → pat.repeating = some (interval, limit) →
      let again := s.anyFull = true ∧ s.fire.silence = false ∧ (limit = 0 ∨ s.call.fireRound < limit)
      (¬again → ends stopped) ∧
      (again → ends (((s.call.ringers.map Prod.fst).foldl
          (fun v i => joinAndDispatch i f.pattern 7 .fire v) s).onCall fun k =>
        { k with fireRound := min (k.fireRound + 1) 15, fireTimer := some (interval * 125000) }))

/-- Every step keeps the ring queue in queue order, with no two requests identical in ringer, pattern and origin
(R101). A request that joins is merged with an identical queued one, which takes the higher priority and its place
(R101; the place is the model's reading, log 35); otherwise it takes its place while fewer than 24 are queued; and in
a full queue it displaces the last, when that is of lower priority, or does not join, and the call of the one left out
is owed its ring (R102). A new request carries the age and number of its moment. An owed call is re-offered while the
queue has room: its owed flag is cleared, and its push's own request joins at the call's priority unless an identical
one is queued or sounding (R102). A free ringer, whose station is not MISSING, takes the first request in queue order
that names it at or above the effective level: the request leaves, the ringer is RINGING with the next ring number, a
timer of strokes × spacing + 5 s and a Ring order in its slot (R106). A dispatch goes over the ringers in rising
order, each departure followed by the re-offers, again and again until a round takes nothing; then no free ringer is
left that could take one, and nothing but the queue, the free ringers, the ring counter and owed flags has changed. A
ring is stopped by emptying a slot whose Ring order is unsent, and by placing a Ring Cancel otherwise (R112, R114 to
R116). A preempted ringer's ring below priority 7 is stopped, the ringer takes what it then can, and the request it
rang rejoins as it was (R107, R112). -/
def Obligations.QueueOrderKept : Prop :=
  let ordered := fun (q : List Req) => q.Pairwise fun a b => b.before a = false
  (∀ s t : State,
    s.call.queue.Pairwise (fun a b => b.before a = false) → s.call.queue.Pairwise (fun a b => a.same b = false) →
    step s = .next t →
    t.call.queue.Pairwise (fun a b => b.before a = false) ∧ t.call.queue.Pairwise (fun a b => a.same b = false)) ∧
  (∀ a b : Req,
    (a.before b = true ↔ b.priority < a.priority ∨ (a.priority = b.priority ∧
      (a.age < b.age ∨ (a.age = b.age ∧ a.seq < b.seq)))) ∧
    (a.same b = true ↔ a.ringer = b.ringer ∧ a.pattern = b.pattern ∧ a.origin = b.origin)) ∧
  (∀ (u : CallUnit) (r : Req), ordered u.queue →
    let v := u.join r
    let owing := fun (x : Req) => u.calls.map fun c => if x.origin = .call c.push then { c with owed := true } else c
    let same := u.queue.any r.same
    ordered v.queue ∧
    (same = true → { v with queue := u.queue } = u ∧
      v.queue.Perm (u.queue.map fun x => if r.same x then { x with priority := max x.priority r.priority } else x)) ∧
    (same = false → u.queue.length < 24 →
      { v with queue := u.queue } = { u with mark := true } ∧ v.queue.Perm (r :: u.queue)) ∧
    ∀ l x, same = false → u.queue = l ++ [x] → 24 ≤ u.queue.length →
      (x.priority < r.priority →
        { v with queue := u.queue } = { u with mark := true, calls := owing x } ∧ v.queue.Perm (r :: l)) ∧
      (r.priority ≤ x.priority → v = { u with calls := owing r })) ∧
  (∀ (ringer pattern priority : Nat) (o : Origin) (s : State),
    joinNew ringer pattern priority o s = (s.onCall fun k => { k with nextSeq := k.nextSeq + 1 }.join
      { ringer := ringer, pattern := pattern, priority := priority, origin := o, age := s.now, seq := k.nextSeq }) ∧
    joinAndDispatch ringer pattern priority o s = dispatch (joinNew ringer pattern priority o s)) ∧
  (∀ (s : State) (push : Nat) (c : Call) (p : Push), s.call.calls.find? (fun c => c.push == push) = some c →
    tget s.call.pushes push = some p →
    let own := fun (r : Req) => r.ringer = p.ringer ∧ r.pattern = p.pattern ∧ r.origin = .call push
    let there := (∃ r ∈ s.call.queue, own r) ∨
      ∃ g ∈ s.call.ringers, ∃ r, g.2.ring = some (.request r) ∧ own r
    let offered := s.onCall fun k => { k with
      calls := k.calls.map fun c => if c.push = push then { c with owed := false } else c }
    (c.owed = false ∨ 24 ≤ s.call.queue.length → reofferOne s push = s) ∧
    (c.owed = true → s.call.queue.length < 24 →
      (there → reofferOne s push = offered) ∧
      (¬there → reofferOne s push = joinNew p.ringer p.pattern c.priority (.call push) offered))) ∧
  (∀ s : State, reoffer s = (s.call.calls.map fun c => c.push).foldl reofferOne s) ∧
  (∀ (i : Nat) (g : Ringer) (s : State), tget s.call.ringers i = some g →
    let meets := fun (r : Req) => r.ringer = i ∧ max s.call.closingLevel s.call.fireLevel ≤ r.priority
    (g.ring.isSome = true ∨ s.missing g.station = true → dispatchOne i s = s) ∧
    ((∀ r ∈ s.call.queue, ¬meets r) → dispatchOne i s = s) ∧
    ∀ l r rest pat, g.ring = none → s.missing g.station = false → s.call.queue = l ++ r :: rest →
      (∀ x ∈ l, ¬meets x) → meets r → tget s.call.patterns r.pattern = some pat →
      dispatchOne i s = onRinger
        (s.onCall fun k => { k with
          queue := k.queue.filter fun x => !(r.same x), mark := true
          counter := if 255 ≤ k.counter then 1 else k.counter + 1 }) i fun g =>
        { g with ring := some (.request r), number := some s.call.counter
                 timer := some (pat.strokes * pat.spacing * 12500 + 5 * 125000)
                 slot := some (.ring pat.strokes pat.spacing s.call.counter) }) ∧
  (∀ (s : State) (n : Nat),
    let round := (s.call.ringers.map Prod.fst).foldl (fun w i =>
      if (dispatchOne i w).call.counter = w.call.counter then w else reoffer (dispatchOne i w)) s
    dispatch s = dispatchRounds 17 s ∧
    dispatchRounds (n + 1) s = if round.call.counter = s.call.counter then s else dispatchRounds n round) ∧
  (∀ s : State, s.call.ringers.length ≤ 16 →
    let v := dispatch s
    { v with call := s.call } = s ∧ v.call.pushes = s.call.pushes ∧ v.call.patterns = s.call.patterns ∧
    v.call.closingLevel = s.call.closingLevel ∧ v.call.fireLevel = s.call.fireLevel ∧
    (v.call.calls.map fun c => { c with owed := false }) = (s.call.calls.map fun c => { c with owed := false }) ∧
    (∀ i g, tget s.call.ringers i = some g → g.ring.isSome = true → tget v.call.ringers i = some g) ∧
    ∀ i, dispatchOne i v = v) ∧
  ∀ (g : Ringer) (s : State),
    let silent := { g with ring := none, number := none, timer := none }
    ((∃ a b n, g.slot = some (.ring a b n)) → g.stop = { silent with slot := none }) ∧
    ((∀ a b n, g.slot ≠ some (.ring a b n)) → g.stop = { silent with slot := some .cancel }) ∧
    (∀ r, rejoin (some (.request r)) s = s.onCall fun k => k.join r) ∧
    (∀ a b, rejoin (some (.panel a b)) s = s) ∧ rejoin none s = s ∧
    ∀ i, tget s.call.ringers i = some g →
      (∀ r, g.ring = some (.request r) → r.priority < 7 → preemptOne s i =
        dispatch (reoffer (rejoin g.ring (dispatchOne i (onRinger s i fun g => g.stop))))) ∧
      ((∀ r, g.ring = some (.request r) → 7 ≤ r.priority) → preemptOne s i = s)

/-! ## Amplifiers and chimes -/

/-- The end of a phrase, by a Phrase Done whose number is the play number or by the phrase timer's expiry, makes the
amplifier IDLE (R147). While the override is issuing and the station is not MISSING, a phrase of origin FIRE starts
the gap timer (R153), and an amplifier returned while playing is given its fire phrase at once (R148, log 10); then
the step check is made (R143). At the gap timer's expiry the fire phrase is given while the override is issuing
(R153). The fire phrase is the evacuation phrase on a floor of an evacuation mask of a zone in FULL_ALARM, and the
alert phrase elsewhere, played with the next play number and a phrase timer of 60 s (R146, R147). An unsent Phrase
order stays in the amplifier's slot at the phrase timer's expiry (log 45). A timer that does not run does not expire
(log 3), and one that runs expires when that is commanded (log 2). -/
def Obligations.PhrasesEnd : Prop :=
  let idle := fun (v : State) (f : Nat) => onAmp v f fun a =>
    { a with state := .idle, origin := none, phrase := none, number := none, phraseTimer := none, gen := none }
  let ended := fun (v : State) (f : Nat) (a : Amp) (o : State → Prop) =>
    (v.issuing = false ∨ v.missing a.station = true → o (stepCheck (idle v f))) ∧
    ∀ fs, v.issuing = true → v.missing a.station = false → v.fire.settings = some fs →
      (a.owed = true → o (stepCheck (giveFirePhrase f (idle v f)))) ∧
      (a.owed = false → a.origin = some .fire →
        o (stepCheck (onAmp (idle v f) f fun b => { b with gapTimer := some (fs.gap * 125000) }))) ∧
      (a.owed = false → a.origin ≠ some .fire → o (stepCheck (idle v f)))
  (∀ (h : Hdr) (st : Station) (number : Byte) (s : State), s.answers h st → s.armed = true →
    let u := s.answeredBy h
    let ends := fun w => EndsAs (exec (.phraseDoneReport h number) s) (forwardReport h (.phraseDone number) w)
    (ampAt u h.src.toNat = none → ends u) ∧
    ∀ f a, ampAt u h.src.toNat = some f → tget u.ann.amps f = some a →
      (a.state ≠ .playing ∨ a.number ≠ some number.toNat → ends u) ∧
      (a.state = .playing → a.number = some number.toNat → ended u f a ends)) ∧
  (∀ (f : Nat) (a : Amp) (s : State), tget s.ann.amps f = some a →
    (a.state ≠ .playing ∨ a.phraseTimer = none → EndsAs (exec (.phraseTimerExpiry f) s) s) ∧
    (a.state = .playing → a.phraseTimer.isSome = true →
      ended s f a fun w => EndsAs (exec (.phraseTimerExpiry f) s) w) ∧
    (a.gapTimer = none → EndsAs (exec (.gapTimerExpiry f) s) s) ∧
    (a.gapTimer.isSome = true →
      let stopped := onAmp s f fun b => { b with gapTimer := none }
      (s.issuing = true → s.missing a.station = false →
        EndsAs (exec (.gapTimerExpiry f) s) (giveFirePhrase f stopped)) ∧
      (s.issuing = false ∨ s.missing a.station = true → EndsAs (exec (.gapTimerExpiry f) s) stopped))) ∧
  ∀ (f : Nat) (a : Amp) (fs : FireSettings) (v : State), v.fire.settings = some fs → tget v.ann.amps f = some a →
    let evacuated := ∃ z ∈ v.fire.zones, z.2.state = .fullAlarm ∧ z.2.evacFloors.getLsbD f = true
    let given := fun n => leaveGate f a ((onAmp v f fun a =>
        { a with state := .playing, origin := some .fire, phrase := some n, number := some v.ann.counter,
                 phraseTimer := some (60 * 125000), gen := none, gapTimer := none, owed := false,
                 slot := some (.phrase n v.ann.counter) }).onAnn fun k =>
      { k with counter := if 255 ≤ k.counter then 1 else k.counter + 1 })
    (evacuated → giveFirePhrase f v = given fs.evacPhrase) ∧ (¬evacuated → giveFirePhrase f v = given fs.alertPhrase)

/-- The notes of a sounding chime (R150, R151). A note's end is followed by its gap, if it has one, then by the next
note, and after the last note by the first note of the next round. At the end of the last gap of the last round the
generator is IDLE, a Gate off is placed for each amplifier still gated to it with origin CLOSING, which becomes IDLE,
and the step check is made; for a MISSING station no order is placed (log 11). A chime end commanded before that does
nothing (log 3), and neither event does anything at an IDLE generator. An end commanded while the note or gap lasts
acts whatever is left of it (log 2). The step check is made once, with the amplifiers and the generator IDLE (log
38). -/
def Obligations.ChimesProgress : Prop :=
  ∀ (g : Nat) (s : State),
    (s.ann.gen g = none → EndsAs (exec (.chimeNoteEnd g) s) s ∧ EndsAs (exec (.chimeEnd g) s) s) ∧
    ∀ p x c n, s.ann.gen g = some p → p.sounding = some x → tget s.ann.chimes p.chime = some c →
      c.notes[x.note]? = some n →
      let isOver := c.repeats ≤ x.round ∧ c.notes.length ≤ x.note + 1 ∧ (x.inGap = true ∨ n.gap = 0)
      let finished := stepCheck (s.onAnn fun k =>
        { k.setGen g none with
          mark := true
          amps := tmap k.amps fun _ a =>
            if a.state = .gated ∧ a.gen = some g ∧ a.origin = some .closing then
              { a with state := .idle, origin := none, phrase := none, number := none, phraseTimer := none,
                       gen := none, slot := if s.missing a.station then a.slot else some .gateOff }
            else a })
      let goes := fun y => EndsAs (exec (.chimeNoteEnd g) s)
        (s.onAnn fun k => k.setGen g (some { p with sounding := some y }))
      (isOver → EndsAs (exec (.chimeNoteEnd g) s) finished ∧ EndsAs (exec (.chimeEnd g) s) finished) ∧
      (¬isOver →
        EndsAs (exec (.chimeEnd g) s) s ∧
        (x.inGap = false → n.gap ≠ 0 → goes { x with inGap := true, left := n.gap * 1250 }) ∧
        (x.inGap = true ∨ n.gap = 0 →
          (∀ m, c.notes[x.note + 1]? = some m →
            goes { x with note := x.note + 1, inGap := false, left := m.duration * 1250 }) ∧
          ∀ m, c.notes.length ≤ x.note + 1 → c.notes[0]? = some m →
            goes { round := x.round + 1, note := 0, inGap := false, left := m.duration * 1250 }))

/-! ## Timers and moments -/

/-- The stop timer's expiry in RESTING, STOPPING or HELD places a Cut and locks with STOP_TIMEOUT (R16). The resume
timer starts in HELD when it is not running, the chain is reported STOPPED and no guard is tripped; at its expiry the
paternoster is IDLE, and a Run is placed with the remembered state as the start record when a Run could pass (R22). A
timer that does not run does not expire (log 3), and one that runs expires when that is commanded (log 2). -/
def Obligations.ChainTimers : Prop :=
  (∀ s : State,
    let stops := s.pat.state = .resting ∨ s.pat.state = .stopping ∨ s.pat.state = .held
    (s.pat.stopTimer.isSome = true → stops →
      EndsAs (exec .stopTimerExpiry s) (s.onPat fun p =>
        { p with stopTimer := none, slot := some .cut }.lock (some .stopTimeout))) ∧
    (s.pat.stopTimer = none ∨ ¬stops → EndsAs (exec .stopTimerExpiry s) s)) ∧
  (∀ s : State,
    let couldPass := s.anyFull = false ∧ (∀ e ∈ s.shut, e.2.kind = .shaft → e.2.state = .open) ∧
      ∃ a e, s.driveStation = some a ∧ tget s.reg.stations a = some e ∧ e.presence = .present
    let idle := fun (p : Paternoster) =>
      { p with state := .idle, resumeTimer := none, remembered := none, start := none }
    (s.pat.resumeTimer.isSome = true → s.pat.state = .held →
      (couldPass → EndsAs (exec .resumeTimerExpiry s) (s.onPat fun p =>
        { (idle p).place .run with start := p.remembered })) ∧
      (¬couldPass → EndsAs (exec .resumeTimerExpiry s) (s.onPat fun p => { idle p with mark := true }))) ∧
    (s.pat.resumeTimer = none ∨ s.pat.state ≠ .held → EndsAs (exec .resumeTimerExpiry s) s)) ∧
  ∀ (p : Paternoster) (g : Geometry), p.geometry = some g →
    let ready := p.state = .held ∧ p.resumeTimer = none ∧ p.chain.motion = .stopped ∧
      ∀ l ∈ p.landings, l.2.tripped = false
    (ready → p.tryResumeTimer = { p with resumeTimer := some (g.resumeDelay * 125000) }) ∧
    (¬ready → p.tryResumeTimer = p)

/-- The timers of a shutter (R74, R78, R79, R83). The warn timer's expiry takes a DEPARTMENT shutter into DESCENDING
with a Drop, and a SHAFT shutter by the landing judgment: CLEAR into DESCENDING, BLOCKED into OBSTRUCTED by a car,
NOT_STOPPED back to AWAIT_CLEAR, handed to the Monitor when its reason is FIRE (R81). The travel timer's expiry faults
with TRAVEL_TIMEOUT. The retry timer's expiry drops again up to three attempts, and then faults with RETRIES_SPENT. In
another state, or with no timer running, nothing changes (log 3); a timer that runs expires when that is commanded
(log 2). -/
def Obligations.ShutterTimers : Prop :=
  ∀ (i : Nat) (e : Shutter) (s : State), tget s.shut i = some e → (s.shut.map Prod.fst).Nodup →
    let descending := fun (x : Shutter) =>
      { x with state := .descending, timer := some (x.travelLimit * 125000), obstruction := none,
               fault := none, prior := none, slot := some .drop }
    let faulted := fun (k : FaultCause) (x : Shutter) =>
      { x with state := .faulted, timer := none, slot := none, prior := none, obstruction := none, fault := some k }
    let bare := fun (x : Shutter) => { x with timer := none, obstruction := none, fault := none, prior := none }
    let running := e.timer.isSome = true
    (running → e.state = .warning →
      let ends := EndsAs (exec (.warnTimerExpiry i) s)
      (e.kind = .department ∨ s.pat.judgeShutter e = .clear → ends (onShutter s i descending)) ∧
      (e.kind = .shaft → s.pat.judgeShutter e = .blocked →
        ends (onShutter s i fun x => { bare x with state := .obstructed, obstruction := some .car })) ∧
      ∀ f, e.kind = .shaft → e.landing = some f → s.pat.judge f = .notStopped →
        let waiting := onShutter s i fun x => { bare x with state := .awaitClear, mark := true }
        (e.reason = .fire → ends (addLanding f waiting)) ∧ (e.reason ≠ .fire → ends waiting)) ∧
    (running → e.state = .descending ∨ e.state = .raising →
      EndsAs (exec (.travelTimerExpiry i) s) (onShutter s i (faulted .travelTimeout))) ∧
    (running → e.state = .obstructed →
      (e.attempts < 3 → EndsAs (exec (.retryTimerExpiry i) s)
        (onShutter s i fun x => { descending x with attempts := x.attempts + 1 })) ∧
      (3 ≤ e.attempts → EndsAs (exec (.retryTimerExpiry i) s) (onShutter s i (faulted .retriesSpent)))) ∧
    (¬running ∨ e.state ≠ .warning → EndsAs (exec (.warnTimerExpiry i) s) s) ∧
    (¬running ∨ (e.state ≠ .descending ∧ e.state ≠ .raising) → EndsAs (exec (.travelTimerExpiry i) s) s) ∧
    (¬running ∨ e.state ≠ .obstructed → EndsAs (exec (.retryTimerExpiry i) s) s)

/-- The panel timer's expiry makes it lost from now (R167). The midnight step of a SET clock moves it to second 0 of
the next weekday, makes a FINISHED or ABORTED closing WAITING, and looks at the automatic start when the new day's
minute is 0 (R136). The automatic start, in a WAITING closing while ARMED, starts it, or aborts it while a zone is in
FULL_ALARM (R140). At the next step's offset comes the step check, which takes no step before it; after END, or the
last, the closing is FINISHED at level 0 (R143). A CHIME step waits while an amplifier it names, its station not
MISSING, is not IDLE or both generators are PLAYING, a PHRASE step while such an amplifier is not IDLE; it then keeps
what it waits on. Any other step whose offset has come is taken, and the same check looks at the next (R143). A taken
step acts by kind (R144): CHIME gates its amplifiers to the IDLE generator of lower number (R150), PHRASE places the
phrase on its floors, a GATED amplifier leaving its generator's gated set (R147, R150) and an owed fire phrase dropped
(log 10), RING queues a CLOSING request at priority 5 for each ringer named (R115; orders of log 56), LEVEL sets the
closing level, a fall of the effective one being a dispatch occasion (R103), RUNOUT makes a RUNNING paternoster RUNOUT
(R27), and NIGHT closes each OPEN shutter with the night flag on its floors (R86): WARNING for a DEPARTMENT shutter,
and for a SHAFT shutter what the judgment of its landing says, which acts on all that wait there (R81). An empty
programme finishes at its start (R140). An abandoned closing is ABORTED, its requests, rings, level, chimes and gates
withdrawn (R115, R145, R151), without a Gate off to a MISSING station (log 11), and a GATED amplifier owed a fire
phrase gets it (R148). The model's choices: the clock or running time is then at the instant commanded, an expiry acts
whatever time is left, an impossible event does nothing, and the seconds to the return are absent after a loss (logs
2, 3, 4, 28, 46). -/
def Obligations.PanelClockAndStepMoments : Prop :=
  let look := fun (w : State) =>
    if w.armed = true ∧ w.ann.closing = .waiting then
      (if w.anyFull = true then abandonClosing w else startClosing w)
    else w
  (∀ s : State,
    (s.reg.panelTimer = none → EndsAs (exec .panelTimerExpiry s) s) ∧
    (s.reg.panelTimer.isSome = true → EndsAs (exec .panelTimerExpiry s)
      (s.onReg fun r => { r with panelTimer := none, panelLost := true, lostTime := some s.now, awaySecs := none }))) ∧
  (∀ s : State,
    (s.ann.clock.set = false → EndsAs (exec .midnightStep s) s ∧ EndsAs (exec .automaticStart s) s) ∧
    (s.ann.clock.set = true →
      let day := (s.ann.clock.weekday + 1) % 7
      let next := s.onAnn fun a => { a with
        clock := { set := true, second := 0, weekday := day, sub := 0 }
        closing := if a.closing = .finished ∨ a.closing = .aborted then .waiting else a.closing
        mark := if a.closing = .finished ∨ a.closing = .aborted then true else a.mark }
      (tget s.ann.days day ≠ some 0 → EndsAs (exec .midnightStep s) next) ∧
      (tget s.ann.days day = some 0 → EndsAs (exec .midnightStep s) (look next)) ∧
      (tget s.ann.days s.ann.clock.weekday = none → EndsAs (exec .automaticStart s) s) ∧
      ∀ m, tget s.ann.days s.ann.clock.weekday = some m →
        (60 * m ≤ s.ann.clock.second → EndsAs (exec .automaticStart s) s) ∧
        (s.ann.clock.second < 60 * m → EndsAs (exec .automaticStart s)
          (look (s.onAnn fun a => { a with clock := { a.clock with second := 60 * m, sub := 0 } }))))) ∧
  (∀ (s : State) (t0 i : Nat) (st : Step), s.ann.closing = .running → s.ann.startTime = some t0 →
    s.ann.nextStep = some i → tget s.ann.programme i = some st →
    EndsAs (exec .stepOffsetReached s)
      (stepCheck (s.onMgmt fun m => { m with time := max m.time ((t0 + st.offset) * 125000) })) ∧
    (s.now - t0 < st.offset → stepCheck s = s) ∧
    (st.offset ≤ s.now - t0 → st.kind = .finish →
      (stepCheck s).ann.closing = .finished ∧ (stepCheck s).ann.startTime = none ∧
      (stepCheck s).ann.nextStep = none ∧ (stepCheck s).call.closingLevel = 0)) ∧
  (∀ s : State, s.ann.closing ≠ .running → EndsAs (exec .stepOffsetReached s) s) ∧
  -- the step check
  (∀ (s : State) (t0 i n : Nat) (st : Step), s.ann.closing = .running → s.ann.startTime = some t0 →
    s.ann.nextStep = some i → tget s.ann.programme i = some st → st.offset ≤ s.now - t0 →
    let named := fun (mask : FloorSet) =>
      s.ann.amps.filter fun e => mask.getLsbD e.1 && !s.missing e.2.station
    let busy := fun (mask : FloorSet) =>
      ((named mask).filter fun e => (tget s.ann.amps e.1).any fun a => a.state != .idle).map Prod.fst
    let waits : Bool × List Nat := match st.kind with
      | .chime _ mask => (!(named mask).isEmpty && s.ann.gen0.isSome && s.ann.gen1.isSome, busy mask)
      | .phrase _ mask => (false, busy mask)
      | _ => (false, [])
    let floors : FloorSet := waits.2.foldl (fun m f => m ||| BitVec.twoPow 8 f) 0
    let kept := waits.1 = true ∨ floors ≠ 0
    let taken := stepEffect st.kind (s.onAnn fun a => { a with waitGen := false, waitFloors := 0, mark := true })
    let later := (s.ann.programme.map Prod.fst).find? fun j => decide (i < j)
    stepCheck s = stepChecks 33 s ∧
    (kept → stepChecks (n + 1) s = s.onAnn fun a =>
      { a with waitGen := waits.1, waitFloors := floors
               mark := a.mark || a.waitGen != waits.1 || a.waitFloors != floors }) ∧
    (¬kept →
      (st.kind = .finish ∨ later = none → stepChecks (n + 1) s = finishClosing taken) ∧
      ∀ j, st.kind ≠ .finish → later = some j →
        stepChecks (n + 1) s = stepChecks n (taken.onAnn fun a => { a with nextStep := some j }))) ∧
  -- the kinds of step
  (∀ s : State,
    let floors := fun (mask : FloorSet) =>
      (s.ann.amps.filter fun e => mask.getLsbD e.1 && !s.missing e.2.station).map Prod.fst
    let level := fun (n : Nat) (s : State) =>
      let w := s.onCall fun k => { k with
        closingLevel := n, mark := k.mark || max n k.fireLevel != max k.closingLevel k.fireLevel }
      if max n s.call.fireLevel < max s.call.closingLevel s.call.fireLevel then dispatch w else w
    (∀ c mask, stepEffect (.chime c mask) s =
      if floors mask = [] then s
      else
        let g := if s.ann.gen0 = none then 0 else 1
        let p : Playing :=
          { chime := c, gated := (floors mask).foldl (fun m f => m ||| BitVec.twoPow 8 f) 0, sounding := none }
        trySounding g ((floors mask).foldl (fun w f => onAmp w f fun a =>
            { a with state := .gated, origin := some .closing, phrase := none, number := none, phraseTimer := none,
                     gen := some g, slot := some (.gateOn g) })
          (s.onAnn fun a => if g = 0 then { a with gen0 := some p, mark := true }
            else { a with gen1 := some p, mark := true }))) ∧
    (∀ n mask, stepEffect (.phrase n mask) s = (floors mask).foldl (fun w f => placePhrase f .closing n w) s) ∧
    (∀ f a o n, tget s.ann.amps f = some a → placePhrase f o n s = leaveGate f a
      ((onAmp s f fun a =>
          { a with state := .playing, origin := some o, phrase := some n, number := some s.ann.counter,
                   phraseTimer := some (60 * 125000), gen := none, gapTimer := none, owed := false,
                   slot := some (.phrase n s.ann.counter) }).onAnn fun k =>
        { k with counter := if 255 ≤ k.counter then 1 else k.counter + 1 })) ∧
    (∀ f a, (a.gen = none → leaveGate f a s = s) ∧ ∀ g p, a.gen = some g → s.ann.gen g = some p →
      leaveGate f a s = trySounding g (s.onAnn fun k =>
        k.setGen g (some { p with gated := p.gated &&& ~~~(BitVec.twoPow 8 f) }))) ∧
    (∀ p mask, stepEffect (.ring p mask) s =
      ((s.call.ringers.map Prod.fst).filter fun i => mask.getLsbD i).foldl
        (fun w i => joinAndDispatch i p 5 .closing w) s) ∧
    (∀ n, stepEffect (.level n) s = level n s) ∧
    (∀ r, stepEffect (.runout r) s = if s.pat.state = .running
      then s.onPat fun p => { p with state := .runout, revs := some r } else s) ∧
    stepEffect .finish s = s ∧
    finishClosing s = level 0 (s.onAnn fun a =>
      { a with closing := .finished, startTime := none, nextStep := none, waitGen := false, waitFloors := 0,
               mark := true }) ∧
    (s.ann.programme = [] → startClosing s = finishClosing s)) ∧
  (∀ (s : State) (mask : FloorSet), (s.shut.map Prod.fst).Nodup →
    let v := stepEffect (.night mask) s
    let warned := fun (x : Shutter) => if x.warnTime = 0
      then { x with state := .descending, timer := some (x.travelLimit * 125000), slot := some .drop }
      else { x with state := .warning, timer := some (x.warnTime * 125000), slot := some .warn }
    { v with shut := s.shut } = s ∧ v.shut.map Prod.fst = s.shut.map Prod.fst ∧
    ∀ i x, tget s.shut i = some x →
      let night := { x with reason := .night, obstruction := none, fault := none, prior := none }
      let acts := x.night = true ∧ mask.getLsbD x.floor = true ∧ x.state = .open
      let asked := fun f => ∃ j y, tget s.shut j = some y ∧ y.kind = .shaft ∧ y.landing = some f ∧
        y.night = true ∧ mask.getLsbD y.floor = true ∧ y.state = .open
      (¬acts → (∀ f, x.landing = some f → ¬asked f) → tget v.shut i = some x) ∧
      (∀ f, ¬acts → x.landing = some f → asked f → tget v.shut i = tget (handLanding s.pat f s.shut) i) ∧
      (acts → x.kind = .department → tget v.shut i = some (warned night)) ∧
      ∀ f, acts → x.kind = .shaft → x.landing = some f →
        (s.pat.judge f = .clear → tget v.shut i = some (warned { night with mark := true })) ∧
        (s.pat.judge f = .blocked → tget v.shut i = some
          { night with state := .obstructed, obstruction := some .car, timer := none, mark := true }) ∧
        (s.pat.judge f = .notStopped → tget v.shut i = some
          { night with state := .awaitClear, timer := none, mark := true })) ∧
  ∀ s : State,
    let queue := s.call.queue.filter fun r => r.origin != .closing
    let w := { s with
      ann := { s.ann with closing := .aborted, startTime := none, nextStep := none, waitGen := false, waitFloors := 0,
                          mark := true }
      call := { s.call with
        queue := queue, closingLevel := 0, mark := s.call.mark || queue.length != s.call.queue.length
        ringers := s.call.ringers.map fun e => (e.1, match e.2.ring with
          | some (.request r) => if r.origin = .closing then e.2.stop else e.2
          | _ => e.2) } }
    let off := (dispatch (reoffer w)).onAnn fun a =>
      { a with gen0 := none, gen1 := none, mark := true
               amps := a.amps.map fun e => (e.1, if e.2.state = .gated then
                 { e.2 with
                   state := .idle, origin := none, phrase := none, number := none, phraseTimer := none, gen := none
                   slot := if s.missing e.2.station then e.2.slot else some .gateOff }
               else e.2) }
    let due := (s.ann.amps.filter fun e => decide (e.2.state = .gated) && e.2.owed && !s.missing e.2.station).map Prod.fst
    abandonClosing s = if s.issuing = true then due.foldl (fun v f => giveFirePhrase f v) off else off

/-! ## Passes of the board -/

/-- The pass plan (R128, R129). The slots of a pass are, in drive order, those with a lit lamp in row r or r + 4; a
lamp is lit in a scanning pass by its display mode and the flash phase, and in a test pass by its entry (R132). The
pass time is the sum of the slot times and 8 µs for each slot, and never exceeds the limit. With no degrade the drive
times are t1 and t2; at STEP_1 all are t1, and the undegraded pass exceeds the limit; at STEP_2 all are t', the
largest multiple of 16 µs at which the pass stays within the limit, at least 16 µs and below t1, and a pass at t1
exceeds the limit. No lamp is driven longer than the on-time of its display mode. -/
def Obligations.PassPlanAndDegrade : Prop :=
  ∀ (b : Board) (o : OnTimes) (kind : PassKind), 5 ≤ o.limit → o.n1 ≤ o.n2 →
    let p := planPass b o kind
    let t1 := 16 * (o.n1 + 1)
    let t2 := 16 * (o.n2 + 1)
    let plan := fun (f : Display → Nat) =>
      ((List.range 32).filter fun k => (litCell b kind k).isSome || (litCell b kind (k + 32)).isSome).map fun k =>
        ({ row := k / 8, col := k % 8, upper := (litCell b kind k).map f,
           lower := (litCell b kind (k + 32)).map f } : Slot)
    let time := fun (l : List Slot) => (l.map fun x => max (x.upper.getD 0) (x.lower.getD 0) + 8).sum
    let normal := plan fun d => if d = .emphasis then t2 else t1
    let step1 := plan fun _ => t1
    p.kind = kind ∧ p.time = time p.plan ∧ p.time ≤ o.limit * 1000 ∧ p.plan.length = normal.length ∧
    (p.degrade = .none ↔ time normal ≤ o.limit * 1000) ∧ (p.degrade = .none → p.plan = normal ∧ p.reduced = none) ∧
    (p.degrade = .step1 → p.plan = step1 ∧ p.reduced = none) ∧
    (p.degrade = .step2 → o.limit * 1000 < time step1 ∧ ∃ t, p.reduced = some t ∧ p.plan = plan (fun _ => t) ∧
      16 ∣ t ∧ 16 ≤ t ∧ t < t1 ∧ o.limit * 1000 < p.plan.length * (t + 16 + 8)) ∧
    (∃ f : Display → Nat, p.plan = plan f ∧ ∀ d, f d ≤ if d = .emphasis then t2 else t1) ∧
    ∀ k d,
      (litCell b .scan k = some d ↔ b.image[k]? = some d ∧ d ≠ .off ∧ (d = .flash → b.lit = true)) ∧
      (litCell b .test k = some d ↔ d = .emphasis ∧ ∃ a, tget b.layout k = some a ∧ a ≠ .none)

/-- A completed pass is taken into the board pass record, with the pass number raised by 1 modulo 65,536 (R133). After
a scanning pass the next one starts, or the test pass that waits for it (R130, R132); after a test pass the mode is
the return mode, the return mode is absent, and the test-done indication and the mark are set while Port A is sending
(R132). The flash phase changes for 500 ms, a pass in flight keeps its plan, and a waiting board starts a pass when
the new phase or image gives it a slot (R127, R130). With no such pass in flight a completion does nothing (log 3),
and one commanded early completes the pass (log 2). The lamp image (R122, R124 to R126): a cell with no entry or NONE
is OFF; a PUSH cell is OFF with no call of its push, FLASH for a DEFERRED one, and else EMPHASIS for an escalated and
STEADY for another; a ZONE cell is FLASH for a fault in QUIET and in PRE_ALARM, EMPHASIS in FULL_ALARM, STEADY in
ISOLATED; a SHUTTER cell is STEADY in CLOSED, EMPHASIS in OBSTRUCTED and FAULTED, OFF in UNKNOWN and OPEN, and else
FLASH; and a FIXED cell is STEADY while its condition holds. A completed pass marks the board when its degrade step
differs from that of the pass before (R133; the first pass is compared with NONE, log 19), and a test pass always. -/
def Obligations.BoardPassesComplete : Prop :=
  (∀ s : State,
    let taken := fun (p : Pass) (b : Board) => { b with
      pass := none
      record := { number := (b.record.number + 1) % 65536, kind := some p.kind, slots := p.plan.length,
                  time := p.time, degrade := p.degrade, reduced := p.reduced } }
    let passAfter := fun (c : Instr) (p : Pass) => ∃ t, exec c s = .next t ∧ t.board.pass = some p
    (∀ p, s.board.pass = some p →
      (p.kind = .scan → EndsAs (exec .testPassCompletion s) s) ∧
      (p.kind = .test → EndsAs (exec .scanningPassCompletion s) s)) ∧
    (s.board.pass = none → EndsAs (exec .testPassCompletion s) s ∧ EndsAs (exec .scanningPassCompletion s) s) ∧
    (∀ p o, s.board.pass = some p → s.board.settings = some o →
      (p.kind = .scan → s.board.mode = .scanning →
        EndsAs (exec .scanningPassCompletion s) (s.onBoard (taken p)) ∧
        ((planPass s.board o .scan).plan ≠ [] → passAfter .scanningPassCompletion (planPass s.board o .scan))) ∧
      (p.kind = .scan → s.board.mode = .test → (planPass s.board o .test).plan ≠ [] →
        EndsAs (exec .scanningPassCompletion s) (s.onBoard (taken p)) ∧
        passAfter .scanningPassCompletion (planPass s.board o .test)) ∧
      (∀ m, p.kind = .test → s.board.returnMode = some m →
        EndsAs (exec .testPassCompletion s) (s.onBoard fun b => { taken p b with mode := m, returnMode := none }) ∧
        (m = .scanning → (planPass s.board o .scan).plan ≠ [] →
          passAfter .testPassCompletion (planPass s.board o .scan)) ∧
        (s.line.portA.isSome = true → ∃ t, exec .testPassCompletion s = .next t ∧ t.board.testDone = true ∧
          t.board.mark = true))) ∧
    EndsAs (exec .flashPhaseChange s) (s.onBoard fun b => { b with lit := !b.lit, flashTimer := some 62500 }) ∧
    ∃ t, exec .flashPhaseChange s = .next t ∧
      (s.board.pass.isSome = true → t.board.pass = s.board.pass) ∧
      ∀ o, s.board.pass = none → s.board.mode = .scanning → s.board.settings = some o →
        t.board.pass = if (planPass t.board o .scan).plan = [] then none else some (planPass t.board o .scan)) ∧
  (∀ (b : Board) (p : Pass),
    (b.recordPass p).mark = (b.mark || b.record.degrade != p.degrade) ∧
    (b.completeTest p).mark = true ∧ (b.completeTest p).testDone = true) ∧
  ∀ (s : State) (k : Nat),
    let shows := fun (a : Assignment) (d : Display) => tget s.board.layout k = some a → cellMode s k = d
    let fixed := fun (f : Fixed) (p : Prop) => (p → shows (.fixed f) .steady) ∧ (¬p → shows (.fixed f) .off)
    imageOf s = (List.range 64).map (cellMode s) ∧
    (tget s.board.layout k = none → cellMode s k = .off) ∧ shows .none .off ∧
    (∀ i, (∀ c ∈ s.call.calls, c.push ≠ i) → shows (.push i) .off) ∧
    (∀ i c, s.call.calls.find? (fun c => c.push == i) = some c →
      (c.state = .deferred → shows (.push i) .flash) ∧
      (c.state ≠ .deferred → c.escalated = true → shows (.push i) .emphasis) ∧
      (c.state ≠ .deferred → c.escalated = false → shows (.push i) .steady)) ∧
    (∀ i z, tget s.fire.zones i = some z →
      (z.state = .quiet → z.fault = true → shows (.zone i) .flash) ∧
      (z.state = .quiet → z.fault = false → shows (.zone i) .off) ∧
      (z.state = .preAlarm → shows (.zone i) .flash) ∧
      (z.state = .fullAlarm → shows (.zone i) .emphasis) ∧ (z.state = .isolated → shows (.zone i) .steady)) ∧
    (∀ i x, tget s.shut i = some x →
      (x.state = .unknown ∨ x.state = .open → shows (.shutter i) .off) ∧
      (x.state = .closed → shows (.shutter i) .steady) ∧
      (x.state = .awaitClear ∨ x.state = .warning ∨ x.state = .descending ∨ x.state = .raising →
        shows (.shutter i) .flash) ∧
      (x.state = .obstructed ∨ x.state = .faulted → shows (.shutter i) .emphasis)) ∧
    fixed .paternosterLocked (s.pat.state = .locked) ∧ fixed .listFull (s.call.listFull = true) ∧
    fixed .panelLost (s.reg.panelLost = true) ∧
    fixed .stationMissing (∃ e ∈ s.reg.stations, e.2.presence = .missing) ∧
    fixed .closing (s.ann.closing = .running)

/-! ## Transmissions and the poll schedule -/

/-- The completion of an order's transmission frees Port B (R179). That of a Poll leaves it outstanding with the
answer window (R162), 0 should the line settings be absent by then (log 31). That on Port A changes no record, and the
next frame begins: the reply, or after 4 frames of the part's own with reports waiting the oldest of these (R180).
With no such transmission the first two do nothing (log 3). The poll schedule takes, of the stations of the present
cycle above its position, the one of least address, then the next cycle's; FAST stations are in every cycle, SLOW ones
in every fourth (R161). The Port B arbiter takes the poll once 4 orders have been sent since the last, and otherwise
an order, of the drive, the shutters, amplifiers, ringers and then the forwarded ones, and with none waiting the poll
(R179); while Port B is free it goes on, after a discard from the top (log 42). An order taken is sent and counted, up
to 4; a Poll, source 240, tag 0, no payload, makes the count 0 (R162, R179, R193). At its taking (R175): a Run whose
conditions fail leaves no start record (R7, R11); a Stop-At carries the target searched again (R38); a Drop to a SHAFT
shutter whose landing is not judged CLEAR is discarded, a DESCENDING shutter being OBSTRUCTED by a car or back in
AWAIT_CLEAR (R81, R82); a Raise to a FIRE shutter with a zone in alarm is discarded, a RAISING shutter returning to
its prior state (R88), but one to 255 changes none (log 25); a Ring below the effective level is discarded, its ringer
IDLE and its request back in the queue (R107), but is not checked once its ringer is IDLE (log 12); a Gate on, once no
other of its generator is unsent, starts the chime (R150); and a panel order discarded so fills the veto slot with the
stage SENDING. On Port A the notices go in the order Zone, Shutter, Paternoster, Station, panel, Call, Closing, Veto,
Board, lowest index first, each clearing its mark, and the Veto notice its slot (R180, R191, R192). -/
def Obligations.TransmissionsAndPollSchedule : Prop :=
  (∀ s : State,
    let occupied := fun b => s.onLine fun l => { l with portB := b }
    (∀ o, s.line.portB = .sending o → EndsAs (exec .orderTransmissionComplete s) (occupied .free)) ∧
    ((∀ o, s.line.portB ≠ .sending o) → EndsAs (exec .orderTransmissionComplete s) s) ∧
    (∀ a x, s.line.portB = .polling a → s.reg.settings = some x →
      EndsAs (exec .pollTransmissionComplete s) (occupied (.awaiting a (x.window * 125)))) ∧
    (∀ a, s.line.portB = .polling a → s.reg.settings = none →
      EndsAs (exec .pollTransmissionComplete s) (occupied (.awaiting a 0))) ∧
    ((∀ a, s.line.portB ≠ .polling a) → EndsAs (exec .pollTransmissionComplete s) s) ∧
    EndsAs (exec .portATransmissionComplete s) s ∧
    ∃ t, exec .portATransmissionComplete s = .next t ∧
      (∀ r, s.line.reply = some r → s.line.reports = [] ∨ s.line.localRun < 4 →
        t.line.portA = some r ∧ t.line.reply = none ∧ t.line.reports = s.line.reports) ∧
      ∀ f rest, s.line.reports = f :: rest → 4 ≤ s.line.localRun →
        t.line.portA = some f ∧ t.line.reports = rest ∧ t.line.localRun = 0 ∧ t.line.reply = s.line.reply) ∧
  ((∀ (t : Table Station) (cycle : Nat) (position : Option Nat),
    let candidate := fun a => (∀ p, position = some p → p < a) ∧
      ∃ e, tget t a = some e ∧ (e.cls = .fast ∨ cycle % 4 = 0)
    t.Pairwise (·.1 < ·.1) →
    (∀ a, candidate a → (∀ b, candidate b → a ≤ b) → choosePoll t 5 cycle position = some (cycle, a)) ∧
    ((∀ a, ¬candidate a) → choosePoll t 5 cycle position = choosePoll t 4 ((cycle + 1) % 256) none)) ∧
  ∀ s : State,
    (4 ≤ s.line.orderRun → s.pollDue = true → takeB s = takePoll s) ∧
    (s.line.orderRun < 4 ∨ s.pollDue = false →
      (∀ a o, s.driveStation = some a → s.pat.slot = some o → takeB s = some (takeDrive a o s)) ∧
      (s.pat.slot = none →
        (∀ l i e o r, s.shut = l ++ (i, e) :: r → (∀ x ∈ l, x.2.slot = none) → e.slot = some o →
          takeB s = some (takeShutter i e o s)) ∧
        ((∀ x ∈ s.shut, x.2.slot = none) →
          (∀ l f a o r, s.ann.amps = l ++ (f, a) :: r → (∀ x ∈ l, x.2.slot = none) → a.slot = some o →
            takeB s = some (takeAmp f a o s)) ∧
          ((∀ x ∈ s.ann.amps, x.2.slot = none) →
            (∀ l i g o r, s.call.ringers = l ++ (i, g) :: r → (∀ x ∈ l, x.2.slot = none) → g.slot = some o →
              takeB s = some (takeRinger i g o s)) ∧
            ((∀ x ∈ s.call.ringers, x.2.slot = none) →
              (∀ o rest, s.line.orders = o :: rest → takeB s = some (takeForwarded o rest s)) ∧
              (s.line.orders = [] → takeB s = if s.pollDue = true then takePoll s else none))))))) ∧
  -- the arbiter and what it takes
  (∀ (s : State) (n : Nat),
    (s.line.portB ≠ .free → arbiterB (n + 1) s = s) ∧
    (s.line.portB = .free → (takeB s = none → arbiterB (n + 1) s = s) ∧
      ∀ t, takeB s = some t → arbiterB (n + 1) s = arbiterB n t) ∧
    (s.pollDue = true ↔ s.reg.settings.isSome = true ∧ s.reg.stations ≠ []) ∧
    ∀ c a, choosePoll s.reg.stations 5 s.line.cycle s.line.position = some (c, a) →
      takePoll s = some (s.onLine fun l =>
        { l with cycle := c, position := some a, portB := .polling a, orderRun := 0 })) ∧
  (∀ (o : Order) (a w : Nat),
    frameOnB (.sending o) = some o.frame ∧
    frameOnB (.polling a) = some { dst := byteOf a, src := 240, kind := 65, tag := 0, payload := [] } ∧
    frameOnB .free = none ∧ frameOnB (.awaiting a w) = none) ∧
  (∀ s : State,
    let put := fun (o : Order) (w : State) =>
      w.onLine fun l => { l with portB := .sending o, orderRun := min (l.orderRun + 1) 4 }
    let sent := fun (a : Nat) (b : OrderBody) => put ⟨{ dst := byteOf a, src := 240, tag := 0 }, b⟩
    let couldRun := s.armed = true ∧ s.pat.state = .idle ∧ s.pat.start.isSome = true ∧ s.anyFull = false ∧
      (∀ e ∈ s.shut, e.2.kind = .shaft → e.2.state = .open) ∧ ∃ a, s.driveStation = some a ∧ s.present a = true
    -- what becomes of shutter `i`, DESCENDING or RAISING, in `w` when its Drop or Raise is discarded
    let dropped := fun (blocked : Prop) (i : Nat) (e : Shutter) (w v : State) =>
      (e.state ≠ .descending → v = w) ∧
      (e.state = .descending →
        (blocked → v = onShutter w i fun x =>
          { x with state := .obstructed, obstruction := some .car, timer := none, fault := none, prior := none }) ∧
        (¬blocked → ∀ f, e.landing = some f →
          let waiting := onShutter w i fun x =>
            { x with state := .awaitClear, timer := none, obstruction := none, fault := none, prior := none,
                     mark := true }
          (e.reason = .fire → v = addLanding f waiting) ∧ (e.reason ≠ .fire → v = waiting)))
    let lowered := fun (i : Nat) (e : Shutter) (w v : State) =>
      (e.state ≠ .raising → v = w) ∧
      (e.state = .raising →
        (e.prior = some .closed → v = onShutter w i fun x =>
          { x with state := .closed, timer := none, attempts := 0, obstruction := none, fault := none, prior := none }) ∧
        (e.prior = some (.obstructed .car) → v = onShutter w i fun x =>
          { x with state := .obstructed, obstruction := some .car, timer := none, fault := none, prior := none }) ∧
        (e.prior = some (.obstructed .jam) → v = onShutter w i fun x =>
          { x with state := .obstructed, obstruction := some .jam, fault := none, prior := none,
                   timer := if x.kind = .department ∧ x.reason ≠ .none then some (10 * 125000) else none }) ∧
        ∀ c, e.prior = some (.faulted c) → v = onShutter w i fun x =>
          { x with state := .faulted, timer := none, slot := none, prior := none, obstruction := none, fault := some c })
    let held := fun (e : Shutter) => e.reason = .fire ∧ e.inZone s.zoneAlarm = true
    -- the drive order slot
    (∀ a, let w := s.onPat fun p => { p with slot := none }
      (couldRun → takeDrive a .run s = sent a .run w) ∧
      (¬couldRun → takeDrive a .run s = w.onPat fun p => { p with start := none, mark := true }) ∧
      takeDrive a .halt s = sent a .halt w ∧ takeDrive a .cut s = sent a .cut w ∧
      ∀ t, ((∀ r, s.pat.stop = some r → r.searched = none) → takeDrive a (.stopAt t) s = sent a (.stopAt t) w) ∧
        ∀ g r k, s.pat.geometry = some g → s.pat.stop = some r → r.searched = some k →
          let again := (stopTarget g s.pat k).1
          takeDrive a (.stopAt t) s =
            sent a (.stopAt again) (w.onPat fun p => { p with stop := some { r with target := some again } })) ∧
    -- a shutter's slot
    (∀ i e, tget s.shut i = some e → (s.shut.map Prod.fst).Nodup →
      let w := onShutter s i fun x => { x with slot := none }
      takeShutter i e .warn s = sent e.station .warn w ∧
      (e.kind = .department → takeShutter i e .drop s = sent e.station .drop w) ∧
      (e.kind = .shaft →
        (s.armed = false → takeShutter i e .drop s = w) ∧
        (s.armed = true →
          (s.pat.judgeShutter e = .clear → takeShutter i e .drop s = sent e.station .drop w) ∧
          (s.pat.judgeShutter e ≠ .clear →
            dropped (s.pat.judgeShutter e = .blocked) i e w (takeShutter i e .drop s)))) ∧
      (held e → lowered i e w (takeShutter i e .raise s)) ∧
      (¬held e → takeShutter i e .raise s = sent e.station .raise w)) ∧
    -- a ringer's slot
    (∀ i g a b n, tget s.call.ringers i = some g →
      let w := onRinger s i fun x => { x with slot := none }
      let low := (∃ r, g.ring = some (.request r) ∧ r.priority < max s.call.closingLevel s.call.fireLevel) ∨
        ((∃ x y, g.ring = some (.panel x y)) ∧ 7 < max s.call.closingLevel s.call.fireLevel)
      (¬low → takeRinger i g (.ring a b n) s = sent g.station (.ring (byteOf a) (byteOf b) (byteOf n)) w) ∧
      (low → takeRinger i g (.ring a b n) s = dispatch (rejoin g.ring (onRinger s i fun x =>
        { x with ring := none, number := none, timer := none, slot := none }))) ∧
      takeRinger i g .cancel s = sent g.station .ringCancel w) ∧
    -- an amplifier's slot
    (∀ f a p n g,
      let w := onAmp s f fun x => { x with slot := none }
      takeAmp f a (.phrase p n) s = sent a.station (.phrase (byteOf p) (byteOf n)) w ∧
      takeAmp f a .gateOff s = sent a.station (.gate 0) w ∧
      takeAmp f a (.gateOn g) s = trySounding g (sent a.station (.gate (byteOf (g + 1))) w)) ∧
    (∀ g p, s.ann.gen g = some p →
      let unsent := ∃ f, p.gated.getLsbD f = true ∧ ∃ a, tget s.ann.amps f = some a ∧ ∃ x, a.slot = some (.gateOn x)
      (p.sounding.isSome = true ∨ unsent → trySounding g s = s) ∧
      ∀ c n, p.sounding = none → ¬unsent → tget s.ann.chimes p.chime = some c → c.notes.head? = some n →
        trySounding g s = s.onAnn fun k => k.setGen g (some
          { p with sounding := some { round := 1, note := 0, inGap := false, left := n.duration * 1250 } })) ∧
    -- the head of the forwarded-order FIFO
    ∀ (h : Hdr) (b : OrderBody) (rest : List Order),
      let o : Order := ⟨h, b⟩
      let w := s.onLine fun l => { l with orders := rest }
      let v := takeForwarded o rest s
      let vetoed := fun (r : VetoReason) (x : State) => x.onLine fun l => { l with
        veto := some { dst := h.dst, kind := byteOf (64 + b.code), reason := r, stage := .sending }, vetoMark := true }
      let at' := fun i e => shutterAt s h.dst.toNat = some i ∧ tget s.shut i = some e ∧ (s.shut.map Prod.fst).Nodup;
      (b ≠ .run → b ≠ .drop → b ≠ .raise → v = put o w) ∧
      (b = .run → (couldRun → v = put o w) ∧
        (¬couldRun → ∃ r, v = vetoed r (w.onPat fun p => { p with start := none }) ∧
          (r = .notArmed ↔ s.armed = false) ∧
          (r = .fire ↔ s.armed = true ∧ s.pat.state = .idle ∧ s.anyFull = true) ∧
          (r = .shutterNotOpen ↔ s.armed = true ∧ s.pat.state = .idle ∧ s.anyFull = false ∧
            ∃ e ∈ s.shut, e.2.kind = .shaft ∧ e.2.state ≠ .open) ∧
          (r = .notArmed ∨ r = .fire ∨ r = .shutterNotOpen ∨ r = .chainNotIdle))) ∧
      (b = .drop → h.dst = 255 →
        (s.anyShaft = false → v = put o w) ∧
        (s.anyShaft = true → shutterAt s 255 = none →
          v = vetoed (if s.armed then .forbiddenKind else .notArmed) w)) ∧
      (b = .drop → h.dst ≠ 255 →
        (shutterAt s h.dst.toNat = none → v = put o w) ∧
        ∀ i e, at' i e →
          (e.kind = .department → v = put o w) ∧
          (e.kind = .shaft →
            (s.armed = false → v = vetoed .notArmed w) ∧
            (s.armed = true →
              (s.pat.judgeShutter e = .clear → v = put o w) ∧
              (s.pat.judgeShutter e ≠ .clear → ∃ x, dropped (s.pat.judgeShutter e = .blocked) i e w x ∧
                v = vetoed (if s.pat.judgeShutter e = .blocked then .landingBlocked else .chainMoving) x)))) ∧
      (b = .raise → h.dst = 255 → shutterAt s 255 = none →
        ((∀ e ∈ s.shut, ¬held e.2) → v = put o w) ∧
        ((∃ e ∈ s.shut, held e.2) → v = vetoed .zoneInAlarm w)) ∧
      (b = .raise → h.dst ≠ 255 →
        (shutterAt s h.dst.toNat = none → v = put o w) ∧
        ∀ i e, at' i e → (¬held e → v = put o w) ∧
          (held e → ∃ x, lowered i e w x ∧ v = vetoed .zoneInAlarm x))) ∧
  -- the notices on Port A
  ∀ s : State,
    let frame (c : Nat) (payload : List Byte) : Frame :=
      { dst := noticeDst s, src := 240, kind := byteOf (160 + c), tag := 0, payload := payload }
    let noZone := ∀ e ∈ s.fire.zones, e.2.mark = false
    let noShutter := noZone ∧ ∀ e ∈ s.shut, e.2.mark = false
    let noPat := noShutter ∧ s.pat.mark = false
    let noStation := noPat ∧ ∀ e ∈ s.reg.stations, e.2.mark = false
    let noPanel := noStation ∧ s.reg.panelMark = false
    let noCall := noPanel ∧ s.call.mark = false
    let noClosing := noCall ∧ s.ann.mark = false
    let noVeto := noClosing ∧ (s.line.vetoMark = false ∨ s.line.veto = none)
    (∀ x, s.reg.settings = some x → noticeDst s = byteOf x.panel) ∧
    (∀ a, s.reg.settings = none → s.mgmt.lastPanel = some a → noticeDst s = byteOf a) ∧
    (s.reg.settings = none → s.mgmt.lastPanel = none → noticeDst s = 255) ∧
    (∀ l z e r, s.fire.zones = l ++ (z, e) :: r → (∀ x ∈ l, x.2.mark = false) → e.mark = true →
      takeNotice s = some (frame 1 (zonePayload s z e), onZone s z fun e => { e with mark := false })) ∧
    (∀ l i e r, noZone → s.shut = l ++ (i, e) :: r → (∀ x ∈ l, x.2.mark = false) → e.mark = true →
      takeNotice s = some (frame 2 (shutterPayload i e), onShutter s i fun e => { e with mark := false })) ∧
    (noShutter → s.pat.mark = true →
      takeNotice s = some (frame 3 (patPayload s.pat), s.onPat fun p => { p with mark := false })) ∧
    (∀ l a e r, noPat → s.reg.stations = l ++ (a, e) :: r → (∀ x ∈ l, x.2.mark = false) → e.mark = true →
      takeNotice s = some (frame 4 (stationPayload a e), onStation s a fun e => { e with mark := false })) ∧
    (noStation → s.reg.panelMark = true →
      takeNotice s = some (frame 4 (panelPayload s.reg), s.onReg fun r => { r with panelMark := false })) ∧
    (noPanel → s.call.mark = true →
      takeNotice s = some (frame 5 (callPayload s.call), s.onCall fun u => { u with mark := false })) ∧
    (noCall → s.ann.mark = true →
      takeNotice s = some (frame 6 (closingPayload s), s.onAnn fun u => { u with mark := false })) ∧
    (∀ x, noClosing → s.line.vetoMark = true → s.line.veto = some x →
      takeNotice s = some (frame 7 (vetoPayload x), s.onLine fun l => { l with veto := none, vetoMark := false })) ∧
    (noVeto → s.board.mark = true → takeNotice s =
      some (frame 8 (boardPayload s.board), s.onBoard fun b => { b with mark := false, testDone := false })) ∧
    (noVeto → s.board.mark = false → takeNotice s = none) ∧
    (s.line.portA = none →
      let count := min (s.line.localRun + 1) 4
      (∀ f rest, s.line.reports = f :: rest →
        4 ≤ s.line.localRun ∨ (s.line.reply = none ∧ takeNotice s = none) →
        arbiterA s = s.onLine fun l => { l with portA := some f, reports := rest, localRun := 0 }) ∧
      (s.line.reports = [] ∨ s.line.localRun < 4 →
        (∀ f, s.line.reply = some f →
          arbiterA s = s.onLine fun l => { l with portA := some f, reply := none, localRun := count }) ∧
        (∀ f t, s.line.reply = none → takeNotice s = some (f, t) →
          arbiterA s = t.onLine fun l => { l with portA := some f, localRun := count })) ∧
      (s.line.reports = [] → s.line.reply = none → takeNotice s = none → arbiterA s = s)) ∧
    (s.line.portA.isSome = true → arbiterA s = s)

end
end

