-- ==== Sys2Proof/Laws/Tables.lean ====
section
/-! SUPPORT. What the table operations do, entry by entry. -/

namespace Sys2Proof.Machine

variable {α : Type}

@[simp] theorem tget_nil (i : Nat) : tget ([] : Table α) i = none := rfl

/-- After a write, the index written holds the entry and every other index what it held. -/
@[simp] theorem tget_tput (t : Table α) (i j : Nat) (v : α) :
    tget (tput t i v) j = if i = j then some v else tget t j := by
  induction t with
  | nil => simp [tput, tget]
  | cons e t ih =>
    obtain ⟨k, w⟩ := e
    simp only [tput]
    split
    · simp [tget]
    · split
      · subst_vars; simp only [tget]; split <;> simp_all
      · simp only [tget, ih]; split <;> split <;> simp_all

/-- After a deletion, the index holds nothing and every other index what it held. -/
@[simp] theorem tget_tdel (t : Table α) (i j : Nat) :
    tget (tdel t i) j = if i = j then none else tget t j := by
  induction t with
  | nil => simp [tdel]
  | cons e t ih =>
    obtain ⟨k, w⟩ := e
    simp only [tdel]
    split
    · rw [ih]; subst_vars; split
      · rfl
      · simp_all [tget]
    · simp only [tget, ih]; split <;> split <;> simp_all

/-- Changing one entry changes that entry only. -/
@[simp] theorem tget_tmod (t : Table α) (i j : Nat) (f : α → α) :
    tget (tmod t i f) j = if i = j then (tget t j).map f else tget t j := by
  induction t with
  | nil => simp [tmod]
  | cons e t ih =>
    obtain ⟨k, w⟩ := e
    simp only [tmod]
    split <;> (simp only [tget, ih]; split <;> split <;> simp_all)

/-- Changing every entry changes each by the function given. -/
@[simp] theorem tget_tmap (t : Table α) (j : Nat) (f : Nat → α → α) :
    tget (tmap t f) j = (tget t j).map (f j) := by
  induction t with
  | nil => simp [tmap]
  | cons e t ih =>
    obtain ⟨k, w⟩ := e
    simp only [tmap, tget, ih]
    split <;> simp_all

/-- Two changes of every entry are one. -/
@[simp] theorem tmap_tmap (t : Table α) (f g : Nat → α → α) :
    tmap (tmap t f) g = tmap t fun i v => g i (f i v) := by
  induction t with
  | nil => rfl
  | cons e t ih => obtain ⟨k, w⟩ := e; simp [tmap, ih]

/-- A change of one entry followed by a change of every entry. -/
theorem tmap_tmod (t : Table α) (i : Nat) (f : α → α) (g h : Nat → α → α)
    (hg : ∀ v, h i (f v) = g i v) (hne : ∀ j v, h j v = g j v) :
    tmap (tmod t i f) h = tmap t g := by
  induction t with
  | nil => rfl
  | cons e t ih =>
    obtain ⟨k, w⟩ := e
    simp only [tmod]
    split <;> simp_all [tmap]

/-- A change that leaves every entry as it is leaves the table. -/
theorem tmap_id (t : Table α) (f : Nat → α → α) (h : ∀ i v, f i v = v) : tmap t f = t := by
  induction t with
  | nil => rfl
  | cons e t ih => obtain ⟨k, w⟩ := e; simp [tmap, ih, h]

/-- No operation but a write and a deletion changes which indices are present. -/
@[simp] theorem tmap_map_fst (t : Table α) (f : Nat → α → α) :
    (tmap t f).map Prod.fst = t.map Prod.fst := by
  induction t with
  | nil => rfl
  | cons e t ih => obtain ⟨k, w⟩ := e; simp [tmap, ih]

@[simp] theorem tmod_map_fst (t : Table α) (i : Nat) (f : α → α) :
    (tmod t i f).map Prod.fst = t.map Prod.fst := by
  induction t with
  | nil => rfl
  | cons e t ih => obtain ⟨k, w⟩ := e; simp only [tmod]; split <;> simp [ih]

@[simp] theorem tmap_length (t : Table α) (f : Nat → α → α) : (tmap t f).length = t.length := by
  induction t with
  | nil => rfl
  | cons e t ih => obtain ⟨k, w⟩ := e; simp [tmap, ih]

/-- Whether some entry meets a predicate, after a change of every entry. -/
@[simp] theorem tany_tmap (t : Table α) (f : Nat → α → α) (p : α → Bool)
    (h : ∀ i v, p (f i v) = p v) : tany (tmap t f) p = tany t p := by
  induction t with
  | nil => rfl
  | cons e t ih => obtain ⟨k, w⟩ := e; simp_all [tmap, tany]

/-- The indices whose entries meet a predicate, after a change of every entry that keeps it. -/
@[simp] theorem tkeys_tmap (t : Table α) (f : Nat → α → α) (p : α → Bool)
    (h : ∀ i v, p (f i v) = p v) : tkeys (tmap t f) p = tkeys t p := by
  induction t with
  | nil => rfl
  | cons e t ih =>
    obtain ⟨k, w⟩ := e
    simp only [tkeys, tmap, List.filter_cons, h] at ih ⊢
    split <;> simp_all

end Sys2Proof.Machine
end

