-- ==== Sys2Proof/Laws/State.lean ====
section
/-! SUPPORT. One lemma per field per update of one unit of the state: each true by rfl. -/

namespace Sys2Proof.Machine

@[simp] theorem State.onLine_line (s : State) (f : LineUnit → LineUnit) : (s.onLine f).line = f s.line := rfl
@[simp] theorem State.onLine_reg (s : State) (f : LineUnit → LineUnit) : (s.onLine f).reg = s.reg := rfl
@[simp] theorem State.onLine_pat (s : State) (f : LineUnit → LineUnit) : (s.onLine f).pat = s.pat := rfl
@[simp] theorem State.onLine_fire (s : State) (f : LineUnit → LineUnit) : (s.onLine f).fire = s.fire := rfl
@[simp] theorem State.onLine_shut (s : State) (f : LineUnit → LineUnit) : (s.onLine f).shut = s.shut := rfl
@[simp] theorem State.onLine_call (s : State) (f : LineUnit → LineUnit) : (s.onLine f).call = s.call := rfl
@[simp] theorem State.onLine_board (s : State) (f : LineUnit → LineUnit) : (s.onLine f).board = s.board := rfl
@[simp] theorem State.onLine_ann (s : State) (f : LineUnit → LineUnit) : (s.onLine f).ann = s.ann := rfl
@[simp] theorem State.onLine_mgmt (s : State) (f : LineUnit → LineUnit) : (s.onLine f).mgmt = s.mgmt := rfl
@[simp] theorem State.onLine_pending (s : State) (f : LineUnit → LineUnit) : (s.onLine f).pending = s.pending := rfl

@[simp] theorem State.onReg_line (s : State) (f : StationRegister → StationRegister) : (s.onReg f).line = s.line := rfl
@[simp] theorem State.onReg_reg (s : State) (f : StationRegister → StationRegister) : (s.onReg f).reg = f s.reg := rfl
@[simp] theorem State.onReg_pat (s : State) (f : StationRegister → StationRegister) : (s.onReg f).pat = s.pat := rfl
@[simp] theorem State.onReg_fire (s : State) (f : StationRegister → StationRegister) : (s.onReg f).fire = s.fire := rfl
@[simp] theorem State.onReg_shut (s : State) (f : StationRegister → StationRegister) : (s.onReg f).shut = s.shut := rfl
@[simp] theorem State.onReg_call (s : State) (f : StationRegister → StationRegister) : (s.onReg f).call = s.call := rfl
@[simp] theorem State.onReg_board (s : State) (f : StationRegister → StationRegister) : (s.onReg f).board = s.board := rfl
@[simp] theorem State.onReg_ann (s : State) (f : StationRegister → StationRegister) : (s.onReg f).ann = s.ann := rfl
@[simp] theorem State.onReg_mgmt (s : State) (f : StationRegister → StationRegister) : (s.onReg f).mgmt = s.mgmt := rfl
@[simp] theorem State.onReg_pending (s : State) (f : StationRegister → StationRegister) : (s.onReg f).pending = s.pending := rfl

@[simp] theorem State.onPat_line (s : State) (f : Paternoster → Paternoster) : (s.onPat f).line = s.line := rfl
@[simp] theorem State.onPat_reg (s : State) (f : Paternoster → Paternoster) : (s.onPat f).reg = s.reg := rfl
@[simp] theorem State.onPat_pat (s : State) (f : Paternoster → Paternoster) : (s.onPat f).pat = f s.pat := rfl
@[simp] theorem State.onPat_fire (s : State) (f : Paternoster → Paternoster) : (s.onPat f).fire = s.fire := rfl
@[simp] theorem State.onPat_shut (s : State) (f : Paternoster → Paternoster) : (s.onPat f).shut = s.shut := rfl
@[simp] theorem State.onPat_call (s : State) (f : Paternoster → Paternoster) : (s.onPat f).call = s.call := rfl
@[simp] theorem State.onPat_board (s : State) (f : Paternoster → Paternoster) : (s.onPat f).board = s.board := rfl
@[simp] theorem State.onPat_ann (s : State) (f : Paternoster → Paternoster) : (s.onPat f).ann = s.ann := rfl
@[simp] theorem State.onPat_mgmt (s : State) (f : Paternoster → Paternoster) : (s.onPat f).mgmt = s.mgmt := rfl
@[simp] theorem State.onPat_pending (s : State) (f : Paternoster → Paternoster) : (s.onPat f).pending = s.pending := rfl

@[simp] theorem State.onFire_line (s : State) (f : FireUnit → FireUnit) : (s.onFire f).line = s.line := rfl
@[simp] theorem State.onFire_reg (s : State) (f : FireUnit → FireUnit) : (s.onFire f).reg = s.reg := rfl
@[simp] theorem State.onFire_pat (s : State) (f : FireUnit → FireUnit) : (s.onFire f).pat = s.pat := rfl
@[simp] theorem State.onFire_fire (s : State) (f : FireUnit → FireUnit) : (s.onFire f).fire = f s.fire := rfl
@[simp] theorem State.onFire_shut (s : State) (f : FireUnit → FireUnit) : (s.onFire f).shut = s.shut := rfl
@[simp] theorem State.onFire_call (s : State) (f : FireUnit → FireUnit) : (s.onFire f).call = s.call := rfl
@[simp] theorem State.onFire_board (s : State) (f : FireUnit → FireUnit) : (s.onFire f).board = s.board := rfl
@[simp] theorem State.onFire_ann (s : State) (f : FireUnit → FireUnit) : (s.onFire f).ann = s.ann := rfl
@[simp] theorem State.onFire_mgmt (s : State) (f : FireUnit → FireUnit) : (s.onFire f).mgmt = s.mgmt := rfl
@[simp] theorem State.onFire_pending (s : State) (f : FireUnit → FireUnit) : (s.onFire f).pending = s.pending := rfl

@[simp] theorem State.onShut_line (s : State) (f : Table Shutter → Table Shutter) : (s.onShut f).line = s.line := rfl
@[simp] theorem State.onShut_reg (s : State) (f : Table Shutter → Table Shutter) : (s.onShut f).reg = s.reg := rfl
@[simp] theorem State.onShut_pat (s : State) (f : Table Shutter → Table Shutter) : (s.onShut f).pat = s.pat := rfl
@[simp] theorem State.onShut_fire (s : State) (f : Table Shutter → Table Shutter) : (s.onShut f).fire = s.fire := rfl
@[simp] theorem State.onShut_shut (s : State) (f : Table Shutter → Table Shutter) : (s.onShut f).shut = f s.shut := rfl
@[simp] theorem State.onShut_call (s : State) (f : Table Shutter → Table Shutter) : (s.onShut f).call = s.call := rfl
@[simp] theorem State.onShut_board (s : State) (f : Table Shutter → Table Shutter) : (s.onShut f).board = s.board := rfl
@[simp] theorem State.onShut_ann (s : State) (f : Table Shutter → Table Shutter) : (s.onShut f).ann = s.ann := rfl
@[simp] theorem State.onShut_mgmt (s : State) (f : Table Shutter → Table Shutter) : (s.onShut f).mgmt = s.mgmt := rfl
@[simp] theorem State.onShut_pending (s : State) (f : Table Shutter → Table Shutter) : (s.onShut f).pending = s.pending := rfl

@[simp] theorem State.onCall_line (s : State) (f : CallUnit → CallUnit) : (s.onCall f).line = s.line := rfl
@[simp] theorem State.onCall_reg (s : State) (f : CallUnit → CallUnit) : (s.onCall f).reg = s.reg := rfl
@[simp] theorem State.onCall_pat (s : State) (f : CallUnit → CallUnit) : (s.onCall f).pat = s.pat := rfl
@[simp] theorem State.onCall_fire (s : State) (f : CallUnit → CallUnit) : (s.onCall f).fire = s.fire := rfl
@[simp] theorem State.onCall_shut (s : State) (f : CallUnit → CallUnit) : (s.onCall f).shut = s.shut := rfl
@[simp] theorem State.onCall_call (s : State) (f : CallUnit → CallUnit) : (s.onCall f).call = f s.call := rfl
@[simp] theorem State.onCall_board (s : State) (f : CallUnit → CallUnit) : (s.onCall f).board = s.board := rfl
@[simp] theorem State.onCall_ann (s : State) (f : CallUnit → CallUnit) : (s.onCall f).ann = s.ann := rfl
@[simp] theorem State.onCall_mgmt (s : State) (f : CallUnit → CallUnit) : (s.onCall f).mgmt = s.mgmt := rfl
@[simp] theorem State.onCall_pending (s : State) (f : CallUnit → CallUnit) : (s.onCall f).pending = s.pending := rfl

@[simp] theorem State.onBoard_line (s : State) (f : Board → Board) : (s.onBoard f).line = s.line := rfl
@[simp] theorem State.onBoard_reg (s : State) (f : Board → Board) : (s.onBoard f).reg = s.reg := rfl
@[simp] theorem State.onBoard_pat (s : State) (f : Board → Board) : (s.onBoard f).pat = s.pat := rfl
@[simp] theorem State.onBoard_fire (s : State) (f : Board → Board) : (s.onBoard f).fire = s.fire := rfl
@[simp] theorem State.onBoard_shut (s : State) (f : Board → Board) : (s.onBoard f).shut = s.shut := rfl
@[simp] theorem State.onBoard_call (s : State) (f : Board → Board) : (s.onBoard f).call = s.call := rfl
@[simp] theorem State.onBoard_board (s : State) (f : Board → Board) : (s.onBoard f).board = f s.board := rfl
@[simp] theorem State.onBoard_ann (s : State) (f : Board → Board) : (s.onBoard f).ann = s.ann := rfl
@[simp] theorem State.onBoard_mgmt (s : State) (f : Board → Board) : (s.onBoard f).mgmt = s.mgmt := rfl
@[simp] theorem State.onBoard_pending (s : State) (f : Board → Board) : (s.onBoard f).pending = s.pending := rfl

@[simp] theorem State.onAnn_line (s : State) (f : Announce → Announce) : (s.onAnn f).line = s.line := rfl
@[simp] theorem State.onAnn_reg (s : State) (f : Announce → Announce) : (s.onAnn f).reg = s.reg := rfl
@[simp] theorem State.onAnn_pat (s : State) (f : Announce → Announce) : (s.onAnn f).pat = s.pat := rfl
@[simp] theorem State.onAnn_fire (s : State) (f : Announce → Announce) : (s.onAnn f).fire = s.fire := rfl
@[simp] theorem State.onAnn_shut (s : State) (f : Announce → Announce) : (s.onAnn f).shut = s.shut := rfl
@[simp] theorem State.onAnn_call (s : State) (f : Announce → Announce) : (s.onAnn f).call = s.call := rfl
@[simp] theorem State.onAnn_board (s : State) (f : Announce → Announce) : (s.onAnn f).board = s.board := rfl
@[simp] theorem State.onAnn_ann (s : State) (f : Announce → Announce) : (s.onAnn f).ann = f s.ann := rfl
@[simp] theorem State.onAnn_mgmt (s : State) (f : Announce → Announce) : (s.onAnn f).mgmt = s.mgmt := rfl
@[simp] theorem State.onAnn_pending (s : State) (f : Announce → Announce) : (s.onAnn f).pending = s.pending := rfl

@[simp] theorem State.onMgmt_line (s : State) (f : Mgmt → Mgmt) : (s.onMgmt f).line = s.line := rfl
@[simp] theorem State.onMgmt_reg (s : State) (f : Mgmt → Mgmt) : (s.onMgmt f).reg = s.reg := rfl
@[simp] theorem State.onMgmt_pat (s : State) (f : Mgmt → Mgmt) : (s.onMgmt f).pat = s.pat := rfl
@[simp] theorem State.onMgmt_fire (s : State) (f : Mgmt → Mgmt) : (s.onMgmt f).fire = s.fire := rfl
@[simp] theorem State.onMgmt_shut (s : State) (f : Mgmt → Mgmt) : (s.onMgmt f).shut = s.shut := rfl
@[simp] theorem State.onMgmt_call (s : State) (f : Mgmt → Mgmt) : (s.onMgmt f).call = s.call := rfl
@[simp] theorem State.onMgmt_board (s : State) (f : Mgmt → Mgmt) : (s.onMgmt f).board = s.board := rfl
@[simp] theorem State.onMgmt_ann (s : State) (f : Mgmt → Mgmt) : (s.onMgmt f).ann = s.ann := rfl
@[simp] theorem State.onMgmt_mgmt (s : State) (f : Mgmt → Mgmt) : (s.onMgmt f).mgmt = f s.mgmt := rfl
@[simp] theorem State.onMgmt_pending (s : State) (f : Mgmt → Mgmt) : (s.onMgmt f).pending = s.pending := rfl

@[simp] theorem onZone_line (s : State) (i : Nat) (f : Zone → Zone) : (onZone s i f).line = s.line := rfl
@[simp] theorem onZone_reg (s : State) (i : Nat) (f : Zone → Zone) : (onZone s i f).reg = s.reg := rfl
@[simp] theorem onZone_pat (s : State) (i : Nat) (f : Zone → Zone) : (onZone s i f).pat = s.pat := rfl
@[simp] theorem onZone_shut (s : State) (i : Nat) (f : Zone → Zone) : (onZone s i f).shut = s.shut := rfl
@[simp] theorem onZone_call (s : State) (i : Nat) (f : Zone → Zone) : (onZone s i f).call = s.call := rfl
@[simp] theorem onZone_board (s : State) (i : Nat) (f : Zone → Zone) : (onZone s i f).board = s.board := rfl
@[simp] theorem onZone_ann (s : State) (i : Nat) (f : Zone → Zone) : (onZone s i f).ann = s.ann := rfl
@[simp] theorem onZone_mgmt (s : State) (i : Nat) (f : Zone → Zone) : (onZone s i f).mgmt = s.mgmt := rfl
@[simp] theorem onZone_pending (s : State) (i : Nat) (f : Zone → Zone) : (onZone s i f).pending = s.pending := rfl

@[simp] theorem onShutter_line (s : State) (i : Nat) (f : Shutter → Shutter) : (onShutter s i f).line = s.line := rfl
@[simp] theorem onShutter_reg (s : State) (i : Nat) (f : Shutter → Shutter) : (onShutter s i f).reg = s.reg := rfl
@[simp] theorem onShutter_pat (s : State) (i : Nat) (f : Shutter → Shutter) : (onShutter s i f).pat = s.pat := rfl
@[simp] theorem onShutter_fire (s : State) (i : Nat) (f : Shutter → Shutter) : (onShutter s i f).fire = s.fire := rfl
@[simp] theorem onShutter_call (s : State) (i : Nat) (f : Shutter → Shutter) : (onShutter s i f).call = s.call := rfl
@[simp] theorem onShutter_board (s : State) (i : Nat) (f : Shutter → Shutter) : (onShutter s i f).board = s.board := rfl
@[simp] theorem onShutter_ann (s : State) (i : Nat) (f : Shutter → Shutter) : (onShutter s i f).ann = s.ann := rfl
@[simp] theorem onShutter_mgmt (s : State) (i : Nat) (f : Shutter → Shutter) : (onShutter s i f).mgmt = s.mgmt := rfl
@[simp] theorem onShutter_pending (s : State) (i : Nat) (f : Shutter → Shutter) : (onShutter s i f).pending = s.pending := rfl

@[simp] theorem onRinger_line (s : State) (i : Nat) (f : Ringer → Ringer) : (onRinger s i f).line = s.line := rfl
@[simp] theorem onRinger_reg (s : State) (i : Nat) (f : Ringer → Ringer) : (onRinger s i f).reg = s.reg := rfl
@[simp] theorem onRinger_pat (s : State) (i : Nat) (f : Ringer → Ringer) : (onRinger s i f).pat = s.pat := rfl
@[simp] theorem onRinger_fire (s : State) (i : Nat) (f : Ringer → Ringer) : (onRinger s i f).fire = s.fire := rfl
@[simp] theorem onRinger_shut (s : State) (i : Nat) (f : Ringer → Ringer) : (onRinger s i f).shut = s.shut := rfl
@[simp] theorem onRinger_board (s : State) (i : Nat) (f : Ringer → Ringer) : (onRinger s i f).board = s.board := rfl
@[simp] theorem onRinger_ann (s : State) (i : Nat) (f : Ringer → Ringer) : (onRinger s i f).ann = s.ann := rfl
@[simp] theorem onRinger_mgmt (s : State) (i : Nat) (f : Ringer → Ringer) : (onRinger s i f).mgmt = s.mgmt := rfl
@[simp] theorem onRinger_pending (s : State) (i : Nat) (f : Ringer → Ringer) : (onRinger s i f).pending = s.pending := rfl

@[simp] theorem onAmp_line (s : State) (i : Nat) (f : Amp → Amp) : (onAmp s i f).line = s.line := rfl
@[simp] theorem onAmp_reg (s : State) (i : Nat) (f : Amp → Amp) : (onAmp s i f).reg = s.reg := rfl
@[simp] theorem onAmp_pat (s : State) (i : Nat) (f : Amp → Amp) : (onAmp s i f).pat = s.pat := rfl
@[simp] theorem onAmp_fire (s : State) (i : Nat) (f : Amp → Amp) : (onAmp s i f).fire = s.fire := rfl
@[simp] theorem onAmp_shut (s : State) (i : Nat) (f : Amp → Amp) : (onAmp s i f).shut = s.shut := rfl
@[simp] theorem onAmp_call (s : State) (i : Nat) (f : Amp → Amp) : (onAmp s i f).call = s.call := rfl
@[simp] theorem onAmp_board (s : State) (i : Nat) (f : Amp → Amp) : (onAmp s i f).board = s.board := rfl
@[simp] theorem onAmp_mgmt (s : State) (i : Nat) (f : Amp → Amp) : (onAmp s i f).mgmt = s.mgmt := rfl
@[simp] theorem onAmp_pending (s : State) (i : Nat) (f : Amp → Amp) : (onAmp s i f).pending = s.pending := rfl

@[simp] theorem onStation_line (s : State) (i : Nat) (f : Station → Station) : (onStation s i f).line = s.line := rfl
@[simp] theorem onStation_pat (s : State) (i : Nat) (f : Station → Station) : (onStation s i f).pat = s.pat := rfl
@[simp] theorem onStation_fire (s : State) (i : Nat) (f : Station → Station) : (onStation s i f).fire = s.fire := rfl
@[simp] theorem onStation_shut (s : State) (i : Nat) (f : Station → Station) : (onStation s i f).shut = s.shut := rfl
@[simp] theorem onStation_call (s : State) (i : Nat) (f : Station → Station) : (onStation s i f).call = s.call := rfl
@[simp] theorem onStation_board (s : State) (i : Nat) (f : Station → Station) : (onStation s i f).board = s.board := rfl
@[simp] theorem onStation_ann (s : State) (i : Nat) (f : Station → Station) : (onStation s i f).ann = s.ann := rfl
@[simp] theorem onStation_mgmt (s : State) (i : Nat) (f : Station → Station) : (onStation s i f).mgmt = s.mgmt := rfl
@[simp] theorem onStation_pending (s : State) (i : Nat) (f : Station → Station) : (onStation s i f).pending = s.pending := rfl

/-- Two changes of one unit are one. -/
theorem State.onPat_onPat (s : State) (f g : Paternoster → Paternoster) :
    (s.onPat f).onPat g = s.onPat fun p => g (f p) := rfl

@[simp] theorem markPat_eq (s : State) : markPat s = s.onPat fun p => { p with mark := true } := rfl
@[simp] theorem markCalls_eq (s : State) : markCalls s = s.onCall fun u => { u with mark := true } := rfl
@[simp] theorem markClosing_eq (s : State) : markClosing s = s.onAnn fun u => { u with mark := true } := rfl

end Sys2Proof.Machine
end

