-- ==== Sys2Proof/Laws/Frames.lean ====
section
/-! SUPPORT. Which units of the state each shared operation leaves as they are. -/

namespace Sys2Proof.Machine

/-- What every step of a fold keeps, the fold keeps. -/
theorem foldl_keep {α β : Type} (p : State → β) (f : State → α → State) (h : ∀ s a, p (f s a) = p s)
    (l : List α) (s : State) : p (l.foldl f s) = p s := by
  induction l generalizing s with
  | nil => rfl
  | cons a l ih => simp [ih, h]

@[simp] theorem judgeLandings_keeps (floors : List Nat) (s : State) :
    (judgeLandings floors s).line = s.line ∧ (judgeLandings floors s).reg = s.reg ∧
    (judgeLandings floors s).pat = s.pat ∧ (judgeLandings floors s).fire = s.fire ∧
    (judgeLandings floors s).call = s.call ∧ (judgeLandings floors s).board = s.board ∧
    (judgeLandings floors s).ann = s.ann ∧ (judgeLandings floors s).mgmt = s.mgmt ∧
    (judgeLandings floors s).pending = s.pending := by
  unfold judgeLandings
  refine ⟨?_, ?_, ?_, ?_, ?_, ?_, ?_, ?_, ?_⟩
  · exact foldl_keep State.line _ (fun s a => by simp) _ _
  · exact foldl_keep State.reg _ (fun s a => by simp) _ _
  · exact foldl_keep State.pat _ (fun s a => by simp) _ _
  · exact foldl_keep State.fire _ (fun s a => by simp) _ _
  · exact foldl_keep State.call _ (fun s a => by simp) _ _
  · exact foldl_keep State.board _ (fun s a => by simp) _ _
  · exact foldl_keep State.ann _ (fun s a => by simp) _ _
  · exact foldl_keep State.mgmt _ (fun s a => by simp) _ _
  · exact foldl_keep State.pending _ (fun s a => by simp) _ _

@[simp] theorem lockAndJudge_keeps (s : State) :
    (lockAndJudge s).line = s.line ∧ (lockAndJudge s).reg = s.reg ∧ (lockAndJudge s).fire = s.fire ∧
    (lockAndJudge s).call = s.call ∧ (lockAndJudge s).board = s.board ∧
    (lockAndJudge s).ann = s.ann ∧ (lockAndJudge s).mgmt = s.mgmt ∧
    (lockAndJudge s).pending = s.pending := by
  refine ⟨?_, ?_, ?_, ?_, ?_, ?_, ?_, ?_⟩ <;> (unfold lockAndJudge; (try dsimp only); (repeat' split) <;> simp)

@[simp] theorem addLanding_keeps (f : Nat) (s : State) :
    (addLanding f s).line = s.line ∧ (addLanding f s).reg = s.reg ∧ (addLanding f s).fire = s.fire ∧
    (addLanding f s).call = s.call ∧ (addLanding f s).board = s.board ∧
    (addLanding f s).ann = s.ann ∧ (addLanding f s).mgmt = s.mgmt ∧
    (addLanding f s).pending = s.pending := by
  refine ⟨?_, ?_, ?_, ?_, ?_, ?_, ?_, ?_⟩ <;> (unfold addLanding; (try dsimp only); (repeat' split) <;> simp)

@[simp] theorem awaitEntered_keeps (i : Nat) (s : State) :
    (awaitEntered i s).line = s.line ∧ (awaitEntered i s).reg = s.reg ∧
    (awaitEntered i s).fire = s.fire ∧ (awaitEntered i s).call = s.call ∧
    (awaitEntered i s).board = s.board ∧ (awaitEntered i s).ann = s.ann ∧
    (awaitEntered i s).mgmt = s.mgmt ∧ (awaitEntered i s).pending = s.pending := by
  refine ⟨?_, ?_, ?_, ?_, ?_, ?_, ?_, ?_⟩ <;> (unfold awaitEntered; (try dsimp only); (repeat' split) <;> simp)

@[simp] theorem enterAwait_keeps (i : Nat) (r : Reason) (s : State) :
    (enterAwait i r s).line = s.line ∧ (enterAwait i r s).reg = s.reg ∧
    (enterAwait i r s).fire = s.fire ∧ (enterAwait i r s).call = s.call ∧
    (enterAwait i r s).board = s.board ∧ (enterAwait i r s).ann = s.ann ∧
    (enterAwait i r s).mgmt = s.mgmt ∧ (enterAwait i r s).pending = s.pending := by
  refine ⟨?_, ?_, ?_, ?_, ?_, ?_, ?_, ?_⟩ <;> (unfold enterAwait; (try dsimp only); (repeat' split) <;> simp)

@[simp] theorem release_keeps (i : Nat) (s : State) :
    (release i s).line = s.line ∧ (release i s).reg = s.reg ∧ (release i s).fire = s.fire ∧
    (release i s).call = s.call ∧ (release i s).board = s.board ∧ (release i s).ann = s.ann ∧
    (release i s).mgmt = s.mgmt ∧ (release i s).pending = s.pending := by
  refine ⟨?_, ?_, ?_, ?_, ?_, ?_, ?_, ?_⟩ <;> (unfold release; (try dsimp only); (repeat' split) <;> simp)

@[simp] theorem releaseIfAlarm_keeps (i : Nat) (s : State) :
    (releaseIfAlarm i s).line = s.line ∧ (releaseIfAlarm i s).reg = s.reg ∧
    (releaseIfAlarm i s).fire = s.fire ∧ (releaseIfAlarm i s).call = s.call ∧
    (releaseIfAlarm i s).board = s.board ∧ (releaseIfAlarm i s).ann = s.ann ∧
    (releaseIfAlarm i s).mgmt = s.mgmt ∧ (releaseIfAlarm i s).pending = s.pending := by
  refine ⟨?_, ?_, ?_, ?_, ?_, ?_, ?_, ?_⟩ <;> (unfold releaseIfAlarm; (try dsimp only); (repeat' split) <;> simp)

@[simp] theorem releaseZone_keeps (z : Nat) (s : State) :
    (releaseZone z s).line = s.line ∧ (releaseZone z s).reg = s.reg ∧
    (releaseZone z s).fire = s.fire ∧ (releaseZone z s).call = s.call ∧
    (releaseZone z s).board = s.board ∧ (releaseZone z s).ann = s.ann ∧
    (releaseZone z s).mgmt = s.mgmt ∧ (releaseZone z s).pending = s.pending := by
  unfold releaseZone
  refine ⟨?_, ?_, ?_, ?_, ?_, ?_, ?_, ?_⟩
  · exact foldl_keep State.line _ (fun s a => by (try dsimp only); (repeat' split) <;> simp) _ _
  · exact foldl_keep State.reg _ (fun s a => by (try dsimp only); (repeat' split) <;> simp) _ _
  · exact foldl_keep State.fire _ (fun s a => by (try dsimp only); (repeat' split) <;> simp) _ _
  · exact foldl_keep State.call _ (fun s a => by (try dsimp only); (repeat' split) <;> simp) _ _
  · exact foldl_keep State.board _ (fun s a => by (try dsimp only); (repeat' split) <;> simp) _ _
  · exact foldl_keep State.ann _ (fun s a => by (try dsimp only); (repeat' split) <;> simp) _ _
  · exact foldl_keep State.mgmt _ (fun s a => by (try dsimp only); (repeat' split) <;> simp) _ _
  · exact foldl_keep State.pending _ (fun s a => by (try dsimp only); (repeat' split) <;> simp) _ _

@[simp] theorem shutterReport_keeps (i : Nat) (v : Position) (s : State) :
    (shutterReport i v s).line = s.line ∧ (shutterReport i v s).reg = s.reg ∧
    (shutterReport i v s).fire = s.fire ∧ (shutterReport i v s).call = s.call ∧
    (shutterReport i v s).board = s.board ∧ (shutterReport i v s).ann = s.ann ∧
    (shutterReport i v s).mgmt = s.mgmt ∧ (shutterReport i v s).pending = s.pending := by
  refine ⟨?_, ?_, ?_, ?_, ?_, ?_, ?_, ?_⟩ <;> (unfold shutterReport; (try dsimp only); (repeat' split) <;> simp)

@[simp] theorem nightStep_keeps (floors : FloorSet) (s : State) :
    (nightStep floors s).line = s.line ∧ (nightStep floors s).reg = s.reg ∧
    (nightStep floors s).fire = s.fire ∧ (nightStep floors s).call = s.call ∧
    (nightStep floors s).board = s.board ∧ (nightStep floors s).ann = s.ann ∧
    (nightStep floors s).mgmt = s.mgmt ∧ (nightStep floors s).pending = s.pending := by
  unfold nightStep
  refine ⟨?_, ?_, ?_, ?_, ?_, ?_, ?_, ?_⟩
  · exact foldl_keep State.line _ (fun s a => by (try dsimp only); (repeat' split) <;> simp) _ _
  · exact foldl_keep State.reg _ (fun s a => by (try dsimp only); (repeat' split) <;> simp) _ _
  · exact foldl_keep State.fire _ (fun s a => by (try dsimp only); (repeat' split) <;> simp) _ _
  · exact foldl_keep State.call _ (fun s a => by (try dsimp only); (repeat' split) <;> simp) _ _
  · exact foldl_keep State.board _ (fun s a => by (try dsimp only); (repeat' split) <;> simp) _ _
  · exact foldl_keep State.ann _ (fun s a => by (try dsimp only); (repeat' split) <;> simp) _ _
  · exact foldl_keep State.mgmt _ (fun s a => by (try dsimp only); (repeat' split) <;> simp) _ _
  · exact foldl_keep State.pending _ (fun s a => by (try dsimp only); (repeat' split) <;> simp) _ _

@[simp] theorem startOfMovement_keeps (s : State) :
    (startOfMovement s).line = s.line ∧ (startOfMovement s).reg = s.reg ∧
    (startOfMovement s).fire = s.fire ∧ (startOfMovement s).shut = s.shut ∧
    (startOfMovement s).call = s.call ∧ (startOfMovement s).board = s.board ∧
    (startOfMovement s).ann = s.ann ∧ (startOfMovement s).mgmt = s.mgmt ∧
    (startOfMovement s).pending = s.pending := by
  refine ⟨?_, ?_, ?_, ?_, ?_, ?_, ?_, ?_, ?_⟩ <;> (unfold startOfMovement; (try dsimp only); (repeat' split) <;> simp)

@[simp] theorem countRevolution_keeps (wrap : Bool) (s : State) :
    (countRevolution wrap s).line = s.line ∧ (countRevolution wrap s).reg = s.reg ∧
    (countRevolution wrap s).fire = s.fire ∧ (countRevolution wrap s).shut = s.shut ∧
    (countRevolution wrap s).call = s.call ∧ (countRevolution wrap s).board = s.board ∧
    (countRevolution wrap s).ann = s.ann ∧ (countRevolution wrap s).mgmt = s.mgmt ∧
    (countRevolution wrap s).pending = s.pending := by
  refine ⟨?_, ?_, ?_, ?_, ?_, ?_, ?_, ?_, ?_⟩ <;> (unfold countRevolution; (try dsimp only); (repeat' split) <;> simp)

@[simp] theorem faultReport_keeps (s : State) :
    (faultReport s).line = s.line ∧ (faultReport s).reg = s.reg ∧ (faultReport s).fire = s.fire ∧
    (faultReport s).shut = s.shut ∧ (faultReport s).call = s.call ∧
    (faultReport s).board = s.board ∧ (faultReport s).ann = s.ann ∧ (faultReport s).mgmt = s.mgmt ∧
    (faultReport s).pending = s.pending := by
  refine ⟨?_, ?_, ?_, ?_, ?_, ?_, ?_, ?_, ?_⟩ <;> (unfold faultReport; (try dsimp only); (repeat' split) <;> simp)

@[simp] theorem guardTrip_keeps (s : State) :
    (guardTrip s).line = s.line ∧ (guardTrip s).reg = s.reg ∧ (guardTrip s).fire = s.fire ∧
    (guardTrip s).shut = s.shut ∧ (guardTrip s).call = s.call ∧ (guardTrip s).board = s.board ∧
    (guardTrip s).ann = s.ann ∧ (guardTrip s).mgmt = s.mgmt ∧ (guardTrip s).pending = s.pending := by
  refine ⟨?_, ?_, ?_, ?_, ?_, ?_, ?_, ?_, ?_⟩ <;> (unfold guardTrip; (try dsimp only); (repeat' split) <;> simp)

@[simp] theorem stopSwitch_keeps (s : State) :
    (stopSwitch s).line = s.line ∧ (stopSwitch s).reg = s.reg ∧ (stopSwitch s).fire = s.fire ∧
    (stopSwitch s).shut = s.shut ∧ (stopSwitch s).call = s.call ∧ (stopSwitch s).board = s.board ∧
    (stopSwitch s).ann = s.ann ∧ (stopSwitch s).mgmt = s.mgmt ∧ (stopSwitch s).pending = s.pending := by
  refine ⟨?_, ?_, ?_, ?_, ?_, ?_, ?_, ?_, ?_⟩ <;> (unfold stopSwitch; (try dsimp only); (repeat' split) <;> simp)

@[simp] theorem slip_keeps (s : State) :
    (slip s).line = s.line ∧ (slip s).reg = s.reg ∧ (slip s).fire = s.fire ∧
    (slip s).shut = s.shut ∧ (slip s).call = s.call ∧ (slip s).board = s.board ∧
    (slip s).ann = s.ann ∧ (slip s).mgmt = s.mgmt ∧ (slip s).pending = s.pending := by
  refine ⟨?_, ?_, ?_, ?_, ?_, ?_, ?_, ?_, ?_⟩ <;> (unfold slip; (try dsimp only); (repeat' split) <;> simp)

@[simp] theorem monitorFullAlarm_keeps (s : State) :
    (monitorFullAlarm s).line = s.line ∧ (monitorFullAlarm s).reg = s.reg ∧
    (monitorFullAlarm s).fire = s.fire ∧ (monitorFullAlarm s).shut = s.shut ∧
    (monitorFullAlarm s).call = s.call ∧ (monitorFullAlarm s).board = s.board ∧
    (monitorFullAlarm s).ann = s.ann ∧ (monitorFullAlarm s).mgmt = s.mgmt ∧
    (monitorFullAlarm s).pending = s.pending := by
  refine ⟨?_, ?_, ?_, ?_, ?_, ?_, ?_, ?_, ?_⟩ <;> (unfold monitorFullAlarm; (try dsimp only); (repeat' split) <;> simp)

@[simp] theorem driveMissing_keeps (s : State) :
    (driveMissing s).line = s.line ∧ (driveMissing s).reg = s.reg ∧ (driveMissing s).fire = s.fire ∧
    (driveMissing s).shut = s.shut ∧ (driveMissing s).call = s.call ∧
    (driveMissing s).board = s.board ∧ (driveMissing s).ann = s.ann ∧
    (driveMissing s).mgmt = s.mgmt ∧ (driveMissing s).pending = s.pending := by
  refine ⟨?_, ?_, ?_, ?_, ?_, ?_, ?_, ?_, ?_⟩ <;> (unfold driveMissing; (try dsimp only); (repeat' split) <;> simp)

@[simp] theorem stopTimerExpires_keeps (s : State) :
    (stopTimerExpires s).line = s.line ∧ (stopTimerExpires s).reg = s.reg ∧
    (stopTimerExpires s).fire = s.fire ∧ (stopTimerExpires s).shut = s.shut ∧
    (stopTimerExpires s).call = s.call ∧ (stopTimerExpires s).board = s.board ∧
    (stopTimerExpires s).ann = s.ann ∧ (stopTimerExpires s).mgmt = s.mgmt ∧
    (stopTimerExpires s).pending = s.pending := by
  refine ⟨?_, ?_, ?_, ?_, ?_, ?_, ?_, ?_, ?_⟩ <;> (unfold stopTimerExpires; (try dsimp only); (repeat' split) <;> simp)

@[simp] theorem resumeTimerExpires_keeps (s : State) :
    (resumeTimerExpires s).line = s.line ∧ (resumeTimerExpires s).reg = s.reg ∧
    (resumeTimerExpires s).fire = s.fire ∧ (resumeTimerExpires s).shut = s.shut ∧
    (resumeTimerExpires s).call = s.call ∧ (resumeTimerExpires s).board = s.board ∧
    (resumeTimerExpires s).ann = s.ann ∧ (resumeTimerExpires s).mgmt = s.mgmt ∧
    (resumeTimerExpires s).pending = s.pending := by
  refine ⟨?_, ?_, ?_, ?_, ?_, ?_, ?_, ?_, ?_⟩ <;> (unfold resumeTimerExpires; (try dsimp only); (repeat' split) <;> simp)

@[simp] theorem noteHalt_keeps (s : State) :
    (noteHalt s).line = s.line ∧ (noteHalt s).reg = s.reg ∧ (noteHalt s).fire = s.fire ∧
    (noteHalt s).shut = s.shut ∧ (noteHalt s).call = s.call ∧ (noteHalt s).board = s.board ∧
    (noteHalt s).ann = s.ann ∧ (noteHalt s).mgmt = s.mgmt ∧ (noteHalt s).pending = s.pending := by
  refine ⟨?_, ?_, ?_, ?_, ?_, ?_, ?_, ?_, ?_⟩ <;> (unfold noteHalt; (try dsimp only); (repeat' split) <;> simp)

@[simp] theorem releaseChain_keeps (s : State) :
    (releaseChain s).line = s.line ∧ (releaseChain s).reg = s.reg ∧ (releaseChain s).fire = s.fire ∧
    (releaseChain s).shut = s.shut ∧ (releaseChain s).call = s.call ∧
    (releaseChain s).board = s.board ∧ (releaseChain s).ann = s.ann ∧
    (releaseChain s).mgmt = s.mgmt ∧ (releaseChain s).pending = s.pending := by
  refine ⟨?_, ?_, ?_, ?_, ?_, ?_, ?_, ?_, ?_⟩ <;> (unfold releaseChain; (try dsimp only); (repeat' split) <;> simp)

@[simp] theorem landingReturns_keeps (f : Nat) (s : State) :
    (landingReturns f s).line = s.line ∧ (landingReturns f s).reg = s.reg ∧
    (landingReturns f s).fire = s.fire ∧ (landingReturns f s).shut = s.shut ∧
    (landingReturns f s).call = s.call ∧ (landingReturns f s).board = s.board ∧
    (landingReturns f s).ann = s.ann ∧ (landingReturns f s).mgmt = s.mgmt ∧
    (landingReturns f s).pending = s.pending := by
  refine ⟨?_, ?_, ?_, ?_, ?_, ?_, ?_, ?_, ?_⟩ <;> (unfold landingReturns; (try dsimp only); (repeat' split) <;> simp [onLanding])

@[simp] theorem runoutStep_keeps (r : Nat) (s : State) :
    (runoutStep r s).line = s.line ∧ (runoutStep r s).reg = s.reg ∧ (runoutStep r s).fire = s.fire ∧
    (runoutStep r s).shut = s.shut ∧ (runoutStep r s).call = s.call ∧
    (runoutStep r s).board = s.board ∧ (runoutStep r s).ann = s.ann ∧
    (runoutStep r s).mgmt = s.mgmt ∧ (runoutStep r s).pending = s.pending := by
  refine ⟨?_, ?_, ?_, ?_, ?_, ?_, ?_, ?_, ?_⟩ <;> (unfold runoutStep; (try dsimp only); (repeat' split) <;> simp)

@[simp] theorem beamCheck_keeps (f up down : Nat) (s : State) :
    (beamCheck f up down s).line = s.line ∧ (beamCheck f up down s).reg = s.reg ∧
    (beamCheck f up down s).fire = s.fire ∧ (beamCheck f up down s).shut = s.shut ∧
    (beamCheck f up down s).call = s.call ∧ (beamCheck f up down s).board = s.board ∧
    (beamCheck f up down s).ann = s.ann ∧ (beamCheck f up down s).mgmt = s.mgmt ∧
    (beamCheck f up down s).pending = s.pending := by
  refine ⟨?_, ?_, ?_, ?_, ?_, ?_, ?_, ?_, ?_⟩ <;> (unfold beamCheck; (try dsimp only); (repeat' split) <;> simp [onLanding])

@[simp] theorem landingReport_keeps (f up down : Nat) (tripped operated : Bool) (s : State) :
    (landingReport f up down tripped operated s).line = s.line ∧
    (landingReport f up down tripped operated s).reg = s.reg ∧
    (landingReport f up down tripped operated s).fire = s.fire ∧
    (landingReport f up down tripped operated s).shut = s.shut ∧
    (landingReport f up down tripped operated s).call = s.call ∧
    (landingReport f up down tripped operated s).board = s.board ∧
    (landingReport f up down tripped operated s).ann = s.ann ∧
    (landingReport f up down tripped operated s).mgmt = s.mgmt ∧
    (landingReport f up down tripped operated s).pending = s.pending := by
  refine ⟨?_, ?_, ?_, ?_, ?_, ?_, ?_, ?_, ?_⟩ <;> (unfold landingReport; (try dsimp only); (repeat' split) <;> simp [onLanding])

@[simp] theorem arrival_keeps (s : State) :
    ((arrival s).1).line = s.line ∧ ((arrival s).1).reg = s.reg ∧ ((arrival s).1).fire = s.fire ∧
    ((arrival s).1).call = s.call ∧ ((arrival s).1).board = s.board ∧ ((arrival s).1).ann = s.ann ∧
    ((arrival s).1).mgmt = s.mgmt ∧ ((arrival s).1).pending = s.pending := by
  refine ⟨?_, ?_, ?_, ?_, ?_, ?_, ?_, ?_⟩ <;> (unfold arrival; (try dsimp only); (repeat' split) <;> simp)

@[simp] theorem firstReport_keeps (moving fault : Bool) (s : State) :
    ((firstReport moving fault s).1).line = s.line ∧ ((firstReport moving fault s).1).reg = s.reg ∧
    ((firstReport moving fault s).1).fire = s.fire ∧
    ((firstReport moving fault s).1).call = s.call ∧
    ((firstReport moving fault s).1).board = s.board ∧
    ((firstReport moving fault s).1).ann = s.ann ∧ ((firstReport moving fault s).1).mgmt = s.mgmt ∧
    ((firstReport moving fault s).1).pending = s.pending := by
  refine ⟨?_, ?_, ?_, ?_, ?_, ?_, ?_, ?_⟩ <;> (unfold firstReport; (try dsimp only); (repeat' split) <;> simp)

@[simp] theorem normalReport_keeps (moving wrap : Bool) (s : State) :
    ((normalReport moving wrap s).1).line = s.line ∧ ((normalReport moving wrap s).1).reg = s.reg ∧
    ((normalReport moving wrap s).1).fire = s.fire ∧
    ((normalReport moving wrap s).1).call = s.call ∧
    ((normalReport moving wrap s).1).board = s.board ∧
    ((normalReport moving wrap s).1).ann = s.ann ∧ ((normalReport moving wrap s).1).mgmt = s.mgmt ∧
    ((normalReport moving wrap s).1).pending = s.pending := by
  refine ⟨?_, ?_, ?_, ?_, ?_, ?_, ?_, ?_⟩ <;> (unfold normalReport; (try dsimp only); (repeat' split) <;> simp)

@[simp] theorem chainReport_keeps (position : Nat) (moving fault : Bool) (s : State) :
    (chainReport position moving fault s).line = s.line ∧
    (chainReport position moving fault s).reg = s.reg ∧
    (chainReport position moving fault s).fire = s.fire ∧
    (chainReport position moving fault s).call = s.call ∧
    (chainReport position moving fault s).board = s.board ∧
    (chainReport position moving fault s).ann = s.ann ∧
    (chainReport position moving fault s).mgmt = s.mgmt ∧
    (chainReport position moving fault s).pending = s.pending := by
  refine ⟨?_, ?_, ?_, ?_, ?_, ?_, ?_, ?_⟩ <;> (unfold chainReport; (try dsimp only); (repeat' split) <;> simp)

@[simp] theorem joinNew_keeps (ringer pattern priority : Nat) (o : Origin) (s : State) :
    (joinNew ringer pattern priority o s).line = s.line ∧
    (joinNew ringer pattern priority o s).reg = s.reg ∧
    (joinNew ringer pattern priority o s).pat = s.pat ∧
    (joinNew ringer pattern priority o s).fire = s.fire ∧
    (joinNew ringer pattern priority o s).shut = s.shut ∧
    (joinNew ringer pattern priority o s).board = s.board ∧
    (joinNew ringer pattern priority o s).ann = s.ann ∧
    (joinNew ringer pattern priority o s).mgmt = s.mgmt ∧
    (joinNew ringer pattern priority o s).pending = s.pending := by
  refine ⟨?_, ?_, ?_, ?_, ?_, ?_, ?_, ?_, ?_⟩ <;> (unfold joinNew; (try dsimp only); (repeat' split) <;> simp)

@[simp] theorem reofferOne_keeps (s : State) (push : Nat) :
    (reofferOne s push).line = s.line ∧ (reofferOne s push).reg = s.reg ∧ (reofferOne s push).pat = s.pat ∧
    (reofferOne s push).fire = s.fire ∧ (reofferOne s push).shut = s.shut ∧ (reofferOne s push).board = s.board ∧
    (reofferOne s push).ann = s.ann ∧ (reofferOne s push).mgmt = s.mgmt ∧ (reofferOne s push).pending = s.pending := by
  refine ⟨?_, ?_, ?_, ?_, ?_, ?_, ?_, ?_, ?_⟩ <;> (unfold reofferOne; (try dsimp only); (repeat' split) <;> simp)

@[simp] theorem reoffer_keeps (s : State) :
    (reoffer s).line = s.line ∧ (reoffer s).reg = s.reg ∧ (reoffer s).pat = s.pat ∧
    (reoffer s).fire = s.fire ∧ (reoffer s).shut = s.shut ∧ (reoffer s).board = s.board ∧
    (reoffer s).ann = s.ann ∧ (reoffer s).mgmt = s.mgmt ∧ (reoffer s).pending = s.pending := by
  unfold reoffer
  refine ⟨?_, ?_, ?_, ?_, ?_, ?_, ?_, ?_, ?_⟩
  · exact foldl_keep State.line _ (fun s a => by simp) _ _
  · exact foldl_keep State.reg _ (fun s a => by simp) _ _
  · exact foldl_keep State.pat _ (fun s a => by simp) _ _
  · exact foldl_keep State.fire _ (fun s a => by simp) _ _
  · exact foldl_keep State.shut _ (fun s a => by simp) _ _
  · exact foldl_keep State.board _ (fun s a => by simp) _ _
  · exact foldl_keep State.ann _ (fun s a => by simp) _ _
  · exact foldl_keep State.mgmt _ (fun s a => by simp) _ _
  · exact foldl_keep State.pending _ (fun s a => by simp) _ _

@[simp] theorem takeReq_keeps (i : Nat) (r : Req) (pat : Pattern) (s : State) :
    (takeReq i r pat s).line = s.line ∧ (takeReq i r pat s).reg = s.reg ∧
    (takeReq i r pat s).pat = s.pat ∧ (takeReq i r pat s).fire = s.fire ∧
    (takeReq i r pat s).shut = s.shut ∧ (takeReq i r pat s).board = s.board ∧
    (takeReq i r pat s).ann = s.ann ∧ (takeReq i r pat s).mgmt = s.mgmt ∧
    (takeReq i r pat s).pending = s.pending := by
  refine ⟨?_, ?_, ?_, ?_, ?_, ?_, ?_, ?_, ?_⟩ <;> (unfold takeReq; (try dsimp only); (repeat' split) <;> simp)

@[simp] theorem dispatchOne_keeps (i : Nat) (s : State) :
    (dispatchOne i s).line = s.line ∧ (dispatchOne i s).reg = s.reg ∧
    (dispatchOne i s).pat = s.pat ∧ (dispatchOne i s).fire = s.fire ∧
    (dispatchOne i s).shut = s.shut ∧ (dispatchOne i s).board = s.board ∧
    (dispatchOne i s).ann = s.ann ∧ (dispatchOne i s).mgmt = s.mgmt ∧
    (dispatchOne i s).pending = s.pending := by
  refine ⟨?_, ?_, ?_, ?_, ?_, ?_, ?_, ?_, ?_⟩ <;> (unfold dispatchOne; (try dsimp only); (repeat' split) <;> simp)

@[simp] theorem dispatchRound_keeps (s : State) :
    (dispatchRound s).line = s.line ∧ (dispatchRound s).reg = s.reg ∧
    (dispatchRound s).pat = s.pat ∧ (dispatchRound s).fire = s.fire ∧
    (dispatchRound s).shut = s.shut ∧ (dispatchRound s).board = s.board ∧
    (dispatchRound s).ann = s.ann ∧ (dispatchRound s).mgmt = s.mgmt ∧
    (dispatchRound s).pending = s.pending := by
  unfold dispatchRound
  refine ⟨?_, ?_, ?_, ?_, ?_, ?_, ?_, ?_, ?_⟩
  · exact foldl_keep State.line _ (fun s a => by (try dsimp only); (repeat' split) <;> simp) _ _
  · exact foldl_keep State.reg _ (fun s a => by (try dsimp only); (repeat' split) <;> simp) _ _
  · exact foldl_keep State.pat _ (fun s a => by (try dsimp only); (repeat' split) <;> simp) _ _
  · exact foldl_keep State.fire _ (fun s a => by (try dsimp only); (repeat' split) <;> simp) _ _
  · exact foldl_keep State.shut _ (fun s a => by (try dsimp only); (repeat' split) <;> simp) _ _
  · exact foldl_keep State.board _ (fun s a => by (try dsimp only); (repeat' split) <;> simp) _ _
  · exact foldl_keep State.ann _ (fun s a => by (try dsimp only); (repeat' split) <;> simp) _ _
  · exact foldl_keep State.mgmt _ (fun s a => by (try dsimp only); (repeat' split) <;> simp) _ _
  · exact foldl_keep State.pending _ (fun s a => by (try dsimp only); (repeat' split) <;> simp) _ _

@[simp] theorem dispatchRounds_keeps (n : Nat) (s : State) :
    (dispatchRounds n s).line = s.line ∧ (dispatchRounds n s).reg = s.reg ∧
    (dispatchRounds n s).pat = s.pat ∧ (dispatchRounds n s).fire = s.fire ∧
    (dispatchRounds n s).shut = s.shut ∧ (dispatchRounds n s).board = s.board ∧
    (dispatchRounds n s).ann = s.ann ∧ (dispatchRounds n s).mgmt = s.mgmt ∧
    (dispatchRounds n s).pending = s.pending := by
  induction n generalizing s with
  | zero => simp [dispatchRounds]
  | succ n ih =>
    unfold dispatchRounds
    dsimp only
    split
    · simp
    · refine ⟨?_, ?_, ?_, ?_, ?_, ?_, ?_, ?_, ?_⟩ <;> simp [ih]

@[simp] theorem dispatch_keeps (s : State) :
    (dispatch s).line = s.line ∧ (dispatch s).reg = s.reg ∧ (dispatch s).pat = s.pat ∧
    (dispatch s).fire = s.fire ∧ (dispatch s).shut = s.shut ∧ (dispatch s).board = s.board ∧
    (dispatch s).ann = s.ann ∧ (dispatch s).mgmt = s.mgmt ∧ (dispatch s).pending = s.pending := by
  refine ⟨?_, ?_, ?_, ?_, ?_, ?_, ?_, ?_, ?_⟩ <;> (unfold dispatch; (try dsimp only); (repeat' split) <;> simp)

@[simp] theorem joinAndDispatch_keeps (ringer pattern priority : Nat) (o : Origin) (s : State) :
    (joinAndDispatch ringer pattern priority o s).line = s.line ∧
    (joinAndDispatch ringer pattern priority o s).reg = s.reg ∧
    (joinAndDispatch ringer pattern priority o s).pat = s.pat ∧
    (joinAndDispatch ringer pattern priority o s).fire = s.fire ∧
    (joinAndDispatch ringer pattern priority o s).shut = s.shut ∧
    (joinAndDispatch ringer pattern priority o s).board = s.board ∧
    (joinAndDispatch ringer pattern priority o s).ann = s.ann ∧
    (joinAndDispatch ringer pattern priority o s).mgmt = s.mgmt ∧
    (joinAndDispatch ringer pattern priority o s).pending = s.pending := by
  refine ⟨?_, ?_, ?_, ?_, ?_, ?_, ?_, ?_, ?_⟩ <;> (unfold joinAndDispatch; (try dsimp only); (repeat' split) <;> simp)

@[simp] theorem departures_keeps (s : State) :
    (departures s).line = s.line ∧ (departures s).reg = s.reg ∧ (departures s).pat = s.pat ∧
    (departures s).fire = s.fire ∧ (departures s).shut = s.shut ∧ (departures s).board = s.board ∧
    (departures s).ann = s.ann ∧ (departures s).mgmt = s.mgmt ∧ (departures s).pending = s.pending := by
  refine ⟨?_, ?_, ?_, ?_, ?_, ?_, ?_, ?_, ?_⟩ <;> (unfold departures; (try dsimp only); (repeat' split) <;> simp)

@[simp] theorem rejoin_keeps (g : Option Ring) (s : State) :
    (rejoin g s).line = s.line ∧ (rejoin g s).reg = s.reg ∧ (rejoin g s).pat = s.pat ∧
    (rejoin g s).fire = s.fire ∧ (rejoin g s).shut = s.shut ∧ (rejoin g s).board = s.board ∧
    (rejoin g s).ann = s.ann ∧ (rejoin g s).mgmt = s.mgmt ∧ (rejoin g s).pending = s.pending := by
  refine ⟨?_, ?_, ?_, ?_, ?_, ?_, ?_, ?_, ?_⟩ <;> (unfold rejoin; (try dsimp only); (repeat' split) <;> simp)

@[simp] theorem escalate_keeps (push : Nat) (s : State) :
    (escalate push s).line = s.line ∧ (escalate push s).reg = s.reg ∧
    (escalate push s).pat = s.pat ∧ (escalate push s).fire = s.fire ∧
    (escalate push s).shut = s.shut ∧ (escalate push s).board = s.board ∧
    (escalate push s).ann = s.ann ∧ (escalate push s).mgmt = s.mgmt ∧
    (escalate push s).pending = s.pending := by
  refine ⟨?_, ?_, ?_, ?_, ?_, ?_, ?_, ?_, ?_⟩ <;> (unfold escalate; (try dsimp only); (repeat' split) <;> simp)

@[simp] theorem pushPressed_keeps (i : Nat) (s : State) :
    (pushPressed i s).line = s.line ∧ (pushPressed i s).reg = s.reg ∧
    (pushPressed i s).pat = s.pat ∧ (pushPressed i s).fire = s.fire ∧
    (pushPressed i s).shut = s.shut ∧ (pushPressed i s).board = s.board ∧
    (pushPressed i s).ann = s.ann ∧ (pushPressed i s).mgmt = s.mgmt ∧
    (pushPressed i s).pending = s.pending := by
  refine ⟨?_, ?_, ?_, ?_, ?_, ?_, ?_, ?_, ?_⟩ <;> (unfold pushPressed; (try dsimp only); (repeat' split) <;> simp)

@[simp] theorem ringCompleted_keeps (ring : Ring) (s : State) :
    (ringCompleted ring s).line = s.line ∧ (ringCompleted ring s).reg = s.reg ∧
    (ringCompleted ring s).pat = s.pat ∧ (ringCompleted ring s).fire = s.fire ∧
    (ringCompleted ring s).shut = s.shut ∧ (ringCompleted ring s).board = s.board ∧
    (ringCompleted ring s).ann = s.ann ∧ (ringCompleted ring s).mgmt = s.mgmt ∧
    (ringCompleted ring s).pending = s.pending := by
  refine ⟨?_, ?_, ?_, ?_, ?_, ?_, ?_, ?_, ?_⟩ <;> (unfold ringCompleted; (try dsimp only); (repeat' split) <;> simp)

@[simp] theorem ringDone_keeps (i number : Nat) (s : State) :
    (ringDone i number s).line = s.line ∧ (ringDone i number s).reg = s.reg ∧
    (ringDone i number s).pat = s.pat ∧ (ringDone i number s).fire = s.fire ∧
    (ringDone i number s).shut = s.shut ∧ (ringDone i number s).board = s.board ∧
    (ringDone i number s).ann = s.ann ∧ (ringDone i number s).mgmt = s.mgmt ∧
    (ringDone i number s).pending = s.pending := by
  refine ⟨?_, ?_, ?_, ?_, ?_, ?_, ?_, ?_, ?_⟩ <;> (unfold ringDone; (try dsimp only); (repeat' split) <;> simp)

@[simp] theorem ringTimerExpires_keeps (i : Nat) (s : State) :
    (ringTimerExpires i s).line = s.line ∧ (ringTimerExpires i s).reg = s.reg ∧
    (ringTimerExpires i s).pat = s.pat ∧ (ringTimerExpires i s).fire = s.fire ∧
    (ringTimerExpires i s).shut = s.shut ∧ (ringTimerExpires i s).board = s.board ∧
    (ringTimerExpires i s).ann = s.ann ∧ (ringTimerExpires i s).mgmt = s.mgmt ∧
    (ringTimerExpires i s).pending = s.pending := by
  refine ⟨?_, ?_, ?_, ?_, ?_, ?_, ?_, ?_, ?_⟩ <;> (unfold ringTimerExpires; (try dsimp only); (repeat' split) <;> simp)

@[simp] theorem nextRingReached_keeps (push : Nat) (s : State) :
    (nextRingReached push s).line = s.line ∧ (nextRingReached push s).reg = s.reg ∧
    (nextRingReached push s).pat = s.pat ∧ (nextRingReached push s).fire = s.fire ∧
    (nextRingReached push s).shut = s.shut ∧ (nextRingReached push s).board = s.board ∧
    (nextRingReached push s).ann = s.ann ∧ (nextRingReached push s).mgmt = s.mgmt ∧
    (nextRingReached push s).pending = s.pending := by
  refine ⟨?_, ?_, ?_, ?_, ?_, ?_, ?_, ?_, ?_⟩ <;> (unfold nextRingReached; (try dsimp only); (repeat' split) <;> simp)

@[simp] theorem queueFire_keeps (pattern : Nat) (s : State) :
    (queueFire pattern s).line = s.line ∧ (queueFire pattern s).reg = s.reg ∧
    (queueFire pattern s).pat = s.pat ∧ (queueFire pattern s).fire = s.fire ∧
    (queueFire pattern s).shut = s.shut ∧ (queueFire pattern s).board = s.board ∧
    (queueFire pattern s).ann = s.ann ∧ (queueFire pattern s).mgmt = s.mgmt ∧
    (queueFire pattern s).pending = s.pending := by
  unfold queueFire
  refine ⟨?_, ?_, ?_, ?_, ?_, ?_, ?_, ?_, ?_⟩
  · exact foldl_keep State.line _ (fun s a => by simp) _ _
  · exact foldl_keep State.reg _ (fun s a => by simp) _ _
  · exact foldl_keep State.pat _ (fun s a => by simp) _ _
  · exact foldl_keep State.fire _ (fun s a => by simp) _ _
  · exact foldl_keep State.shut _ (fun s a => by simp) _ _
  · exact foldl_keep State.board _ (fun s a => by simp) _ _
  · exact foldl_keep State.ann _ (fun s a => by simp) _ _
  · exact foldl_keep State.mgmt _ (fun s a => by simp) _ _
  · exact foldl_keep State.pending _ (fun s a => by simp) _ _

@[simp] theorem preemptOne_keeps (s : State) (i : Nat) :
    (preemptOne s i).line = s.line ∧ (preemptOne s i).reg = s.reg ∧ (preemptOne s i).pat = s.pat ∧
    (preemptOne s i).fire = s.fire ∧ (preemptOne s i).shut = s.shut ∧ (preemptOne s i).board = s.board ∧
    (preemptOne s i).ann = s.ann ∧ (preemptOne s i).mgmt = s.mgmt ∧ (preemptOne s i).pending = s.pending := by
  refine ⟨?_, ?_, ?_, ?_, ?_, ?_, ?_, ?_, ?_⟩ <;> (unfold preemptOne; (try dsimp only); (repeat' split) <;> simp)

/-- What every ringer's preemption keeps, all of them keep. -/
@[simp] theorem preempt_keeps (l : List Nat) (s : State) :
    (l.foldl preemptOne s).line = s.line ∧ (l.foldl preemptOne s).reg = s.reg ∧
    (l.foldl preemptOne s).pat = s.pat ∧ (l.foldl preemptOne s).fire = s.fire ∧
    (l.foldl preemptOne s).shut = s.shut ∧ (l.foldl preemptOne s).board = s.board ∧
    (l.foldl preemptOne s).ann = s.ann ∧ (l.foldl preemptOne s).mgmt = s.mgmt ∧
    (l.foldl preemptOne s).pending = s.pending := by
  induction l generalizing s with
  | nil => simp
  | cons i l ih => simp [ih]

@[simp] theorem fireRings_keeps (s : State) :
    (fireRings s).line = s.line ∧ (fireRings s).reg = s.reg ∧ (fireRings s).pat = s.pat ∧
    (fireRings s).fire = s.fire ∧ (fireRings s).shut = s.shut ∧ (fireRings s).board = s.board ∧
    (fireRings s).ann = s.ann ∧ (fireRings s).mgmt = s.mgmt ∧ (fireRings s).pending = s.pending := by
  refine ⟨?_, ?_, ?_, ?_, ?_, ?_, ?_, ?_, ?_⟩ <;> (unfold fireRings; (try dsimp only); (repeat' split) <;> simp)

@[simp] theorem callFullAlarm_keeps (s : State) :
    (callFullAlarm s).line = s.line ∧ (callFullAlarm s).reg = s.reg ∧
    (callFullAlarm s).pat = s.pat ∧ (callFullAlarm s).fire = s.fire ∧
    (callFullAlarm s).shut = s.shut ∧ (callFullAlarm s).board = s.board ∧
    (callFullAlarm s).ann = s.ann ∧ (callFullAlarm s).mgmt = s.mgmt ∧
    (callFullAlarm s).pending = s.pending := by
  refine ⟨?_, ?_, ?_, ?_, ?_, ?_, ?_, ?_, ?_⟩ <;> (unfold callFullAlarm; (try dsimp only); (repeat' split) <;> simp)

@[simp] theorem fireTimerExpires_keeps (s : State) :
    (fireTimerExpires s).line = s.line ∧ (fireTimerExpires s).reg = s.reg ∧
    (fireTimerExpires s).pat = s.pat ∧ (fireTimerExpires s).fire = s.fire ∧
    (fireTimerExpires s).shut = s.shut ∧ (fireTimerExpires s).board = s.board ∧
    (fireTimerExpires s).ann = s.ann ∧ (fireTimerExpires s).mgmt = s.mgmt ∧
    (fireTimerExpires s).pending = s.pending := by
  refine ⟨?_, ?_, ?_, ?_, ?_, ?_, ?_, ?_, ?_⟩ <;> (unfold fireTimerExpires; (try dsimp only); (repeat' split) <;> simp)

@[simp] theorem withdrawFire_keeps (s : State) :
    (withdrawFire s).line = s.line ∧ (withdrawFire s).reg = s.reg ∧ (withdrawFire s).pat = s.pat ∧
    (withdrawFire s).fire = s.fire ∧ (withdrawFire s).shut = s.shut ∧
    (withdrawFire s).board = s.board ∧ (withdrawFire s).ann = s.ann ∧
    (withdrawFire s).mgmt = s.mgmt ∧ (withdrawFire s).pending = s.pending := by
  refine ⟨?_, ?_, ?_, ?_, ?_, ?_, ?_, ?_, ?_⟩ <;> (unfold withdrawFire; (try dsimp only); (repeat' split) <;> simp)

@[simp] theorem callSilence_keeps (s : State) :
    (callSilence s).line = s.line ∧ (callSilence s).reg = s.reg ∧ (callSilence s).pat = s.pat ∧
    (callSilence s).fire = s.fire ∧ (callSilence s).shut = s.shut ∧
    (callSilence s).board = s.board ∧ (callSilence s).ann = s.ann ∧ (callSilence s).mgmt = s.mgmt ∧
    (callSilence s).pending = s.pending := by
  refine ⟨?_, ?_, ?_, ?_, ?_, ?_, ?_, ?_, ?_⟩ <;> (unfold callSilence; (try dsimp only); (repeat' split) <;> simp)

@[simp] theorem callFireOver_keeps (s : State) :
    (callFireOver s).line = s.line ∧ (callFireOver s).reg = s.reg ∧ (callFireOver s).pat = s.pat ∧
    (callFireOver s).fire = s.fire ∧ (callFireOver s).shut = s.shut ∧
    (callFireOver s).board = s.board ∧ (callFireOver s).ann = s.ann ∧
    (callFireOver s).mgmt = s.mgmt ∧ (callFireOver s).pending = s.pending := by
  refine ⟨?_, ?_, ?_, ?_, ?_, ?_, ?_, ?_, ?_⟩ <;> (unfold callFireOver; (try dsimp only); (repeat' split) <;> simp)

@[simp] theorem setClosingLevel_keeps (n : Nat) (s : State) :
    (setClosingLevel n s).line = s.line ∧ (setClosingLevel n s).reg = s.reg ∧
    (setClosingLevel n s).pat = s.pat ∧ (setClosingLevel n s).fire = s.fire ∧
    (setClosingLevel n s).shut = s.shut ∧ (setClosingLevel n s).board = s.board ∧
    (setClosingLevel n s).ann = s.ann ∧ (setClosingLevel n s).mgmt = s.mgmt ∧
    (setClosingLevel n s).pending = s.pending := by
  refine ⟨?_, ?_, ?_, ?_, ?_, ?_, ?_, ?_, ?_⟩ <;> (unfold setClosingLevel; (try dsimp only); (repeat' split) <;> simp)

@[simp] theorem closingRings_keeps (pattern : Nat) (mask : RingerSet) (s : State) :
    (closingRings pattern mask s).line = s.line ∧ (closingRings pattern mask s).reg = s.reg ∧
    (closingRings pattern mask s).pat = s.pat ∧ (closingRings pattern mask s).fire = s.fire ∧
    (closingRings pattern mask s).shut = s.shut ∧ (closingRings pattern mask s).board = s.board ∧
    (closingRings pattern mask s).ann = s.ann ∧ (closingRings pattern mask s).mgmt = s.mgmt ∧
    (closingRings pattern mask s).pending = s.pending := by
  unfold closingRings
  refine ⟨?_, ?_, ?_, ?_, ?_, ?_, ?_, ?_, ?_⟩
  · exact foldl_keep State.line _ (fun s a => by simp) _ _
  · exact foldl_keep State.reg _ (fun s a => by simp) _ _
  · exact foldl_keep State.pat _ (fun s a => by simp) _ _
  · exact foldl_keep State.fire _ (fun s a => by simp) _ _
  · exact foldl_keep State.shut _ (fun s a => by simp) _ _
  · exact foldl_keep State.board _ (fun s a => by simp) _ _
  · exact foldl_keep State.ann _ (fun s a => by simp) _ _
  · exact foldl_keep State.mgmt _ (fun s a => by simp) _ _
  · exact foldl_keep State.pending _ (fun s a => by simp) _ _

@[simp] theorem callClosingAborted_keeps (s : State) :
    (callClosingAborted s).line = s.line ∧ (callClosingAborted s).reg = s.reg ∧
    (callClosingAborted s).pat = s.pat ∧ (callClosingAborted s).fire = s.fire ∧
    (callClosingAborted s).shut = s.shut ∧ (callClosingAborted s).board = s.board ∧
    (callClosingAborted s).ann = s.ann ∧ (callClosingAborted s).mgmt = s.mgmt ∧
    (callClosingAborted s).pending = s.pending := by
  refine ⟨?_, ?_, ?_, ?_, ?_, ?_, ?_, ?_, ?_⟩ <;> (unfold callClosingAborted; (try dsimp only); (repeat' split) <;> simp)

@[simp] theorem removeCalls_keeps (pushes : List Nat) (all : Bool) (s : State) :
    (removeCalls pushes all s).line = s.line ∧ (removeCalls pushes all s).reg = s.reg ∧
    (removeCalls pushes all s).pat = s.pat ∧ (removeCalls pushes all s).fire = s.fire ∧
    (removeCalls pushes all s).shut = s.shut ∧ (removeCalls pushes all s).board = s.board ∧
    (removeCalls pushes all s).ann = s.ann ∧ (removeCalls pushes all s).mgmt = s.mgmt ∧
    (removeCalls pushes all s).pending = s.pending := by
  refine ⟨?_, ?_, ?_, ?_, ?_, ?_, ?_, ?_, ?_⟩ <;> (unfold removeCalls; (try dsimp only); (repeat' split) <;> simp)

@[simp] theorem ignoreAnswer_keeps (cell : Nat) (s : State) :
    (ignoreAnswer cell s).line = s.line ∧ (ignoreAnswer cell s).reg = s.reg ∧
    (ignoreAnswer cell s).pat = s.pat ∧ (ignoreAnswer cell s).fire = s.fire ∧
    (ignoreAnswer cell s).shut = s.shut ∧ (ignoreAnswer cell s).board = s.board ∧
    (ignoreAnswer cell s).ann = s.ann ∧ (ignoreAnswer cell s).mgmt = s.mgmt ∧
    (ignoreAnswer cell s).pending = s.pending := by
  refine ⟨?_, ?_, ?_, ?_, ?_, ?_, ?_, ?_, ?_⟩ <;> (unfold ignoreAnswer; (try dsimp only); (repeat' split) <;> simp)

@[simp] theorem answer_keeps (cell : Nat) (s : State) :
    (answer cell s).line = s.line ∧ (answer cell s).reg = s.reg ∧ (answer cell s).pat = s.pat ∧
    (answer cell s).fire = s.fire ∧ (answer cell s).shut = s.shut ∧
    (answer cell s).board = s.board ∧ (answer cell s).ann = s.ann ∧ (answer cell s).mgmt = s.mgmt ∧
    (answer cell s).pending = s.pending := by
  refine ⟨?_, ?_, ?_, ?_, ?_, ?_, ?_, ?_, ?_⟩ <;> (unfold answer; (try dsimp only); (repeat' split) <;> simp)

@[simp] theorem notePanelRing_keeps (strokes spacing number : Nat) (s : State) (i : Nat) :
    (notePanelRing strokes spacing number s i).line = s.line ∧
    (notePanelRing strokes spacing number s i).reg = s.reg ∧
    (notePanelRing strokes spacing number s i).pat = s.pat ∧
    (notePanelRing strokes spacing number s i).fire = s.fire ∧
    (notePanelRing strokes spacing number s i).shut = s.shut ∧
    (notePanelRing strokes spacing number s i).board = s.board ∧
    (notePanelRing strokes spacing number s i).ann = s.ann ∧
    (notePanelRing strokes spacing number s i).mgmt = s.mgmt ∧
    (notePanelRing strokes spacing number s i).pending = s.pending := by
  refine ⟨?_, ?_, ?_, ?_, ?_, ?_, ?_, ?_, ?_⟩ <;> (unfold notePanelRing; (try dsimp only); (repeat' split) <;> simp)

@[simp] theorem discardRing_keeps (i : Nat) (s : State) :
    (discardRing i s).line = s.line ∧ (discardRing i s).reg = s.reg ∧
    (discardRing i s).pat = s.pat ∧ (discardRing i s).fire = s.fire ∧
    (discardRing i s).shut = s.shut ∧ (discardRing i s).board = s.board ∧
    (discardRing i s).ann = s.ann ∧ (discardRing i s).mgmt = s.mgmt ∧
    (discardRing i s).pending = s.pending := by
  refine ⟨?_, ?_, ?_, ?_, ?_, ?_, ?_, ?_, ?_⟩ <;> (unfold discardRing; (try dsimp only); (repeat' split) <;> simp)

@[simp] theorem trySounding_keeps (g : Nat) (s : State) :
    (trySounding g s).line = s.line ∧ (trySounding g s).reg = s.reg ∧
    (trySounding g s).pat = s.pat ∧ (trySounding g s).fire = s.fire ∧
    (trySounding g s).shut = s.shut ∧ (trySounding g s).call = s.call ∧
    (trySounding g s).board = s.board ∧ (trySounding g s).mgmt = s.mgmt ∧
    (trySounding g s).pending = s.pending := by
  refine ⟨?_, ?_, ?_, ?_, ?_, ?_, ?_, ?_, ?_⟩ <;> (unfold trySounding; (try dsimp only); (repeat' split) <;> simp)

@[simp] theorem stopGenerators_keeps (s : State) :
    (stopGenerators s).line = s.line ∧ (stopGenerators s).reg = s.reg ∧
    (stopGenerators s).pat = s.pat ∧ (stopGenerators s).fire = s.fire ∧
    (stopGenerators s).shut = s.shut ∧ (stopGenerators s).call = s.call ∧
    (stopGenerators s).board = s.board ∧ (stopGenerators s).mgmt = s.mgmt ∧
    (stopGenerators s).pending = s.pending := by
  refine ⟨?_, ?_, ?_, ?_, ?_, ?_, ?_, ?_, ?_⟩ <;> (unfold stopGenerators; (try dsimp only); (repeat' split) <;> simp)

@[simp] theorem leaveGate_keeps (f : Nat) (x : Amp) (s : State) :
    (leaveGate f x s).line = s.line ∧ (leaveGate f x s).reg = s.reg ∧
    (leaveGate f x s).pat = s.pat ∧ (leaveGate f x s).fire = s.fire ∧
    (leaveGate f x s).shut = s.shut ∧ (leaveGate f x s).call = s.call ∧
    (leaveGate f x s).board = s.board ∧ (leaveGate f x s).mgmt = s.mgmt ∧
    (leaveGate f x s).pending = s.pending := by
  refine ⟨?_, ?_, ?_, ?_, ?_, ?_, ?_, ?_, ?_⟩ <;> (unfold leaveGate; (try dsimp only); (repeat' split) <;> simp)

@[simp] theorem placePhrase_keeps (f : Nat) (o : AmpOrigin) (phrase : Nat) (s : State) :
    (placePhrase f o phrase s).line = s.line ∧ (placePhrase f o phrase s).reg = s.reg ∧
    (placePhrase f o phrase s).pat = s.pat ∧ (placePhrase f o phrase s).fire = s.fire ∧
    (placePhrase f o phrase s).shut = s.shut ∧ (placePhrase f o phrase s).call = s.call ∧
    (placePhrase f o phrase s).board = s.board ∧ (placePhrase f o phrase s).mgmt = s.mgmt ∧
    (placePhrase f o phrase s).pending = s.pending := by
  refine ⟨?_, ?_, ?_, ?_, ?_, ?_, ?_, ?_, ?_⟩ <;> (unfold placePhrase; (try dsimp only); (repeat' split) <;> simp)

@[simp] theorem gateOffWhere_keeps (p : Amp → Bool) (s : State) :
    (gateOffWhere p s).line = s.line ∧ (gateOffWhere p s).reg = s.reg ∧
    (gateOffWhere p s).pat = s.pat ∧ (gateOffWhere p s).fire = s.fire ∧
    (gateOffWhere p s).shut = s.shut ∧ (gateOffWhere p s).call = s.call ∧
    (gateOffWhere p s).board = s.board ∧ (gateOffWhere p s).mgmt = s.mgmt ∧
    (gateOffWhere p s).pending = s.pending := by
  refine ⟨?_, ?_, ?_, ?_, ?_, ?_, ?_, ?_, ?_⟩ <;> (unfold gateOffWhere; (try dsimp only); (repeat' split) <;> simp)

@[simp] theorem giveFirePhrase_keeps (f : Nat) (s : State) :
    (giveFirePhrase f s).line = s.line ∧ (giveFirePhrase f s).reg = s.reg ∧
    (giveFirePhrase f s).pat = s.pat ∧ (giveFirePhrase f s).fire = s.fire ∧
    (giveFirePhrase f s).shut = s.shut ∧ (giveFirePhrase f s).call = s.call ∧
    (giveFirePhrase f s).board = s.board ∧ (giveFirePhrase f s).mgmt = s.mgmt ∧
    (giveFirePhrase f s).pending = s.pending := by
  refine ⟨?_, ?_, ?_, ?_, ?_, ?_, ?_, ?_, ?_⟩ <;> (unfold giveFirePhrase; (try dsimp only); (repeat' split) <;> simp)

/-- What one fire phrase keeps, all of them keep. -/
@[simp] theorem fold_giveFirePhrase_keeps (l : List Nat) (s : State) :
    (l.foldl (fun s f => giveFirePhrase f s) s).line = s.line ∧
    (l.foldl (fun s f => giveFirePhrase f s) s).reg = s.reg ∧
    (l.foldl (fun s f => giveFirePhrase f s) s).pat = s.pat ∧
    (l.foldl (fun s f => giveFirePhrase f s) s).fire = s.fire ∧
    (l.foldl (fun s f => giveFirePhrase f s) s).shut = s.shut ∧
    (l.foldl (fun s f => giveFirePhrase f s) s).call = s.call ∧
    (l.foldl (fun s f => giveFirePhrase f s) s).board = s.board ∧
    (l.foldl (fun s f => giveFirePhrase f s) s).mgmt = s.mgmt ∧
    (l.foldl (fun s f => giveFirePhrase f s) s).pending = s.pending := by
  induction l generalizing s with
  | nil => simp
  | cons i l ih => simp [ih]

@[simp] theorem gatesOff_keeps (s : State) :
    (gatesOff s).line = s.line ∧ (gatesOff s).reg = s.reg ∧ (gatesOff s).pat = s.pat ∧
    (gatesOff s).fire = s.fire ∧ (gatesOff s).shut = s.shut ∧ (gatesOff s).call = s.call ∧
    (gatesOff s).board = s.board ∧ (gatesOff s).mgmt = s.mgmt ∧ (gatesOff s).pending = s.pending := by
  refine ⟨?_, ?_, ?_, ?_, ?_, ?_, ?_, ?_, ?_⟩ <;> simp [gatesOff]

@[simp] theorem fireOverride_keeps (s : State) :
    (fireOverride s).line = s.line ∧ (fireOverride s).reg = s.reg ∧ (fireOverride s).pat = s.pat ∧
    (fireOverride s).fire = s.fire ∧ (fireOverride s).shut = s.shut ∧
    (fireOverride s).call = s.call ∧ (fireOverride s).board = s.board ∧
    (fireOverride s).mgmt = s.mgmt ∧ (fireOverride s).pending = s.pending := by
  refine ⟨?_, ?_, ?_, ?_, ?_, ?_, ?_, ?_, ?_⟩ <;> (unfold fireOverride; (try dsimp only); (repeat' split) <;> simp)

@[simp] theorem overrideStops_keeps (s : State) :
    (overrideStops s).line = s.line ∧ (overrideStops s).reg = s.reg ∧
    (overrideStops s).pat = s.pat ∧ (overrideStops s).fire = s.fire ∧
    (overrideStops s).shut = s.shut ∧ (overrideStops s).call = s.call ∧
    (overrideStops s).board = s.board ∧ (overrideStops s).mgmt = s.mgmt ∧
    (overrideStops s).pending = s.pending := by
  refine ⟨?_, ?_, ?_, ?_, ?_, ?_, ?_, ?_, ?_⟩ <;> (unfold overrideStops; (try dsimp only); (repeat' split) <;> simp)

@[simp] theorem fold_gateOn_keeps (g : Nat) (l : List Nat) (s : State) :
    (l.foldl (fun s f => onAmp s f (Amp.gateOn g)) s).line = s.line ∧
    (l.foldl (fun s f => onAmp s f (Amp.gateOn g)) s).reg = s.reg ∧
    (l.foldl (fun s f => onAmp s f (Amp.gateOn g)) s).pat = s.pat ∧
    (l.foldl (fun s f => onAmp s f (Amp.gateOn g)) s).fire = s.fire ∧
    (l.foldl (fun s f => onAmp s f (Amp.gateOn g)) s).shut = s.shut ∧
    (l.foldl (fun s f => onAmp s f (Amp.gateOn g)) s).call = s.call ∧
    (l.foldl (fun s f => onAmp s f (Amp.gateOn g)) s).board = s.board ∧
    (l.foldl (fun s f => onAmp s f (Amp.gateOn g)) s).mgmt = s.mgmt ∧
    (l.foldl (fun s f => onAmp s f (Amp.gateOn g)) s).pending = s.pending := by
  induction l generalizing s with
  | nil => simp
  | cons i l ih => simp [ih]

@[simp] theorem startChime_keeps (chime : Nat) (floors : FloorSet) (s : State) :
    (startChime chime floors s).line = s.line ∧ (startChime chime floors s).reg = s.reg ∧
    (startChime chime floors s).pat = s.pat ∧ (startChime chime floors s).fire = s.fire ∧
    (startChime chime floors s).shut = s.shut ∧ (startChime chime floors s).call = s.call ∧
    (startChime chime floors s).board = s.board ∧ (startChime chime floors s).mgmt = s.mgmt ∧
    (startChime chime floors s).pending = s.pending := by
  refine ⟨?_, ?_, ?_, ?_, ?_, ?_, ?_, ?_, ?_⟩ <;> (unfold startChime; (try dsimp only); (repeat' split) <;> simp)

@[simp] theorem fold_placePhrase_keeps (o : AmpOrigin) (n : Nat) (l : List Nat) (s : State) :
    (l.foldl (fun s f => placePhrase f o n s) s).line = s.line ∧
    (l.foldl (fun s f => placePhrase f o n s) s).reg = s.reg ∧
    (l.foldl (fun s f => placePhrase f o n s) s).pat = s.pat ∧
    (l.foldl (fun s f => placePhrase f o n s) s).fire = s.fire ∧
    (l.foldl (fun s f => placePhrase f o n s) s).shut = s.shut ∧
    (l.foldl (fun s f => placePhrase f o n s) s).call = s.call ∧
    (l.foldl (fun s f => placePhrase f o n s) s).board = s.board ∧
    (l.foldl (fun s f => placePhrase f o n s) s).mgmt = s.mgmt ∧
    (l.foldl (fun s f => placePhrase f o n s) s).pending = s.pending := by
  induction l generalizing s with
  | nil => simp
  | cons i l ih => simp [ih]

@[simp] theorem stepEffect_keeps (k : StepKind) (s : State) :
    (stepEffect k s).line = s.line ∧ (stepEffect k s).reg = s.reg ∧ (stepEffect k s).fire = s.fire ∧
    (stepEffect k s).board = s.board ∧ (stepEffect k s).mgmt = s.mgmt ∧
    (stepEffect k s).pending = s.pending := by
  refine ⟨?_, ?_, ?_, ?_, ?_, ?_⟩ <;> (unfold stepEffect; (try dsimp only); (repeat' split) <;> simp)

@[simp] theorem finishClosing_keeps (s : State) :
    (finishClosing s).line = s.line ∧ (finishClosing s).reg = s.reg ∧
    (finishClosing s).pat = s.pat ∧ (finishClosing s).fire = s.fire ∧
    (finishClosing s).shut = s.shut ∧ (finishClosing s).board = s.board ∧
    (finishClosing s).mgmt = s.mgmt ∧ (finishClosing s).pending = s.pending := by
  refine ⟨?_, ?_, ?_, ?_, ?_, ?_, ?_, ?_⟩ <;> (unfold finishClosing; (try dsimp only); (repeat' split) <;> simp)

@[simp] theorem stepChecks_keeps (n : Nat) (s : State) :
    (stepChecks n s).line = s.line ∧ (stepChecks n s).reg = s.reg ∧ (stepChecks n s).fire = s.fire ∧
    (stepChecks n s).board = s.board ∧ (stepChecks n s).mgmt = s.mgmt ∧
    (stepChecks n s).pending = s.pending := by
  induction n generalizing s with
  | zero => simp [stepChecks]
  | succ n ih =>
    refine ⟨?_, ?_, ?_, ?_, ?_, ?_⟩ <;>
      (unfold stepChecks; (try dsimp only); (repeat' split) <;> simp [ih])

@[simp] theorem stepCheck_keeps (s : State) :
    (stepCheck s).line = s.line ∧ (stepCheck s).reg = s.reg ∧ (stepCheck s).fire = s.fire ∧
    (stepCheck s).board = s.board ∧ (stepCheck s).mgmt = s.mgmt ∧ (stepCheck s).pending = s.pending := by
  refine ⟨?_, ?_, ?_, ?_, ?_, ?_⟩ <;> (unfold stepCheck; (try dsimp only); (repeat' split) <;> simp)

@[simp] theorem startClosing_keeps (s : State) :
    (startClosing s).line = s.line ∧ (startClosing s).reg = s.reg ∧ (startClosing s).fire = s.fire ∧
    (startClosing s).board = s.board ∧ (startClosing s).mgmt = s.mgmt ∧
    (startClosing s).pending = s.pending := by
  refine ⟨?_, ?_, ?_, ?_, ?_, ?_⟩ <;> (unfold startClosing; (try dsimp only); (repeat' split) <;> simp)

@[simp] theorem abandonClosing_keeps (s : State) :
    (abandonClosing s).line = s.line ∧ (abandonClosing s).reg = s.reg ∧
    (abandonClosing s).pat = s.pat ∧ (abandonClosing s).fire = s.fire ∧
    (abandonClosing s).shut = s.shut ∧ (abandonClosing s).board = s.board ∧
    (abandonClosing s).mgmt = s.mgmt ∧ (abandonClosing s).pending = s.pending := by
  refine ⟨?_, ?_, ?_, ?_, ?_, ?_, ?_, ?_⟩ <;> (unfold abandonClosing; (try dsimp only); (repeat' split) <;> simp)

@[simp] theorem annFullAlarm_keeps (s : State) :
    (annFullAlarm s).line = s.line ∧ (annFullAlarm s).reg = s.reg ∧ (annFullAlarm s).pat = s.pat ∧
    (annFullAlarm s).fire = s.fire ∧ (annFullAlarm s).shut = s.shut ∧
    (annFullAlarm s).board = s.board ∧ (annFullAlarm s).mgmt = s.mgmt ∧
    (annFullAlarm s).pending = s.pending := by
  refine ⟨?_, ?_, ?_, ?_, ?_, ?_, ?_, ?_⟩ <;> (unfold annFullAlarm; (try dsimp only); (repeat' split) <;> simp)

@[simp] theorem automaticLook_keeps (s : State) :
    (automaticLook s).line = s.line ∧ (automaticLook s).reg = s.reg ∧
    (automaticLook s).fire = s.fire ∧ (automaticLook s).board = s.board ∧
    (automaticLook s).mgmt = s.mgmt ∧ (automaticLook s).pending = s.pending := by
  refine ⟨?_, ?_, ?_, ?_, ?_, ?_⟩ <;> (unfold automaticLook; (try dsimp only); (repeat' split) <;> simp)

@[simp] theorem phraseEnds_keeps (f : Nat) (s : State) :
    (phraseEnds f s).line = s.line ∧ (phraseEnds f s).reg = s.reg ∧ (phraseEnds f s).fire = s.fire ∧
    (phraseEnds f s).board = s.board ∧ (phraseEnds f s).mgmt = s.mgmt ∧
    (phraseEnds f s).pending = s.pending := by
  refine ⟨?_, ?_, ?_, ?_, ?_, ?_⟩ <;> (unfold phraseEnds; (try dsimp only); (repeat' split) <;> simp)

@[simp] theorem phraseTimerExpires_keeps (f : Nat) (s : State) :
    (phraseTimerExpires f s).line = s.line ∧ (phraseTimerExpires f s).reg = s.reg ∧
    (phraseTimerExpires f s).fire = s.fire ∧ (phraseTimerExpires f s).board = s.board ∧
    (phraseTimerExpires f s).mgmt = s.mgmt ∧ (phraseTimerExpires f s).pending = s.pending := by
  refine ⟨?_, ?_, ?_, ?_, ?_, ?_⟩ <;> (unfold phraseTimerExpires; (try dsimp only); (repeat' split) <;> simp)

@[simp] theorem ampMissing_keeps (f : Nat) (s : State) :
    (ampMissing f s).line = s.line ∧ (ampMissing f s).reg = s.reg ∧ (ampMissing f s).fire = s.fire ∧
    (ampMissing f s).board = s.board ∧ (ampMissing f s).mgmt = s.mgmt ∧
    (ampMissing f s).pending = s.pending := by
  refine ⟨?_, ?_, ?_, ?_, ?_, ?_⟩ <;> (unfold ampMissing; (try dsimp only); (repeat' split) <;> simp)

@[simp] theorem phraseDone_keeps (f number : Nat) (s : State) :
    (phraseDone f number s).line = s.line ∧ (phraseDone f number s).reg = s.reg ∧
    (phraseDone f number s).fire = s.fire ∧ (phraseDone f number s).board = s.board ∧
    (phraseDone f number s).mgmt = s.mgmt ∧ (phraseDone f number s).pending = s.pending := by
  refine ⟨?_, ?_, ?_, ?_, ?_, ?_⟩ <;> (unfold phraseDone; (try dsimp only); (repeat' split) <;> simp)

@[simp] theorem gapTimerExpires_keeps (f : Nat) (s : State) :
    (gapTimerExpires f s).line = s.line ∧ (gapTimerExpires f s).reg = s.reg ∧
    (gapTimerExpires f s).pat = s.pat ∧ (gapTimerExpires f s).fire = s.fire ∧
    (gapTimerExpires f s).shut = s.shut ∧ (gapTimerExpires f s).call = s.call ∧
    (gapTimerExpires f s).board = s.board ∧ (gapTimerExpires f s).mgmt = s.mgmt ∧
    (gapTimerExpires f s).pending = s.pending := by
  refine ⟨?_, ?_, ?_, ?_, ?_, ?_, ?_, ?_, ?_⟩ <;> (unfold gapTimerExpires; (try dsimp only); (repeat' split) <;> simp)

@[simp] theorem ampReturns_keeps (f : Nat) (s : State) :
    (ampReturns f s).line = s.line ∧ (ampReturns f s).reg = s.reg ∧ (ampReturns f s).pat = s.pat ∧
    (ampReturns f s).fire = s.fire ∧ (ampReturns f s).shut = s.shut ∧
    (ampReturns f s).call = s.call ∧ (ampReturns f s).board = s.board ∧
    (ampReturns f s).mgmt = s.mgmt ∧ (ampReturns f s).pending = s.pending := by
  refine ⟨?_, ?_, ?_, ?_, ?_, ?_, ?_, ?_, ?_⟩ <;> (unfold ampReturns; (try dsimp only); (repeat' split) <;> simp)

@[simp] theorem notePanelPhrase_keeps (phrase number : Nat) (s : State) (f : Nat) :
    (notePanelPhrase phrase number s f).line = s.line ∧
    (notePanelPhrase phrase number s f).reg = s.reg ∧ (notePanelPhrase phrase number s f).pat = s.pat ∧
    (notePanelPhrase phrase number s f).fire = s.fire ∧
    (notePanelPhrase phrase number s f).shut = s.shut ∧
    (notePanelPhrase phrase number s f).call = s.call ∧
    (notePanelPhrase phrase number s f).board = s.board ∧
    (notePanelPhrase phrase number s f).mgmt = s.mgmt ∧
    (notePanelPhrase phrase number s f).pending = s.pending := by
  refine ⟨?_, ?_, ?_, ?_, ?_, ?_, ?_, ?_, ?_⟩ <;> (unfold notePanelPhrase; (try dsimp only); (repeat' split) <;> simp)

@[simp] theorem notePanelGate_keeps (value : Nat) (s : State) (f : Nat) :
    (notePanelGate value s f).line = s.line ∧ (notePanelGate value s f).reg = s.reg ∧
    (notePanelGate value s f).fire = s.fire ∧ (notePanelGate value s f).board = s.board ∧
    (notePanelGate value s f).mgmt = s.mgmt ∧ (notePanelGate value s f).pending = s.pending := by
  refine ⟨?_, ?_, ?_, ?_, ?_, ?_⟩ <;> (unfold notePanelGate; (try dsimp only); (repeat' split) <;> simp)

@[simp] theorem endChime_keeps (g : Nat) (s : State) :
    (endChime g s).line = s.line ∧ (endChime g s).reg = s.reg ∧ (endChime g s).fire = s.fire ∧
    (endChime g s).board = s.board ∧ (endChime g s).mgmt = s.mgmt ∧
    (endChime g s).pending = s.pending := by
  refine ⟨?_, ?_, ?_, ?_, ?_, ?_⟩ <;> (unfold endChime; (try dsimp only); (repeat' split) <;> simp)

@[simp] theorem noteEnds_keeps (g : Nat) (s : State) :
    (noteEnds g s).line = s.line ∧ (noteEnds g s).reg = s.reg ∧ (noteEnds g s).fire = s.fire ∧
    (noteEnds g s).board = s.board ∧ (noteEnds g s).mgmt = s.mgmt ∧
    (noteEnds g s).pending = s.pending := by
  refine ⟨?_, ?_, ?_, ?_, ?_, ?_⟩ <;> (unfold noteEnds; (try dsimp only); (repeat' split) <;> simp)

@[simp] theorem chimeIsOver_keeps (g : Nat) (s : State) :
    (chimeIsOver g s).line = s.line ∧ (chimeIsOver g s).reg = s.reg ∧
    (chimeIsOver g s).fire = s.fire ∧ (chimeIsOver g s).board = s.board ∧
    (chimeIsOver g s).mgmt = s.mgmt ∧ (chimeIsOver g s).pending = s.pending := by
  refine ⟨?_, ?_, ?_, ?_, ?_, ?_⟩ <;> (unfold chimeIsOver; (try dsimp only); (repeat' split) <;> simp)

end Sys2Proof.Machine
end

