-- ==== Sys2Proof/Laws/FramesLine.lean ====
section
/-! SUPPORT. Which units of the state the operations of the zones, the stations, the line and the timers leave
as they are. -/

namespace Sys2Proof.Machine

@[simp] theorem onDetector_keeps (i : Nat) (f : Detector → Detector) (s : State) :
    (onDetector s i f).line = s.line ∧ (onDetector s i f).reg = s.reg ∧
    (onDetector s i f).pat = s.pat ∧ (onDetector s i f).shut = s.shut ∧
    (onDetector s i f).call = s.call ∧ (onDetector s i f).board = s.board ∧
    (onDetector s i f).ann = s.ann ∧ (onDetector s i f).mgmt = s.mgmt ∧
    (onDetector s i f).pending = s.pending := by
  refine ⟨?_, ?_, ?_, ?_, ?_, ?_, ?_, ?_, ?_⟩ <;> (unfold onDetector; (try dsimp only); (repeat' split) <;> simp)

@[simp] theorem onCallPoint_keeps (i : Nat) (f : CallPoint → CallPoint) (s : State) :
    (onCallPoint s i f).line = s.line ∧ (onCallPoint s i f).reg = s.reg ∧
    (onCallPoint s i f).pat = s.pat ∧ (onCallPoint s i f).shut = s.shut ∧
    (onCallPoint s i f).call = s.call ∧ (onCallPoint s i f).board = s.board ∧
    (onCallPoint s i f).ann = s.ann ∧ (onCallPoint s i f).mgmt = s.mgmt ∧
    (onCallPoint s i f).pending = s.pending := by
  refine ⟨?_, ?_, ?_, ?_, ?_, ?_, ?_, ?_, ?_⟩ <;> (unfold onCallPoint; (try dsimp only); (repeat' split) <;> simp)

@[simp] theorem markFullZones_keeps (s : State) :
    (markFullZones s).line = s.line ∧ (markFullZones s).reg = s.reg ∧
    (markFullZones s).pat = s.pat ∧ (markFullZones s).shut = s.shut ∧
    (markFullZones s).call = s.call ∧ (markFullZones s).board = s.board ∧
    (markFullZones s).ann = s.ann ∧ (markFullZones s).mgmt = s.mgmt ∧
    (markFullZones s).pending = s.pending := by
  refine ⟨?_, ?_, ?_, ?_, ?_, ?_, ?_, ?_, ?_⟩ <;> (unfold markFullZones; (try dsimp only); (repeat' split) <;> simp)

@[simp] theorem enterFullAlarm_keeps (z : Nat) (s : State) :
    (enterFullAlarm z s).line = s.line ∧ (enterFullAlarm z s).reg = s.reg ∧
    (enterFullAlarm z s).board = s.board ∧ (enterFullAlarm z s).mgmt = s.mgmt ∧
    (enterFullAlarm z s).pending = s.pending := by
  refine ⟨?_, ?_, ?_, ?_, ?_⟩ <;> (unfold enterFullAlarm; (try dsimp only); (repeat' split) <;> simp)

@[simp] theorem detectorConfirmed_keeps (d z : Nat) (s : State) :
    (detectorConfirmed d z s).line = s.line ∧ (detectorConfirmed d z s).reg = s.reg ∧
    (detectorConfirmed d z s).board = s.board ∧ (detectorConfirmed d z s).mgmt = s.mgmt ∧
    (detectorConfirmed d z s).pending = s.pending := by
  refine ⟨?_, ?_, ?_, ?_, ?_⟩ <;> (unfold detectorConfirmed; (try dsimp only); (repeat' split) <;> simp)

@[simp] theorem detectorReport_keeps (i v : Nat) (s : State) :
    (detectorReport i v s).line = s.line ∧ (detectorReport i v s).reg = s.reg ∧
    (detectorReport i v s).board = s.board ∧ (detectorReport i v s).mgmt = s.mgmt ∧
    (detectorReport i v s).pending = s.pending := by
  refine ⟨?_, ?_, ?_, ?_, ?_⟩ <;> (unfold detectorReport; (try dsimp only); (repeat' split) <;> simp)

@[simp] theorem alarmZone_keeps (z : Nat) (s : State) :
    (alarmZone z s).line = s.line ∧ (alarmZone z s).reg = s.reg ∧ (alarmZone z s).board = s.board ∧
    (alarmZone z s).mgmt = s.mgmt ∧ (alarmZone z s).pending = s.pending := by
  refine ⟨?_, ?_, ?_, ?_, ?_⟩ <;> (unfold alarmZone; (try dsimp only); (repeat' split) <;> simp)

@[simp] theorem callPointReport_keeps (i : Nat) (operated : Bool) (s : State) :
    (callPointReport i operated s).line = s.line ∧ (callPointReport i operated s).reg = s.reg ∧
    (callPointReport i operated s).board = s.board ∧ (callPointReport i operated s).mgmt = s.mgmt ∧
    (callPointReport i operated s).pending = s.pending := by
  refine ⟨?_, ?_, ?_, ?_, ?_⟩ <;> (unfold callPointReport; (try dsimp only); (repeat' split) <;> simp)

@[simp] theorem stageTimerExpires_keeps (z : Nat) (s : State) :
    (stageTimerExpires z s).line = s.line ∧ (stageTimerExpires z s).reg = s.reg ∧
    (stageTimerExpires z s).board = s.board ∧ (stageTimerExpires z s).mgmt = s.mgmt ∧
    (stageTimerExpires z s).pending = s.pending := by
  refine ⟨?_, ?_, ?_, ?_, ?_⟩ <;> (unfold stageTimerExpires; (try dsimp only); (repeat' split) <;> simp)

@[simp] theorem alarmOver_keeps (s : State) :
    (alarmOver s).line = s.line ∧ (alarmOver s).reg = s.reg ∧ (alarmOver s).board = s.board ∧
    (alarmOver s).mgmt = s.mgmt ∧ (alarmOver s).pending = s.pending := by
  refine ⟨?_, ?_, ?_, ?_, ?_⟩ <;> (unfold alarmOver; (try dsimp only); (repeat' split) <;> simp)

@[simp] theorem refreshZoneFault_keeps (z : Nat) (s : State) :
    (refreshZoneFault z s).line = s.line ∧ (refreshZoneFault z s).reg = s.reg ∧
    (refreshZoneFault z s).pat = s.pat ∧ (refreshZoneFault z s).shut = s.shut ∧
    (refreshZoneFault z s).call = s.call ∧ (refreshZoneFault z s).board = s.board ∧
    (refreshZoneFault z s).ann = s.ann ∧ (refreshZoneFault z s).mgmt = s.mgmt ∧
    (refreshZoneFault z s).pending = s.pending := by
  refine ⟨?_, ?_, ?_, ?_, ?_, ?_, ?_, ?_, ?_⟩ <;> (unfold refreshZoneFault; (try dsimp only); (repeat' split) <;> simp)

@[simp] theorem detectorMissing_keeps (i : Nat) (s : State) :
    (detectorMissing i s).line = s.line ∧ (detectorMissing i s).reg = s.reg ∧
    (detectorMissing i s).pat = s.pat ∧ (detectorMissing i s).shut = s.shut ∧
    (detectorMissing i s).call = s.call ∧ (detectorMissing i s).board = s.board ∧
    (detectorMissing i s).ann = s.ann ∧ (detectorMissing i s).mgmt = s.mgmt ∧
    (detectorMissing i s).pending = s.pending := by
  refine ⟨?_, ?_, ?_, ?_, ?_, ?_, ?_, ?_, ?_⟩ <;> (unfold detectorMissing; (try dsimp only); (repeat' split) <;> simp)

@[simp] theorem detectorReturns_keeps (i : Nat) (s : State) :
    (detectorReturns i s).line = s.line ∧ (detectorReturns i s).reg = s.reg ∧
    (detectorReturns i s).pat = s.pat ∧ (detectorReturns i s).shut = s.shut ∧
    (detectorReturns i s).call = s.call ∧ (detectorReturns i s).board = s.board ∧
    (detectorReturns i s).ann = s.ann ∧ (detectorReturns i s).mgmt = s.mgmt ∧
    (detectorReturns i s).pending = s.pending := by
  refine ⟨?_, ?_, ?_, ?_, ?_, ?_, ?_, ?_, ?_⟩ <;> (unfold detectorReturns; (try dsimp only); (repeat' split) <;> simp)

@[simp] theorem callPointMissing_keeps (i : Nat) (s : State) :
    (callPointMissing i s).line = s.line ∧ (callPointMissing i s).reg = s.reg ∧
    (callPointMissing i s).pat = s.pat ∧ (callPointMissing i s).shut = s.shut ∧
    (callPointMissing i s).call = s.call ∧ (callPointMissing i s).board = s.board ∧
    (callPointMissing i s).ann = s.ann ∧ (callPointMissing i s).mgmt = s.mgmt ∧
    (callPointMissing i s).pending = s.pending := by
  refine ⟨?_, ?_, ?_, ?_, ?_, ?_, ?_, ?_, ?_⟩ <;> (unfold callPointMissing; (try dsimp only); (repeat' split) <;> simp)

@[simp] theorem callPointReturns_keeps (i : Nat) (s : State) :
    (callPointReturns i s).line = s.line ∧ (callPointReturns i s).reg = s.reg ∧
    (callPointReturns i s).pat = s.pat ∧ (callPointReturns i s).shut = s.shut ∧
    (callPointReturns i s).call = s.call ∧ (callPointReturns i s).board = s.board ∧
    (callPointReturns i s).ann = s.ann ∧ (callPointReturns i s).mgmt = s.mgmt ∧
    (callPointReturns i s).pending = s.pending := by
  refine ⟨?_, ?_, ?_, ?_, ?_, ?_, ?_, ?_, ?_⟩ <;> (unfold callPointReturns; (try dsimp only); (repeat' split) <;> simp)

@[simp] theorem fireArm_keeps (s : State) :
    (fireArm s).line = s.line ∧ (fireArm s).reg = s.reg ∧ (fireArm s).pat = s.pat ∧
    (fireArm s).shut = s.shut ∧ (fireArm s).call = s.call ∧ (fireArm s).board = s.board ∧
    (fireArm s).ann = s.ann ∧ (fireArm s).mgmt = s.mgmt ∧ (fireArm s).pending = s.pending := by
  refine ⟨?_, ?_, ?_, ?_, ?_, ?_, ?_, ?_, ?_⟩ <;> (unfold fireArm; (try dsimp only); (repeat' split) <;> simp)

@[simp] theorem fireDisarm_keeps (s : State) :
    (fireDisarm s).line = s.line ∧ (fireDisarm s).reg = s.reg ∧ (fireDisarm s).pat = s.pat ∧
    (fireDisarm s).shut = s.shut ∧ (fireDisarm s).call = s.call ∧ (fireDisarm s).board = s.board ∧
    (fireDisarm s).ann = s.ann ∧ (fireDisarm s).mgmt = s.mgmt ∧ (fireDisarm s).pending = s.pending := by
  refine ⟨?_, ?_, ?_, ?_, ?_, ?_, ?_, ?_, ?_⟩ <;> (unfold fireDisarm; (try dsimp only); (repeat' split) <;> simp)

@[simp] theorem refreshImage_keeps (s : State) :
    (refreshImage s).line = s.line ∧ (refreshImage s).reg = s.reg ∧ (refreshImage s).pat = s.pat ∧
    (refreshImage s).fire = s.fire ∧ (refreshImage s).shut = s.shut ∧
    (refreshImage s).call = s.call ∧ (refreshImage s).ann = s.ann ∧ (refreshImage s).mgmt = s.mgmt ∧
    (refreshImage s).pending = s.pending := by
  refine ⟨?_, ?_, ?_, ?_, ?_, ?_, ?_, ?_, ?_⟩ <;> (unfold refreshImage; (try dsimp only); (repeat' split) <;> simp)

@[simp] theorem fold_alarmZone_keeps (l : List Nat) (s : State) :
    (l.foldl (fun s z => alarmZone z s) s).line = s.line ∧
    (l.foldl (fun s z => alarmZone z s) s).reg = s.reg ∧
    (l.foldl (fun s z => alarmZone z s) s).board = s.board ∧
    (l.foldl (fun s z => alarmZone z s) s).mgmt = s.mgmt ∧
    (l.foldl (fun s z => alarmZone z s) s).pending = s.pending := by
  induction l generalizing s with
  | nil => simp
  | cons i l ih => simp [ih]

@[simp] theorem clearFlags_keeps (s : State) :
    (clearFlags s).reg = s.reg ∧ (clearFlags s).pat = s.pat ∧ (clearFlags s).fire = s.fire ∧
    (clearFlags s).shut = s.shut ∧ (clearFlags s).call = s.call ∧ (clearFlags s).board = s.board ∧
    (clearFlags s).ann = s.ann ∧ (clearFlags s).mgmt = s.mgmt ∧ (clearFlags s).pending = s.pending := by
  refine ⟨?_, ?_, ?_, ?_, ?_, ?_, ?_, ?_, ?_⟩ <;> (unfold clearFlags; (try dsimp only); (repeat' split) <;> simp)

@[simp] theorem ownerLoss_keeps (a : Nat) (r : Role) (s : State) :
    (ownerLoss a r s).line = s.line ∧ (ownerLoss a r s).reg = s.reg ∧
    (ownerLoss a r s).board = s.board ∧ (ownerLoss a r s).mgmt = s.mgmt ∧
    (ownerLoss a r s).pending = s.pending := by
  refine ⟨?_, ?_, ?_, ?_, ?_⟩ <;> (unfold ownerLoss withEntry; (try dsimp only); (repeat' split) <;> simp)

@[simp] theorem ownerReturn_keeps (a : Nat) (r : Role) (s : State) :
    (ownerReturn a r s).line = s.line ∧ (ownerReturn a r s).reg = s.reg ∧
    (ownerReturn a r s).board = s.board ∧ (ownerReturn a r s).mgmt = s.mgmt ∧
    (ownerReturn a r s).pending = s.pending := by
  refine ⟨?_, ?_, ?_, ?_, ?_⟩ <;> (unfold ownerReturn withEntry; (try dsimp only); (repeat' split) <;> simp)

@[simp] theorem pollMissed_keeps (a : Nat) (s : State) :
    (pollMissed a s).line = s.line ∧ (pollMissed a s).board = s.board ∧
    (pollMissed a s).mgmt = s.mgmt ∧ (pollMissed a s).pending = s.pending := by
  refine ⟨?_, ?_, ?_, ?_⟩ <;> (unfold pollMissed; (try dsimp only); (repeat' split) <;> simp)

@[simp] theorem pollAnswered_keeps (a : Nat) (s : State) :
    (pollAnswered a s).line = s.line ∧ (pollAnswered a s).board = s.board ∧
    (pollAnswered a s).mgmt = s.mgmt ∧ (pollAnswered a s).pending = s.pending := by
  refine ⟨?_, ?_, ?_, ?_⟩ <;> (unfold pollAnswered; (try dsimp only); (repeat' split) <;> simp)

@[simp] theorem tap_keeps (a : Nat) (r : Report) (s : State) :
    (tap a r s).line = s.line ∧ (tap a r s).reg = s.reg ∧ (tap a r s).board = s.board ∧
    (tap a r s).mgmt = s.mgmt ∧ (tap a r s).pending = s.pending := by
  refine ⟨?_, ?_, ?_, ?_, ?_⟩ <;> (unfold tap withEntry; (try dsimp only); (repeat' split) <;> simp)

@[simp] theorem forwardReport_keeps (h : Hdr) (r : Report) (s : State) :
    (forwardReport h r s).reg = s.reg ∧ (forwardReport h r s).pat = s.pat ∧
    (forwardReport h r s).fire = s.fire ∧ (forwardReport h r s).shut = s.shut ∧
    (forwardReport h r s).call = s.call ∧ (forwardReport h r s).board = s.board ∧
    (forwardReport h r s).ann = s.ann ∧ (forwardReport h r s).mgmt = s.mgmt ∧
    (forwardReport h r s).pending = s.pending := by
  refine ⟨?_, ?_, ?_, ?_, ?_, ?_, ?_, ?_, ?_⟩ <;> (unfold forwardReport; (try dsimp only); (repeat' split) <;> simp)

@[simp] theorem freePortB_keeps (s : State) :
    (freePortB s).reg = s.reg ∧ (freePortB s).pat = s.pat ∧ (freePortB s).fire = s.fire ∧
    (freePortB s).shut = s.shut ∧ (freePortB s).call = s.call ∧ (freePortB s).board = s.board ∧
    (freePortB s).ann = s.ann ∧ (freePortB s).mgmt = s.mgmt ∧ (freePortB s).pending = s.pending := by
  refine ⟨?_, ?_, ?_, ?_, ?_, ?_, ?_, ?_, ?_⟩ <;> (unfold freePortB; (try dsimp only); (repeat' split) <;> simp)

@[simp] theorem outstandingMissed_keeps (s : State) :
    (outstandingMissed s).board = s.board ∧ (outstandingMissed s).mgmt = s.mgmt ∧
    (outstandingMissed s).pending = s.pending := by
  refine ⟨?_, ?_, ?_⟩ <;> (unfold outstandingMissed; (try dsimp only); (repeat' split) <;> simp)

@[simp] theorem strangerArrives_keeps (h : Hdr) (r : Option Report) (s : State) :
    (strangerArrives h r s).reg = s.reg ∧ (strangerArrives h r s).pat = s.pat ∧
    (strangerArrives h r s).fire = s.fire ∧ (strangerArrives h r s).shut = s.shut ∧
    (strangerArrives h r s).call = s.call ∧ (strangerArrives h r s).board = s.board ∧
    (strangerArrives h r s).ann = s.ann ∧ (strangerArrives h r s).mgmt = s.mgmt ∧
    (strangerArrives h r s).pending = s.pending := by
  refine ⟨?_, ?_, ?_, ?_, ?_, ?_, ?_, ?_, ?_⟩ <;> (unfold strangerArrives; (try dsimp only); (repeat' split) <;> simp)

@[simp] theorem frameDuringPoll_keeps (polled : Nat) (h : Hdr) (r : Option Report) (s : State) :
    (frameDuringPoll polled h r s).board = s.board ∧ (frameDuringPoll polled h r s).mgmt = s.mgmt ∧
    (frameDuringPoll polled h r s).pending = s.pending := by
  refine ⟨?_, ?_, ?_⟩ <;> (unfold frameDuringPoll; (try dsimp only); (repeat' split) <;> simp)

@[simp] theorem receiveB_keeps (h : Hdr) (r : Option Report) (s : State) :
    (receiveB h r s).board = s.board ∧ (receiveB h r s).mgmt = s.mgmt ∧
    (receiveB h r s).pending = s.pending := by
  refine ⟨?_, ?_, ?_⟩ <;> (unfold receiveB; (try dsimp only); (repeat' split) <;> simp)

@[simp] theorem panelHeard_keeps (src : Byte) (s : State) :
    (panelHeard src s).line = s.line ∧ (panelHeard src s).pat = s.pat ∧
    (panelHeard src s).fire = s.fire ∧ (panelHeard src s).shut = s.shut ∧
    (panelHeard src s).call = s.call ∧ (panelHeard src s).board = s.board ∧
    (panelHeard src s).ann = s.ann ∧ (panelHeard src s).pending = s.pending := by
  refine ⟨?_, ?_, ?_, ?_, ?_, ?_, ?_, ?_⟩ <;> (unfold panelHeard; (try dsimp only); (repeat' split) <;> simp)

@[simp] theorem panelTimerExpires_keeps (s : State) :
    (panelTimerExpires s).line = s.line ∧ (panelTimerExpires s).pat = s.pat ∧
    (panelTimerExpires s).fire = s.fire ∧ (panelTimerExpires s).shut = s.shut ∧
    (panelTimerExpires s).call = s.call ∧ (panelTimerExpires s).board = s.board ∧
    (panelTimerExpires s).ann = s.ann ∧ (panelTimerExpires s).mgmt = s.mgmt ∧
    (panelTimerExpires s).pending = s.pending := by
  refine ⟨?_, ?_, ?_, ?_, ?_, ?_, ?_, ?_, ?_⟩ <;> (unfold panelTimerExpires; (try dsimp only); (repeat' split) <;> simp)

@[simp] theorem fillVeto_keeps (o : Order) (r : VetoReason) (st : VetoStage) (s : State) :
    (fillVeto o r st s).reg = s.reg ∧ (fillVeto o r st s).pat = s.pat ∧
    (fillVeto o r st s).fire = s.fire ∧ (fillVeto o r st s).shut = s.shut ∧
    (fillVeto o r st s).call = s.call ∧ (fillVeto o r st s).board = s.board ∧
    (fillVeto o r st s).ann = s.ann ∧ (fillVeto o r st s).mgmt = s.mgmt ∧
    (fillVeto o r st s).pending = s.pending := by
  refine ⟨?_, ?_, ?_, ?_, ?_, ?_, ?_, ?_, ?_⟩ <;> (unfold fillVeto; (try dsimp only); (repeat' split) <;> simp)

@[simp] theorem fold_notePanelRing_keeps (a b n : Nat) (l : List Nat) (s : State) :
    (l.foldl (notePanelRing a b n) s).line = s.line ∧
    (l.foldl (notePanelRing a b n) s).reg = s.reg ∧ (l.foldl (notePanelRing a b n) s).pat = s.pat ∧
    (l.foldl (notePanelRing a b n) s).fire = s.fire ∧
    (l.foldl (notePanelRing a b n) s).shut = s.shut ∧
    (l.foldl (notePanelRing a b n) s).board = s.board ∧
    (l.foldl (notePanelRing a b n) s).ann = s.ann ∧
    (l.foldl (notePanelRing a b n) s).mgmt = s.mgmt ∧
    (l.foldl (notePanelRing a b n) s).pending = s.pending := by
  induction l generalizing s with
  | nil => simp
  | cons i l ih => simp [ih]

@[simp] theorem fold_notePanelPhrase_keeps (a b : Nat) (l : List Nat) (s : State) :
    (l.foldl (notePanelPhrase a b) s).line = s.line ∧
    (l.foldl (notePanelPhrase a b) s).reg = s.reg ∧ (l.foldl (notePanelPhrase a b) s).pat = s.pat ∧
    (l.foldl (notePanelPhrase a b) s).fire = s.fire ∧
    (l.foldl (notePanelPhrase a b) s).shut = s.shut ∧
    (l.foldl (notePanelPhrase a b) s).call = s.call ∧
    (l.foldl (notePanelPhrase a b) s).board = s.board ∧
    (l.foldl (notePanelPhrase a b) s).mgmt = s.mgmt ∧
    (l.foldl (notePanelPhrase a b) s).pending = s.pending := by
  induction l generalizing s with
  | nil => simp
  | cons i l ih => simp [ih]

@[simp] theorem fold_notePanelGate_keeps (v : Nat) (l : List Nat) (s : State) :
    (l.foldl (notePanelGate v) s).line = s.line ∧ (l.foldl (notePanelGate v) s).reg = s.reg ∧
    (l.foldl (notePanelGate v) s).fire = s.fire ∧ (l.foldl (notePanelGate v) s).board = s.board ∧
    (l.foldl (notePanelGate v) s).mgmt = s.mgmt ∧ (l.foldl (notePanelGate v) s).pending = s.pending := by
  induction l generalizing s with
  | nil => simp
  | cons i l ih => simp [ih]

@[simp] theorem notePassed_keeps (o : Order) (s : State) :
    (notePassed o s).line = s.line ∧ (notePassed o s).reg = s.reg ∧ (notePassed o s).fire = s.fire ∧
    (notePassed o s).board = s.board ∧ (notePassed o s).pending = s.pending := by
  refine ⟨?_, ?_, ?_, ?_, ?_⟩ <;> (unfold notePassed withEntry; (try dsimp only); (repeat' split) <;> simp)

@[simp] theorem passOrder_keeps (o : Order) (s : State) :
    (passOrder o s).reg = s.reg ∧ (passOrder o s).fire = s.fire ∧ (passOrder o s).board = s.board ∧
    (passOrder o s).pending = s.pending := by
  refine ⟨?_, ?_, ?_, ?_⟩ <;> (unfold passOrder; (try dsimp only); (repeat' split) <;> simp)

@[simp] theorem consumeRest_keeps (s : State) :
    (consumeRest s).line = s.line ∧ (consumeRest s).reg = s.reg ∧ (consumeRest s).fire = s.fire ∧
    (consumeRest s).shut = s.shut ∧ (consumeRest s).call = s.call ∧
    (consumeRest s).board = s.board ∧ (consumeRest s).ann = s.ann ∧ (consumeRest s).mgmt = s.mgmt ∧
    (consumeRest s).pending = s.pending := by
  refine ⟨?_, ?_, ?_, ?_, ?_, ?_, ?_, ?_, ?_⟩ <;> (unfold consumeRest; (try dsimp only); (repeat' split) <;> simp)

@[simp] theorem filterOrder_keeps (o : Order) (s : State) :
    (filterOrder o s).reg = s.reg ∧ (filterOrder o s).fire = s.fire ∧
    (filterOrder o s).board = s.board ∧ (filterOrder o s).pending = s.pending := by
  refine ⟨?_, ?_, ?_, ?_⟩ <;> (unfold filterOrder; (try dsimp only); (repeat' split) <;> simp)

@[simp] theorem orderArrives_keeps (h : Hdr) (b : OrderBody) (s : State) :
    (orderArrives h b s).fire = s.fire ∧ (orderArrives h b s).board = s.board ∧
    (orderArrives h b s).pending = s.pending := by
  refine ⟨?_, ?_, ?_⟩ <;> (unfold orderArrives; (try dsimp only); (repeat' split) <;> simp)

@[simp] theorem sendOrder_keeps (o : Order) (s : State) :
    (sendOrder o s).reg = s.reg ∧ (sendOrder o s).pat = s.pat ∧ (sendOrder o s).fire = s.fire ∧
    (sendOrder o s).shut = s.shut ∧ (sendOrder o s).call = s.call ∧
    (sendOrder o s).board = s.board ∧ (sendOrder o s).ann = s.ann ∧ (sendOrder o s).mgmt = s.mgmt ∧
    (sendOrder o s).pending = s.pending := by
  refine ⟨?_, ?_, ?_, ?_, ?_, ?_, ?_, ?_, ?_⟩ <;> (unfold sendOrder; (try dsimp only); (repeat' split) <;> simp)

@[simp] theorem sendOwn_keeps (a : Nat) (b : OrderBody) (s : State) :
    (sendOwn a b s).reg = s.reg ∧ (sendOwn a b s).pat = s.pat ∧ (sendOwn a b s).fire = s.fire ∧
    (sendOwn a b s).shut = s.shut ∧ (sendOwn a b s).call = s.call ∧
    (sendOwn a b s).board = s.board ∧ (sendOwn a b s).ann = s.ann ∧ (sendOwn a b s).mgmt = s.mgmt ∧
    (sendOwn a b s).pending = s.pending := by
  refine ⟨?_, ?_, ?_, ?_, ?_, ?_, ?_, ?_, ?_⟩ <;> (unfold sendOwn; (try dsimp only); (repeat' split) <;> simp)

@[simp] theorem dropStart_keeps (s : State) :
    (dropStart s).line = s.line ∧ (dropStart s).reg = s.reg ∧ (dropStart s).fire = s.fire ∧
    (dropStart s).shut = s.shut ∧ (dropStart s).call = s.call ∧ (dropStart s).board = s.board ∧
    (dropStart s).ann = s.ann ∧ (dropStart s).mgmt = s.mgmt ∧ (dropStart s).pending = s.pending := by
  refine ⟨?_, ?_, ?_, ?_, ?_, ?_, ?_, ?_, ?_⟩ <;> (unfold dropStart; (try dsimp only); (repeat' split) <;> simp)

@[simp] theorem pollSent_keeps (s : State) :
    (pollSent s).reg = s.reg ∧ (pollSent s).pat = s.pat ∧ (pollSent s).fire = s.fire ∧
    (pollSent s).shut = s.shut ∧ (pollSent s).call = s.call ∧ (pollSent s).board = s.board ∧
    (pollSent s).ann = s.ann ∧ (pollSent s).mgmt = s.mgmt ∧ (pollSent s).pending = s.pending := by
  refine ⟨?_, ?_, ?_, ?_, ?_, ?_, ?_, ?_, ?_⟩ <;> (unfold pollSent; (try dsimp only); (repeat' split) <;> simp)

@[simp] theorem searchAgain_keeps (t : Nat) (s : State) :
    (searchAgain t s).2.line = s.line ∧ (searchAgain t s).2.reg = s.reg ∧
    (searchAgain t s).2.fire = s.fire ∧ (searchAgain t s).2.shut = s.shut ∧
    (searchAgain t s).2.call = s.call ∧ (searchAgain t s).2.board = s.board ∧
    (searchAgain t s).2.ann = s.ann ∧ (searchAgain t s).2.mgmt = s.mgmt ∧
    (searchAgain t s).2.pending = s.pending := by
  refine ⟨?_, ?_, ?_, ?_, ?_, ?_, ?_, ?_, ?_⟩ <;> (unfold searchAgain; (repeat' split) <;> simp)

@[simp] theorem takeDrive_keeps (a : Nat) (o : DriveOrder) (s : State) :
    (takeDrive a o s).reg = s.reg ∧ (takeDrive a o s).fire = s.fire ∧
    (takeDrive a o s).shut = s.shut ∧ (takeDrive a o s).call = s.call ∧
    (takeDrive a o s).board = s.board ∧ (takeDrive a o s).ann = s.ann ∧
    (takeDrive a o s).mgmt = s.mgmt ∧ (takeDrive a o s).pending = s.pending := by
  refine ⟨?_, ?_, ?_, ?_, ?_, ?_, ?_, ?_⟩ <;> (unfold takeDrive; (try dsimp only); (repeat' split) <;> simp)

@[simp] theorem dropDiscarded_keeps (i : Nat) (r : VetoReason) (s : State) :
    (dropDiscarded i r s).line = s.line ∧ (dropDiscarded i r s).reg = s.reg ∧
    (dropDiscarded i r s).fire = s.fire ∧ (dropDiscarded i r s).call = s.call ∧
    (dropDiscarded i r s).board = s.board ∧ (dropDiscarded i r s).ann = s.ann ∧
    (dropDiscarded i r s).mgmt = s.mgmt ∧ (dropDiscarded i r s).pending = s.pending := by
  refine ⟨?_, ?_, ?_, ?_, ?_, ?_, ?_, ?_⟩ <;> (unfold dropDiscarded; (try dsimp only); (repeat' split) <;> simp)

@[simp] theorem raiseDiscarded_keeps (i : Nat) (s : State) :
    (raiseDiscarded i s).line = s.line ∧ (raiseDiscarded i s).reg = s.reg ∧
    (raiseDiscarded i s).pat = s.pat ∧ (raiseDiscarded i s).fire = s.fire ∧
    (raiseDiscarded i s).call = s.call ∧ (raiseDiscarded i s).board = s.board ∧
    (raiseDiscarded i s).ann = s.ann ∧ (raiseDiscarded i s).mgmt = s.mgmt ∧
    (raiseDiscarded i s).pending = s.pending := by
  refine ⟨?_, ?_, ?_, ?_, ?_, ?_, ?_, ?_, ?_⟩ <;> (unfold raiseDiscarded; (try dsimp only); (repeat' split) <;> simp)

@[simp] theorem takeShutter_keeps (i : Nat) (e : Shutter) (o : ShutterOrder) (s : State) :
    (takeShutter i e o s).reg = s.reg ∧ (takeShutter i e o s).fire = s.fire ∧
    (takeShutter i e o s).call = s.call ∧ (takeShutter i e o s).board = s.board ∧
    (takeShutter i e o s).ann = s.ann ∧ (takeShutter i e o s).mgmt = s.mgmt ∧
    (takeShutter i e o s).pending = s.pending := by
  refine ⟨?_, ?_, ?_, ?_, ?_, ?_, ?_⟩ <;> (unfold takeShutter; (try dsimp only); (repeat' split) <;> simp)

@[simp] theorem takeAmp_keeps (f : Nat) (a : Amp) (o : AmpOrder) (s : State) :
    (takeAmp f a o s).reg = s.reg ∧ (takeAmp f a o s).pat = s.pat ∧
    (takeAmp f a o s).fire = s.fire ∧ (takeAmp f a o s).shut = s.shut ∧
    (takeAmp f a o s).call = s.call ∧ (takeAmp f a o s).board = s.board ∧
    (takeAmp f a o s).mgmt = s.mgmt ∧ (takeAmp f a o s).pending = s.pending := by
  refine ⟨?_, ?_, ?_, ?_, ?_, ?_, ?_, ?_⟩ <;> (unfold takeAmp; (try dsimp only); (repeat' split) <;> simp)

@[simp] theorem takeRinger_keeps (i : Nat) (g : Ringer) (o : RingerOrder) (s : State) :
    (takeRinger i g o s).reg = s.reg ∧ (takeRinger i g o s).pat = s.pat ∧
    (takeRinger i g o s).fire = s.fire ∧ (takeRinger i g o s).shut = s.shut ∧
    (takeRinger i g o s).board = s.board ∧ (takeRinger i g o s).ann = s.ann ∧
    (takeRinger i g o s).mgmt = s.mgmt ∧ (takeRinger i g o s).pending = s.pending := by
  refine ⟨?_, ?_, ?_, ?_, ?_, ?_, ?_, ?_⟩ <;> (unfold takeRinger; (try dsimp only); (repeat' split) <;> simp)

@[simp] theorem orderDiscarded_keeps (o : Order) (r : VetoReason) (s : State) :
    (orderDiscarded o r s).line = s.line ∧ (orderDiscarded o r s).reg = s.reg ∧
    (orderDiscarded o r s).fire = s.fire ∧ (orderDiscarded o r s).call = s.call ∧
    (orderDiscarded o r s).board = s.board ∧ (orderDiscarded o r s).ann = s.ann ∧
    (orderDiscarded o r s).mgmt = s.mgmt ∧ (orderDiscarded o r s).pending = s.pending := by
  refine ⟨?_, ?_, ?_, ?_, ?_, ?_, ?_, ?_⟩ <;> (unfold orderDiscarded withEntry; (try dsimp only); (repeat' split) <;> simp)

@[simp] theorem takeForwarded_keeps (o : Order) (rest : List Order) (s : State) :
    (takeForwarded o rest s).reg = s.reg ∧ (takeForwarded o rest s).fire = s.fire ∧
    (takeForwarded o rest s).call = s.call ∧ (takeForwarded o rest s).board = s.board ∧
    (takeForwarded o rest s).ann = s.ann ∧ (takeForwarded o rest s).mgmt = s.mgmt ∧
    (takeForwarded o rest s).pending = s.pending := by
  refine ⟨?_, ?_, ?_, ?_, ?_, ?_, ?_⟩ <;> (unfold takeForwarded; (try dsimp only); (repeat' split) <;> simp)

@[simp] theorem sendA_keeps (f : Frame) (run : Nat) (s : State) :
    (sendA f run s).reg = s.reg ∧ (sendA f run s).pat = s.pat ∧ (sendA f run s).fire = s.fire ∧
    (sendA f run s).shut = s.shut ∧ (sendA f run s).call = s.call ∧
    (sendA f run s).board = s.board ∧ (sendA f run s).ann = s.ann ∧ (sendA f run s).mgmt = s.mgmt ∧
    (sendA f run s).pending = s.pending := by
  refine ⟨?_, ?_, ?_, ?_, ?_, ?_, ?_, ?_, ?_⟩ <;> (unfold sendA; (try dsimp only); (repeat' split) <;> simp)

@[simp] theorem sentA_keeps (s : State) :
    (sentA s).reg = s.reg ∧ (sentA s).pat = s.pat ∧ (sentA s).fire = s.fire ∧
    (sentA s).shut = s.shut ∧ (sentA s).call = s.call ∧ (sentA s).board = s.board ∧
    (sentA s).ann = s.ann ∧ (sentA s).mgmt = s.mgmt ∧ (sentA s).pending = s.pending := by
  refine ⟨?_, ?_, ?_, ?_, ?_, ?_, ?_, ?_, ?_⟩ <;> (unfold sentA; (try dsimp only); (repeat' split) <;> simp)

@[simp] theorem orderSent_keeps (s : State) :
    (orderSent s).reg = s.reg ∧ (orderSent s).pat = s.pat ∧ (orderSent s).fire = s.fire ∧
    (orderSent s).shut = s.shut ∧ (orderSent s).call = s.call ∧ (orderSent s).board = s.board ∧
    (orderSent s).ann = s.ann ∧ (orderSent s).mgmt = s.mgmt ∧ (orderSent s).pending = s.pending := by
  refine ⟨?_, ?_, ?_, ?_, ?_, ?_, ?_, ?_, ?_⟩ <;> (unfold orderSent; (try dsimp only); (repeat' split) <;> simp)

theorem takePoll_keeps {s t : State} (h : takePoll s = some t) :
    t.reg = s.reg ∧ t.pat = s.pat ∧ t.fire = s.fire ∧ t.shut = s.shut ∧ t.call = s.call ∧
    t.board = s.board ∧ t.ann = s.ann ∧ t.mgmt = s.mgmt ∧ t.pending = s.pending := by
  unfold takePoll at h
  split at h
  · cases h
  · cases h; simp

theorem takeOrder_keeps {s t : State} (h : takeOrder s = some t) :
    t.reg = s.reg ∧ t.fire = s.fire ∧ t.board = s.board ∧ t.mgmt = s.mgmt ∧
    t.pending = s.pending := by
  unfold takeOrder at h
  (repeat' split at h) <;> first | (cases h; done) | (cases h; simp)

theorem takeB_keeps {s t : State} (h : takeB s = some t) :
    t.reg = s.reg ∧ t.fire = s.fire ∧ t.board = s.board ∧ t.mgmt = s.mgmt ∧
    t.pending = s.pending := by
  unfold takeB at h
  split at h
  · have := takePoll_keeps h; simp_all
  · split at h
    · rename_i h1; cases h; exact takeOrder_keeps h1
    · split at h
      · have := takePoll_keeps h; simp_all
      · cases h

/-- The Port B arbiter changes nothing of the zones, the stations, the board, the part mode or the queue. -/
@[simp] theorem arbiterB_keeps (n : Nat) (s : State) :
    (arbiterB n s).reg = s.reg ∧ (arbiterB n s).fire = s.fire ∧ (arbiterB n s).board = s.board ∧
    (arbiterB n s).mgmt = s.mgmt ∧ (arbiterB n s).pending = s.pending := by
  induction n generalizing s with
  | zero => simp [arbiterB]
  | succ n ih =>
    unfold arbiterB
    split
    · split
      · rename_i t h
        have := takeB_keeps h
        simp_all
      · simp
    · simp

@[simp] theorem warnTimerExpires_keeps (i : Nat) (s : State) :
    (warnTimerExpires i s).line = s.line ∧ (warnTimerExpires i s).reg = s.reg ∧
    (warnTimerExpires i s).fire = s.fire ∧ (warnTimerExpires i s).call = s.call ∧
    (warnTimerExpires i s).board = s.board ∧ (warnTimerExpires i s).ann = s.ann ∧
    (warnTimerExpires i s).mgmt = s.mgmt ∧ (warnTimerExpires i s).pending = s.pending := by
  refine ⟨?_, ?_, ?_, ?_, ?_, ?_, ?_, ?_⟩ <;> (unfold warnTimerExpires; (try dsimp only); (repeat' split) <;> simp)

@[simp] theorem travelTimerExpires_keeps (i : Nat) (s : State) :
    (travelTimerExpires i s).line = s.line ∧ (travelTimerExpires i s).reg = s.reg ∧
    (travelTimerExpires i s).pat = s.pat ∧ (travelTimerExpires i s).fire = s.fire ∧
    (travelTimerExpires i s).call = s.call ∧ (travelTimerExpires i s).board = s.board ∧
    (travelTimerExpires i s).ann = s.ann ∧ (travelTimerExpires i s).mgmt = s.mgmt ∧
    (travelTimerExpires i s).pending = s.pending := by
  refine ⟨?_, ?_, ?_, ?_, ?_, ?_, ?_, ?_, ?_⟩ <;> (unfold travelTimerExpires; (try dsimp only); (repeat' split) <;> simp)

@[simp] theorem retryTimerExpires_keeps (i : Nat) (s : State) :
    (retryTimerExpires i s).line = s.line ∧ (retryTimerExpires i s).reg = s.reg ∧
    (retryTimerExpires i s).pat = s.pat ∧ (retryTimerExpires i s).fire = s.fire ∧
    (retryTimerExpires i s).call = s.call ∧ (retryTimerExpires i s).board = s.board ∧
    (retryTimerExpires i s).ann = s.ann ∧ (retryTimerExpires i s).mgmt = s.mgmt ∧
    (retryTimerExpires i s).pending = s.pending := by
  refine ⟨?_, ?_, ?_, ?_, ?_, ?_, ?_, ?_, ?_⟩ <;> (unfold retryTimerExpires; (try dsimp only); (repeat' split) <;> simp)

@[simp] theorem midnight_keeps (s : State) :
    (midnight s).line = s.line ∧ (midnight s).reg = s.reg ∧ (midnight s).fire = s.fire ∧
    (midnight s).board = s.board ∧ (midnight s).mgmt = s.mgmt ∧ (midnight s).pending = s.pending := by
  refine ⟨?_, ?_, ?_, ?_, ?_, ?_⟩ <;> (unfold midnight; (try dsimp only); (repeat' split) <;> simp)

@[simp] theorem closingMinute_keeps (s : State) :
    (closingMinute s).line = s.line ∧ (closingMinute s).reg = s.reg ∧
    (closingMinute s).fire = s.fire ∧ (closingMinute s).board = s.board ∧
    (closingMinute s).mgmt = s.mgmt ∧ (closingMinute s).pending = s.pending := by
  refine ⟨?_, ?_, ?_, ?_, ?_, ?_⟩ <;> (unfold closingMinute; (try dsimp only); (repeat' split) <;> simp)

@[simp] theorem advanceTo_keeps (t : Nat) (s : State) :
    (advanceTo t s).line = s.line ∧ (advanceTo t s).reg = s.reg ∧ (advanceTo t s).pat = s.pat ∧
    (advanceTo t s).fire = s.fire ∧ (advanceTo t s).shut = s.shut ∧ (advanceTo t s).call = s.call ∧
    (advanceTo t s).board = s.board ∧ (advanceTo t s).ann = s.ann ∧
    (advanceTo t s).pending = s.pending := by
  refine ⟨?_, ?_, ?_, ?_, ?_, ?_, ?_, ?_, ?_⟩ <;> (unfold advanceTo; (try dsimp only); (repeat' split) <;> simp)

@[simp] theorem ringTimeReached_keeps (push : Nat) (s : State) :
    (ringTimeReached push s).line = s.line ∧ (ringTimeReached push s).reg = s.reg ∧
    (ringTimeReached push s).pat = s.pat ∧ (ringTimeReached push s).fire = s.fire ∧
    (ringTimeReached push s).shut = s.shut ∧ (ringTimeReached push s).board = s.board ∧
    (ringTimeReached push s).ann = s.ann ∧ (ringTimeReached push s).pending = s.pending := by
  refine ⟨?_, ?_, ?_, ?_, ?_, ?_, ?_, ?_⟩ <;> (unfold ringTimeReached; (try dsimp only); (repeat' split) <;> simp)

@[simp] theorem offsetReached_keeps (s : State) :
    (offsetReached s).line = s.line ∧ (offsetReached s).reg = s.reg ∧
    (offsetReached s).fire = s.fire ∧ (offsetReached s).board = s.board ∧
    (offsetReached s).pending = s.pending := by
  refine ⟨?_, ?_, ?_, ?_, ?_⟩ <;> (unfold offsetReached; (try dsimp only); (repeat' split) <;> simp)

end Sys2Proof.Machine
end

