-- ==== Sys2Proof/Laws/Settle.lean ====
section
/-! SUPPORT. What the end of an event leaves: each law says once what `settle` can do. -/

namespace Sys2Proof.Machine

/-- Clearing one entry's mark is undone by clearing every mark. -/
theorem tmap_unmark {α : Type} (t : Table α) (i : Nat) (f g : α → α) (h : ∀ v, g (f v) = g v) :
    tmap (tmod t i f) (fun _ v => g v) = tmap t fun _ v => g v := by
  induction t with
  | nil => rfl
  | cons e t ih => obtain ⟨k, w⟩ := e; simp only [tmod]; split <;> simp_all [tmap]

/-- Taking a notice clears marks, the veto slot and the test-done indication, and nothing else. -/
theorem takeNotice_records {s : State} {f : Frame} {t : State} (h : takeNotice s = some (f, t)) :
    t.records = s.records ∧ t.line.reply = s.line.reply ∧ t.line.reports = s.line.reports ∧
      t.line.portA = s.line.portA := by
  unfold takeNotice at h
  (repeat' split at h) <;> first
    | (cases h; done)
    | (simp only [Option.some.injEq, Prod.mk.injEq] at h
       obtain ⟨-, rfl⟩ := h
       refine ⟨?_, rfl, rfl, rfl⟩
       simp only [State.records, onZone, onShutter, onStation, State.onFire, State.onShut, State.onReg,
         State.onPat, State.onCall, State.onAnn, State.onLine, State.onBoard] <;>
         first
           | rfl
           | (rw [tmap_unmark]; intros; rfl))

/-- The Port A arbiter changes no record. -/
@[simp] theorem arbiterA_records (s : State) : (arbiterA s).records = s.records := by
  have key : ∀ t, takeLocal s = some t → t.records = s.records := by
    intro t h
    unfold takeLocal at h
    dsimp only at h
    split at h
    · cases h; rfl
    · rw [Option.map_eq_some_iff] at h
      obtain ⟨⟨f, u⟩, h1, rfl⟩ := h
      exact (takeNotice_records h1).1
  unfold arbiterA
  split
  · rfl
  · split
    · cases h : takeLocal s with
      | none => rfl
      | some t => exact key t h
    · split
      · rfl
      · split
        · rename_i t h; exact key t h
        · rfl

/-- Pending marks are no part of the records. -/
@[simp] theorem markChanges_records (b s : State) : (markChanges b s).records = s.records := by
  simp [State.records, markChanges]

@[simp] theorem refreshImage_records (s : State) : (refreshImage s).records = s.records := rfl

@[simp] theorem wake_records (s : State) (c : Bool) :
    (s.onBoard (Board.wake c)).records = s.records := by
  simp only [State.records, State.onBoard, Board.wake]
  split
  · unfold Board.startScan; split
    · rfl
    · dsimp only; split <;> rfl
  · rfl

@[simp] theorem refresh_records (s : State) : (s.onCall CallUnit.refresh).records = s.records := by
  simp [State.records, State.onCall, CallUnit.refresh]

/-- The end of an event leaves the records as the Port B arbiter leaves them. -/
theorem settle_records (b s : State) : (settle b s).records = s.served := by
  simp [settle, State.served]

/-- A reply in the reply slot stays there or is being sent. -/
theorem arbiterA_replied {s : State} {f : Frame} (h : s.line.reply = some f) : (arbiterA s).replied f := by
  unfold arbiterA
  split
  · exact .inl h
  · have hl : ∃ t, takeLocal s = some t ∧ t.line.portA = some f := by
      unfold takeLocal; dsimp only; rw [h]; exact ⟨_, rfl, rfl⟩
    obtain ⟨t, ht, hp⟩ := hl
    split
    · rw [ht]; exact .inr hp
    · split
      · exact .inl h
      · rw [ht]; exact .inr hp

/-- A reply in the reply slot after the Port B arbiter stands there at the event's end, or is being sent. -/
theorem settle_replied' {b s : State} {f : Frame}
    (h : (arbiterB 128 s).line.reply = some f) :
    (settle b s).replied f := by
  unfold settle
  apply arbiterA_replied
  simpa [refreshImage, markChanges] using h

/-- The parts of the Line Unit that the Port B arbiter leaves as they are. -/
def LineUnit.portASide (l : LineUnit) :
    List Frame × Option Frame × Option Frame × Nat × Bool × Bool × Bool × Option Nat :=
  (l.reports, l.reply, l.portA, l.localRun, l.requestOverrun, l.forwardOverflow, l.reportOverflow,
   l.stranger)

theorem takePoll_portASide {s t : State} (h : takePoll s = some t) :
    t.line.portASide = s.line.portASide := by
  unfold takePoll at h
  split at h
  · cases h
  · cases h; rfl

@[simp] theorem sendOwn_portASide (a : Nat) (b : OrderBody) (s : State) :
    (sendOwn a b s).line.portASide = s.line.portASide := rfl

theorem takeOrder_portASide {s t : State} (h : takeOrder s = some t) :
    t.line.portASide = s.line.portASide := by
  have drive : ∀ a o, (takeDrive a o s).line.portASide = s.line.portASide := by
    intro a o; unfold takeDrive; dsimp only; (repeat' split) <;> simp
  have shut : ∀ i e o, (takeShutter i e o s).line.portASide = s.line.portASide := by
    intro i e o; unfold takeShutter; dsimp only; (repeat' split) <;> simp
  have amp : ∀ f a o, (takeAmp f a o s).line.portASide = s.line.portASide := by
    intro f a o; unfold takeAmp; dsimp only; (repeat' split) <;> simp
  have ringer : ∀ i g o, (takeRinger i g o s).line.portASide = s.line.portASide := by
    intro i g o; unfold takeRinger; (repeat' split) <;> simp
  have fwd : ∀ o rest, (takeForwarded o rest s).line.portASide = s.line.portASide := by
    intro o rest; unfold takeForwarded; dsimp only; split
    · simp only [fillVeto, State.onLine_line, orderDiscarded_keeps]; rfl
    · rfl
  unfold takeOrder at h
  (repeat' split at h) <;> first
    | (cases h; done)
    | (cases h; simp only [drive, shut, amp, ringer, fwd])

/-- The Port B arbiter touches nothing on the side of Port A. -/
theorem arbiterB_portASide (n : Nat) (s : State) :
    (arbiterB n s).line.portASide = s.line.portASide := by
  induction n generalizing s with
  | zero => rfl
  | succ n ih =>
    unfold arbiterB
    split
    · cases h : takeB s with
      | none => rfl
      | some t =>
        have ht : t.line.portASide = s.line.portASide := by
          unfold takeB at h
          split at h
          · exact takePoll_portASide h
          · split at h
            · rename_i t' h1; cases h; exact takeOrder_portASide h1
            · split at h
              · exact takePoll_portASide h
              · cases h
        simp only [ih, ht]
    · rfl

/-- A reply in the reply slot stands there at the event's end, or is being sent. -/
theorem settle_replied {b s : State} {f : Frame} (h : s.line.reply = some f) : (settle b s).replied f := by
  apply settle_replied'
  have := arbiterB_portASide 128 s
  simp only [LineUnit.portASide, Prod.mk.injEq] at this
  rw [this.2.1, h]

/-- Taking a notice leaves the part mode and the queue. -/
theorem takeNotice_keeps {s : State} {f : Frame} {t : State} (h : takeNotice s = some (f, t)) :
    t.mgmt = s.mgmt ∧ t.pending = s.pending := by
  unfold takeNotice at h
  (repeat' split at h) <;> first
    | (cases h; done)
    | (simp only [Option.some.injEq, Prod.mk.injEq] at h
       obtain ⟨-, rfl⟩ := h
       exact ⟨rfl, rfl⟩)

/-- The Port A arbiter leaves the part mode and the queue. -/
@[simp] theorem arbiterA_keeps (s : State) :
    (arbiterA s).mgmt = s.mgmt ∧ (arbiterA s).pending = s.pending := by
  have key : ∀ t, takeLocal s = some t → t.mgmt = s.mgmt ∧ t.pending = s.pending := by
    intro t h
    unfold takeLocal at h
    dsimp only at h
    split at h
    · cases h; exact ⟨rfl, rfl⟩
    · rw [Option.map_eq_some_iff] at h
      obtain ⟨⟨f, u⟩, h1, rfl⟩ := h
      have := takeNotice_keeps h1
      exact ⟨this.1, this.2⟩
  unfold arbiterA
  split
  · exact ⟨rfl, rfl⟩
  · split
    · cases h : takeLocal s with
      | none => exact ⟨rfl, rfl⟩
      | some t => exact key t h
    · split
      · exact ⟨rfl, rfl⟩
      · split
        · rename_i t h; exact key t h
        · exact ⟨rfl, rfl⟩

/-- What the end of an event leaves as it was: the Management Unit and the command queue. -/
@[simp] theorem settle_keeps (b s : State) :
    (settle b s).mgmt = s.mgmt ∧ (settle b s).pending = s.pending := by
  simp [settle, refreshImage, markChanges]

/-- While Port B is occupied its arbiter decides nothing (R179). -/
theorem arbiterB_busy {s : State} (h : s.line.portB ≠ .free) (n : Nat) : arbiterB n s = s := by
  cases n with
  | zero => rfl
  | succ n => simp [arbiterB, h]

/-- With Port B occupied, the end of an event leaves the records as they are. -/
theorem served_busy {s : State} (h : s.line.portB ≠ .free) : s.served = s.records := by
  simp [State.served, arbiterB_busy h]

end Sys2Proof.Machine
end

