-- ==== Sys2Proof/Tests/Slice0.lean ====
section
/-! SUPPORT. Tests: each check of WellFormed refuses an ill-formed command; the manual's worked cases; and for every
statement a concrete state and operands that meet its hypotheses. -/

namespace Sys2Proof.Tests

set_option Elab.async false

open Sys2Proof Sys2Proof.Machine

/-! ## A small part, ARMED, at the geometry of the manual's worked cases (2.2) -/

/-- A present FAST station. -/
def station (r : Role) : Station :=
  { role := r, floor := 2, cls := .fast, missLimit := 3, presence := .present, miss := 0, mark := false }

def geometry : Geometry :=
  { pitch := 650, cars := 8, carLength := 230, margin := 10, braking := 120, slipLimit := 3, stopTimeout := 30,
    resumeDelay := 5, guardLimit := 3, guardWindow := 60 }

def landing (u d rank : Nat) (clear : Bool) (a : Nat) : Landing :=
  { up := u, down := d, station := a, restClear := clear, rank := rank, tripped := false, stopSwitch := false,
    upBeam := Beam.start, downBeam := Beam.start }

def landings : Table Landing :=
  [(0, landing 100 5100 4 true 20), (1, landing 520 4680 4 true 21), (2, landing 940 4260 5 true 22),
   (3, landing 1360 3840 7 false 23), (4, landing 1780 3420 6 false 24), (5, landing 2200 3000 3 false 25)]

def shutter (k : ShutterKind) (a : Nat) (l : Option Nat) (st : ShutterState) : Shutter :=
  { station := a, zoneA := 1, zoneB := none, kind := k, landing := l, floor := 2, warnTime := 5, travelLimit := 20,
    night := false, state := st, reason := .none, obstruction := none, fault := none, timer := none, attempts := 0,
    prior := none, last := none, slot := none, mark := false }

def zone (st : ZoneState) : Zone :=
  { ackTime := 30, investTime := 180, coincidence := false, evacFloors := 4, tableIsolated := false, state := st,
    timer := none, acked := false, confirmers := 0, fault := false, mark := false }

def detector : Detector :=
  { station := 1, zone := 1, alarm := 120, restore := 80, confirm := 3, level := 0, run := 0, active := false,
    fault := false }

def amp : Amp :=
  { station := 9, floor := 2, state := .idle, origin := none, phrase := none, number := none, phraseTimer := none,
    gen := none, gapTimer := none, owed := false, slot := none }

def ringer : Ringer := { station := 8, floor := 2, ring := none, number := none, timer := none, slot := none }

/-- Chime 2 of the manual's worked case (7.4). -/
def chime : Chime :=
  { notes := [70, 88, 79, 105].map fun n => { pitch := some (n, .khz62), duration := 40, gap := 10 }, repeats := 2 }

/-- The chain stands STOPPED at 1000 in IDLE; every station is PRESENT and a poll of station `a` is outstanding. -/
def part (a : Nat) : State :=
  refreshImage { State.reset with
    mgmt := { State.reset.mgmt with mode := .armed, time := 12500000 }
    line := { LineUnit.reset with portB := .awaiting a 625 }
    reg := { StationRegister.reset with
      settings := some { panel := 224, window := 5, timeout := 10 }
      stations := [(1, station .detector), (2, station .callPoint), (3, station .shutter), (4, station .drive),
        (5, station .shutter), (6, station .push), (7, station .desk), (8, station .ringer),
        (9, station .amplifier), (22, station .landing)] }
    pat := { Paternoster.reset with
      geometry := some geometry, landings := landings, state := .idle
      chain := { position := some 1000, motion := .stopped, fault := false, lastMove := 0 } }
    fire := { FireUnit.reset with
      zones := [(1, zone .quiet)], detectors := [(0, detector)]
      callPoints := [(0, { station := 2, zone := 1, operated := false, fault := false })]
      settings := some { evacPhrase := 1, alertPhrase := 2, pattern := 0, gap := 5 } }
    shut := [(0, shutter .department 3 none .open), (1, shutter .shaft 5 (some 2) .open)]
    call := { CallUnit.reset with
      pushes := [(0, { station := 6, key := 0, floor := 2, priority := 3, pattern := 0, ringer := 0,
                       escalation := none })]
      patterns := [(0, { strokes := 4, spacing := 5, repeating := some (30, 2) })]
      ringers := [(0, ringer)] }
    board := { Board.reset with
      layout := [(0, .push 0), (1, .zone 1)], settings := some { n1 := 30, n2 := 99, limit := 5 } }
    ann := { Announce.reset with
      chimes := [(2, chime)], programme := [(0, { offset := 10, kind := .level 3 })], amps := [(2, amp)] } }

/-- The next state of a command; the state itself should there be none. -/
def run (c : Instr) (s : State) : State :=
  match exec c s with
  | .next t => t
  | _ => s

/-- The head of a frame from station or panel `a`. -/
def head (a : Byte) (d : Byte := 224) : Hdr := { dst := d, src := a, tag := 7 }


/-! ## Well-formedness -/

theorem test_wf_request_source : (Instr.readStatus 0 1).wf = false ∧ (Instr.boardMode 0 1 0).wf = false := by decide

theorem test_wf_entry_data :
    (Instr.writeEntry 224 1 1 0 []).wf = false ∧ (Instr.writeEntry 224 1 1 0 (List.replicate 23 0)).wf = false ∧
    (Instr.writeEntry 0 1 1 0 [1]).wf = false ∧ (Instr.writeEntry 224 1 1 0 (List.replicate 22 0)).wf = true := by
  decide

theorem test_wf_order_head :
    (Instr.runOrder (head 0 4)).wf = false ∧ (Instr.gateOrder (head 224 0) 1).wf = false ∧
    (Instr.haltOrder (head 224 4)).wf = true := by decide

theorem test_wf_station_head :
    (Instr.presenceReport (head 0)).wf = false ∧ (Instr.strangerFrame (head 1 0) none).wf = false ∧
    (Instr.portAFrameDropped (some (head 0, .notice))).wf = false := by decide

theorem test_wf_items :
    (Instr.stageTimerExpiry 16).wf = false ∧ (Instr.warnTimerExpiry 32).wf = false ∧
    (Instr.ringTimerExpiry 16).wf = false ∧ (Instr.nextRingTimeReached 64).wf = false ∧
    (Instr.phraseTimerExpiry 8).wf = false ∧ (Instr.chimeEnd 2).wf = false ∧
    (Instr.stageTimerExpiry 15).wf = true ∧ (Instr.chimeNoteEnd 1).wf = true := by decide

/-! ## Worked cases of the manual -/

/-- The chain at `p`, moving, with the fire stop set given. -/
def chainAt (p : Nat) (fire : FloorSet) : Paternoster :=
  { (part 4).pat with state := .running, fireStop := fire
                      chain := { position := some p, motion := .moving, fault := false, lastMove := 0 } }

/-- Floors 3 and 4 from 1000, from 5000, from 1450 and from 1650 (2.3). -/
theorem test_stop_target :
    stopTarget geometry (chainAt 1000 0x18) .fire = (1710, []) ∧
    stopTarget geometry (chainAt 5000 0x18) .fire = (410, []) ∧
    stopTarget geometry (chainAt 1450 0x18) .fire = (1710, []) ∧
    stopTarget geometry (chainAt 1650 0x18) .fire = (2360, []) := by decide +kernel

/-- Floors 2, 3 and 4 reduced, and the rest set's tie of ranks (2.3). -/
theorem test_stop_target_reduced :
    stopTarget geometry (chainAt 1000 0x1C) .fire = (1710, [2]) ∧
    stopTarget geometry (chainAt 4000 0) .rest = (4120, [1, 0]) := by decide +kernel

/-- Side d4 at 1709 and 1710, and floor 2 at 1710 (2.3). -/
theorem test_clearance :
    sideBlocked geometry 3420 1709 = true ∧ sideBlocked geometry 3420 1710 = false ∧
    sideBlocked geometry 940 1710 = true ∧ sideBlocked geometry 4260 1710 = true := by decide +kernel

/-- The moves of 2.4: forward, jitter, wrap, and the run of 4600 steps read as jitter. -/
theorem test_moves :
    (readMove geometry (some 1000) 2400).distance = 1400 ∧ (readMove geometry (some 2400) 2390).position = 2400 ∧
    (readMove geometry (some 5000) 300).wrap = true ∧ (readMove geometry (some 300) 0).wrap = false ∧
    (readMove geometry (some 4700) 0).wrap = true ∧ (readMove geometry (some 0) 4600).distance = 0 := by decide +kernel

/-- The crossings of u3, d3, and u3 over the wrap (2.5). -/
theorem test_crossings :
    crossings geometry 1360 1000 1400 = 2 ∧ crossings geometry 3840 1000 1400 = 2 ∧
    crossings geometry 1360 5000 500 = 1 := by decide +kernel

/-- Up 38 and then 41 twice and 42 against E = 39 with K = 3 (2.6). -/
theorem test_beam_check :
    let b : Beam := { expected := 39, miss := 0, settling := false, travel := 650 }
    b.compare 3 38 = (b, false) ∧ b.compare 3 41 = ({ b with miss := 1 }, false) ∧
    { b with miss := 2 }.compare 3 42 = (b, true) := by decide +kernel

/-- The detector of 3.2: 130, 150, 119, then 120, 125, 140 confirm; 80 keeps it active and 79 does not. -/
theorem test_detector_sequence :
    let up := [130, 150, 119, 120, 125, 140].foldl (fun d v => Detector.onLevel v d) detector
    up.active = true ∧ up.run = 3 ∧ (Detector.onLevel 80 up).active = true ∧
    (Detector.onLevel 79 (Detector.onLevel 80 up)).active = false := by decide +kernel

/-- A third high level puts the zone into PRE_ALARM with its acknowledge time (3.3). -/
theorem test_detector_confirms :
    ((run (.detectorLevelReport (head 1) 140)
      ((part 1).onFire fun u => { u with detectors := [(0, { detector with run := 2 })] })).fire.zones.map fun e =>
        (e.2.state, e.2.timer, e.2.confirmers)) = [(.preAlarm, some (30 * 125000), 1)] := by decide +kernel

theorem test_call_point_operated :
    (run (.callPointReport (head 2) 1) (part 2)).zoneFull 1 = true ∧
    (run (.callPointReport (head 2) 1) (part 2)).call.fireLevel = 7 := by decide +kernel

/-- The pass degraded by step 1: seven slots, 6840 µs before and 3528 µs after (6.3). -/
theorem test_pass_step1 :
    let lit : List (Nat × Display) := [(0, .emphasis), (32, .flash), (3, .emphasis), (39, .flash), (11, .steady),
      (17, .steady), (49, .emphasis), (29, .steady), (62, .steady)]
    let b := { Board.reset with image := (List.range 64).map fun k => (tget lit k).getD .off }
    let o : OnTimes := { n1 := 30, n2 := 99, limit := 5 }
    passTime (planWith b .scan o.drive) = 6840 ∧ (planPass b o .scan).time = 3528 ∧
    (planPass b o .scan).degrade = .step1 ∧ (planPass { b with lit := false } o .scan).time = 3024 := by decide +kernel

/-- Twelve STEADY slots are driven at t' = 400, T = 4896 (6.3). -/
theorem test_pass_step2 :
    let b := { Board.reset with image := (List.range 64).map fun k => if k < 12 then .steady else .off }
    let p := planPass b { n1 := 30, n2 := 99, limit := 5 } .scan
    p.degrade = .step2 ∧ p.reduced = some 400 ∧ p.time = 4896 := by decide +kernel

/-- A lamp test of 24 slots is driven at t' = 192, and with a pass limit of 40 undegraded (6.4). -/
theorem test_pass_lamp_test :
    let b := { Board.reset with
      layout := (List.range 24).map fun k => (k, Assignment.fixed .closing) }
    (planPass b { n1 := 30, n2 := 99, limit := 5 } .test).reduced = some 192 ∧
    (planPass b { n1 := 30, n2 := 99, limit := 40 } .test).time = 38592 := by decide +kernel

/-- The closing chime takes 4 s (7.4). -/
theorem test_chime_length : chime.lengthMs = 4000 := by decide +kernel

/-! ## The line's bytes -/

/-- A Chain report at 1710, MOVING, NORMAL is kind 36 with payload 6, 174, 1, 0 (R193, R194). -/
theorem test_chain_frame :
    commandOfPortB (part 4) (reportFrame (head 4) (.chain 1710 1 0)).bytes = some (.chainReport (head 4) 1710 1 0) ∧
    (reportFrame (head 4) (.chain 1710 1 0)).head = [224, 4, 36, 7, 4, 6, 174, 1, 0] := by decide +kernel

/-- A Stop-At with target 1710 to station 22 (R194). -/
theorem test_stop_at_frame :
    (Order.frame { head := ownHead 22, body := .stopAt 1710 }).head = [22, 240, 69, 0, 2, 6, 174] := by decide +kernel

/-- A Set Clock request to 63,000 of weekday 3, byte by byte (R194). -/
theorem test_set_clock_frame :
    let f : Frame := { dst := 240, src := 224, kind := 104, tag := 9, payload := [0, 246, 24, 3] }
    commandOfPortA f.bytes = .setClock 224 9 63000 3 ∧
    commandOfPortA (f.bytes.set 8 4) = .portAFrameDropped none := by decide +kernel

/-- A Station notice has 5 or 10 bytes of payload, and a reply to Read Status 19 (R193, R194). -/
theorem test_kind_lengths :
    kindLengths 164 = some [5, 10] ∧ kindLengths 129 = some [19] ∧
    lineCheck (Frame.bytes ⟨240, 9, 164, 0, List.replicate 6 0⟩) = .wrongLength 9 := by decide +kernel

/-- A frame of wrong length misses the polled station's poll, and none from another address (R163; log 41). -/
theorem test_wrong_length :
    let bytes := fun src => Frame.bytes ⟨240, src, 33, 0, [1]⟩
    commandOfPortB (part 4) (bytes 4) = some .unusableFrame ∧ commandOfPortB (part 4) (bytes 5) = none := by
  decide +kernel

/-- The Poll of station 4 on the line (R162, R193). -/
theorem test_poll_frame : (frameOnB (.polling 4)).map Frame.head = some [4, 240, 65, 0, 0] := by decide +kernel

/-- The first note of the closing chime: 62,500 Hz divided by 142 (7.4). -/
theorem test_tone_frequency : toneHertz 70 .khz62 * 142 = 62500 := by decide +kernel

/-! ## States that meet the hypotheses of the statements

Each theorem is named after the statement whose hypotheses it meets, clause by clause. -/

/-- The part with a change to one unit. -/
abbrev pat (f : Paternoster → Paternoster) (a : Nat := 1) : State := (part a).onPat f
abbrev fire (f : FireUnit → FireUnit) (a : Nat := 1) : State := (part a).onFire f
abbrev call (f : CallUnit → CallUnit) (a : Nat := 1) : State := (part a).onCall f
abbrev ann (f : Announce → Announce) (a : Nat := 1) : State := (part a).onAnn f
abbrev line (f : LineUnit → LineUnit) (a : Nat := 1) : State := (part a).onLine f

/-- The part with shutter `i` changed. -/
abbrev shut (i : Nat) (f : Shutter → Shutter) (a : Nat := 1) : State := onShutter (part a) i f

/-- The part with zone 1 in state `z`. -/
abbrev alarmed (z : ZoneState) (a : Nat := 1) : State := fire (fun u => { u with zones := [(1, zone z)] }) a

/-- The part CONFIGURING. -/
abbrev idlePart (a : Nat := 1) : State := (part a).onMgmt fun m => { m with mode := .configuring }

/-- The part with Port B free. -/
abbrev freeLine (s : State) : State := s.onLine fun l => { l with portB := .free }

/-- A WAITING call of push 0. -/
def call0 : Call :=
  { push := 0, priority := 3, arrival := 0, presses := 1, rings := 0, nextRing := none, escalated := false,
    owed := false, state := .waiting }

/-- Push 0's own request. -/
def req0 : Req := { ringer := 0, pattern := 0, priority := 3, origin := .call 0, age := 0, seq := 0 }

/-- The stations of `part` answer their polls. -/
theorem answers (a : Byte) (s : State) (e : Station) (h : s.line.portB = .awaiting a.toNat 625) (ha : a ≠ 0)
    (he : tget s.reg.stations a.toNat = some e) : s.answers (head a) e :=
  ⟨⟨625, h⟩, by simp [head], ha, he⟩

theorem test_hyps_StepRunsFront :
    State.reset.pending = [] ∧ nextDue State.reset = none ∧
    nextDue (pat fun p => { p with stopTimer := some 0 }) = some .stopTimerExpiry := by decide +kernel

/-- The clock UNSET, within a second, at a second's end, at midnight and before today's closing minute; and each kind
of event when it is due. -/
theorem test_time_StepRunsFront :
    let clock := fun second sub => ann fun u =>
      { u with clock := { set := true, second := second, weekday := 3, sub := sub }, days := [(3, 1050)] }
    let ringing := call fun u => { u with ringers := [(0, { ringer with timer := some 0 })] }
    let called := call fun u => { u with calls := [{ call0 with nextRing := some 100 }] }
    let playing := fun note => ann fun u =>
      { u with gen1 := some { chime := 2, gated := 4, sounding := some { round := 2, note := note, inGap := true, left := 0 } } }
    let going := fun waits => ann fun u =>
      { u with closing := .running, startTime := some 90, nextStep := some 0, waitGen := waits }
    (tick (part 1)).ann.clock = (part 1).ann.clock ∧ (tick (part 1)).line.portB = .awaiting 1 624 ∧
    (tick (clock 9 7)).ann.clock.sub = 8 ∧ (tick (clock 9 124999)).ann.clock = (clock 10 0).ann.clock ∧
    (tick (clock 86399 124999)).ann.clock.sub = 125000 ∧ (tick (clock 62999 124999)).ann.clock.second = 62999 ∧
    nextDue (clock 86399 125000) = some .midnightStep ∧ nextDue (clock 62999 125000) = some .automaticStart ∧
    nextDue ringing = some (.ringTimerExpiry 0) ∧ nextDue called = some (.nextRingTimeReached 0) ∧
    nextDue (playing 3) = some (.chimeEnd 1) ∧ nextDue (playing 2) = some (.chimeNoteEnd 1) ∧
    nextDue (going false) = some .stepOffsetReached ∧ nextDue (going true) = none ∧
    nextDue (line fun l => { l with portB := .awaiting 1 0 }) = some .answerWindowExpiry := by decide +kernel

theorem test_hyps_ImageAndCallStatesKept :
    (∃ t, State.reset.imageInStep ∧ State.reset.callsInStep ∧ step State.reset = .next t) ∧
    (∃ t, (part 1).imageInStep ∧ (part 1).callsInStep ∧ step (part 1) = .next t) :=
  ⟨⟨_, by unfold State.imageInStep; decide +kernel, by unfold State.callsInStep; decide +kernel, rfl⟩,
   ⟨_, by unfold State.imageInStep; decide +kernel, by unfold State.callsInStep; decide +kernel, rfl⟩⟩

/-- Port A sends, and each clause of the statement on marks has a command that makes its change. -/
theorem test_marks_ImageAndCallStatesKept :
    let busy := fun (s : State) => s.onLine fun l => { l with portA := some ⟨0, 0, 0, 0, []⟩ }
    let locked := run (.landingReport (head 22) 0 0 0 1) (busy (part 22))
    let fired := run (.callPointReport (head 2) 1) (busy (part 2))
    let called := run (.pushReport (head 6) 0) (busy (part 6))
    let missed := run .answerWindowExpiry (busy (onStation (part 3) 3 fun e => { e with miss := 2 }))
    let back := run (.readStatus 224 1) (busy ((part 1).onReg fun r => { r with panelLost := true, lostTime := some 9 }))
    (busy (part 1)).line.portA.isSome = true ∧
    (locked.pat.state = .locked ∧ locked.pat.mark = true ∧
      ((tget locked.pat.landings 2).any fun l => l.stopSwitch) = true) ∧
    ((tget fired.fire.zones 1).any fun e => e.state == .fullAlarm && e.mark) = true ∧
    ((tget fired.shut 0).any fun e => e.state == .warning && e.mark) = true ∧
    (called.call.calls.length = 1 ∧ called.call.mark = true) ∧
    ((tget missed.reg.stations 3).any fun e => e.presence == .missing && e.mark) = true ∧
    (back.reg.panelLost = false ∧ back.reg.panelMark = true) := by decide +kernel

theorem test_hyps_BoundsKept :
    let s := call fun u => { u with calls := [call0] }
    ∃ t, s.Bounded ∧ step s = .next t :=
  ⟨_, by constructor <;> decide +kernel, rfl⟩

theorem test_hyps_QueueOrderKept :
    let s := call fun u => { u with queue := [{ req0 with priority := 7, origin := .fire }, req0] }
    (s.call.queue.Pairwise fun a b => b.before a = false) ∧ (s.call.queue.Pairwise fun a b => a.same b = false) ∧
    ∃ t, step s = .next t :=
  ⟨by decide +kernel, by decide +kernel, _, rfl⟩

/-- A merge, a join, a displacement from a full queue and a request left out; an owed call re-offered; a dispatch; and
a preempted ring. -/
theorem test_queue_QueueOrderKept :
    let low := fun n => { req0 with origin := Origin.call n, priority := 1, seq := n }
    let full : CallUnit := { (call fun u => { u with calls := [{ call0 with push := 23 }] }).call with
      queue := (List.range 24).map low }
    let owed := call fun u => { u with calls := [{ call0 with owed := true }] }
    let rings := call fun u =>
      { u with ringers := [(0, { ringer with ring := some (.request req0), number := some 5, timer := some 9,
                                             slot := some (.ring 4 5 5) })] }
    let next := call fun u => { u with queue := [req0] }
    (({ full with queue := [req0] }).join { req0 with priority := 5 }).queue = [{ req0 with priority := 5 }] ∧
    (({ full with queue := [req0] }).join { req0 with origin := .fire, priority := 7 }).queue.length = 2 ∧
    ((full.join { req0 with origin := .fire }).queue.length = 24 ∧
      (full.join { req0 with origin := .fire }).calls = [{ call0 with push := 23, owed := true }]) ∧
    (full.join { req0 with origin := .closing, priority := 1 }).queue = full.queue ∧
    ((reoffer owed).call.queue.map fun r => r.origin) = [.call 0] ∧
    ((dispatch next).call.queue = [] ∧ ((tget (dispatch next).call.ringers 0).bind fun g => g.slot) =
      some (.ring 4 5 1)) ∧
    (preemptOne (rings.onCall fun u => { u with fireLevel := 7 }) 0).call.queue = [req0] ∧
    (call fun u => { u with queue := [req0] }).call.ringers.length ≤ 16 := by decide +kernel

theorem test_hyps_SafetyTablesFixedWhileArmed :
    (part 1).armed = true ∧ ((part 1).fire.detectors.map Prod.fst).Nodup ∧ Instr.writeEntry 224 1 1 0 [1] ≠ .powerOn ∧
    Instr.writeEntry 224 1 1 0 [1] ≠ .resetPinReset ∧ ∃ t, exec (.writeEntry 224 1 1 0 [1]) (part 1) = .next t :=
  ⟨by decide, by decide, by decide, by decide, _, rfl⟩

/-- Each command named in the statement does change the mode, or leave LOCKED or FULL_ALARM. -/
theorem test_hyps_ModeLockAndAlarmHold :
    (run (.disarm 224 1) (part 1)).mgmt.mode = .configuring ∧
    (run (.arm 224 1) State.reset).mgmt.mode = .armed ∧
    (run (.releasePaternoster 224 1) (pat fun p => { p with state := .locked })).pat.state = .idle ∧
    (run (.resetZone 224 1 1) (alarmed .fullAlarm)).zoneFull 1 = false ∧
    (run (.resetZone 224 1 0) (alarmed .fullAlarm)).zoneFull 1 = true := by decide +kernel

/-- A Run, a Drop to a SHAFT shutter and a Raise to a FIRE shutter are sent, with the premises on the tables met. -/
theorem test_hyps_SentOrdersAreSafe :
    let run1 := run (.runOrder (head 224 4)) (freeLine (part 1))
    let drop1 := run (.dropOrder (head 224 5)) (freeLine (pat fun p =>
      { p with chain := { p.chain with position := some 850 } }))
    let raise1 := run (.raiseOrder (head 224 3)) (freeLine (shut 0 fun e => { e with state := .closed, reason := .fire }))
    run1.line.portB = .sending ⟨head 224 4, .run⟩ ∧ drop1.line.portB = .sending ⟨head 224 5, .drop⟩ ∧
    raise1.line.portB = .sending ⟨head 224 3, .raise⟩ ∧ shutterAt drop1 5 = some 1 ∧
    (drop1.shut.map Prod.fst).Nodup ∧ (drop1.shut.map fun e => e.2.station).Nodup ∧
    ∀ e ∈ drop1.shut, e.2.station < 256 := by decide +kernel

/-- Residues 0, W - 1 and W of side u3 = 1360. -/
theorem test_hyps_ClearanceTest :
    0 < geometry.pitch ∧ 0 < geometry.width ∧ ((1350 : Int) - 1360 + 10) % 650 = 0 ∧
    ((1599 : Int) - 1360 + 10) % 650 = ((geometry.width - 1 : Nat) : Int) ∧
    ((1600 : Int) - 1360 + 10) % 650 = (geometry.width : Int) := by decide +kernel

theorem test_hyps_StopTargetSearch :
    0 < geometry.pitch ∧ (stopTarget geometry (chainAt 1000 0x1C) .fire).2[0]? = some 2 := by decide +kernel

theorem test_hyps_ChainRecordSteps :
    0 < geometry.pitch ∧ 0 < geometry.cars ∧ (part 4).pat.chain.position = some 1000 ∧
    ((1400 : Nat) : Int) = ((2400 : Int) - 1000) % (5200 : Nat) ∧ 1400 ≤ 5200 - 650 ∧
    ((4551 : Nat) : Int) = ((351 : Int) - 1000) % (5200 : Nat) ∧ 5200 - 650 < 4551 ∧
    (tget (part 4).pat.landings 3).isSome = true ∧ ((290 : Nat) : Int) = ((1000 : Int) - 1360) % 650 := by
  decide +kernel

/-- δ = -1, 1 and 2, and the round-over of a reported 1 against 255. -/
theorem test_hyps_BeamCheckOfOneSide :
    ((-1 : Int) - ((38 : Nat) - (39 : Nat))) % 256 = 0 ∧ ((1 : Int) - ((40 : Nat) - (39 : Nat))) % 256 = 0 ∧
    ((2 : Int) - ((1 : Nat) - (255 : Nat))) % 256 = 0 ∧ 0 + 1 < 3 ∧ 3 ≤ 2 + 1 := by decide +kernel

theorem test_hyps_FramesReadBack :
    (head 4).wf = true ∧ orderParts (.stopAtOrder (head 224 4) 1710) = some ⟨head 224 4, .stopAt 1710⟩ ∧
    (head 224 4).wf = true := by decide +kernel

theorem test_hyps_RequestsTurnedAway :
    requestParts (.silence 224 1) = some (224, 1, 15) ∧ (Instr.silence 224 1).wf = true ∧
    (part 1).fromPanel 225 = false ∧ (line fun l => { l with reply := some ⟨0, 0, 0, 0, []⟩ }).line.reply.isSome = true ∧
    (part 1).fromPanel 224 = true ∧ (idlePart).armed = false ∧ (idlePart).takesRequest 224 ∧
    requestParts (.disarm 224 1) = some (224, 1, 7) ∧ requestParts (.abortClosing 224 1) = some (224, 1, 22) := by
  unfold State.takesRequest; decide +kernel

/-- Sources at the edges of 224 to 239, with and without the line settings record, and where the reply then goes. -/
theorem test_panel_sources :
    (State.reset.fromPanel 223, State.reset.fromPanel 224, State.reset.fromPanel 239, State.reset.fromPanel 240) =
      (false, true, true, false) ∧
    ((part 1).fromPanel 224, (part 1).fromPanel 239) = (true, false) ∧
    replyDst State.reset 239 = 239 ∧ replyDst (part 1) 239 = 224 := by decide +kernel

theorem test_hyps_PanelHeardAndDroppedFrames :
    (part 1).reg.settings = some { panel := 224, window := 5, timeout := 10 } ∧ State.reset.reg.settings = none ∧
    (224 : Byte).toNat ≤ 239 ∧ (head 224 240).wf = true ∧ (part 1).fromPanel 225 = false ∧
    orderDst 230 = false ∧ orderDst 223 = true ∧ orderDst 255 = true := by decide +kernel

/-- The part takes requests from the panel, ARMED or CONFIGURING. -/
theorem takes : (part 1).takesRequest 224 ∧ (idlePart).takesRequest 224 ∧ (part 1).armed = true := by
  unfold State.takesRequest; decide +kernel

theorem test_hyps_SetClockAndReadStatusAnswer :
    (part 1).takesRequest 224 ∧ (86399#24).toNat ≤ 86399 ∧ 86399 < (86400#24).toNat ∧ 6 < (7 : Byte).toNat :=
  ⟨takes.1, by decide +kernel⟩

/-- With 99 the last stranger, and with none, Read Status shows it and clears the flags. -/
theorem test_read_status :
    let status := fun (n : Option Nat) =>
      (statusData (line fun l => { l with stranger := n, requestOverrun := true }))[12]?
    status (some 99) = some 99 ∧ status none = some 255 ∧
    (run (.readStatus 224 1) (line fun l => { l with requestOverrun := true })).line.requestOverrun = false := by
  decide +kernel

/-- The chime table with parts 0, 1 and 2, an absent chime and push, an index out of range and no table. -/
theorem test_hyps_ReadEntryAnswers :
    (part 1).takesRequest 224 ∧ tableOf 0 = none ∧ tableOf 10 = some .push ∧ TableId.push.indexOk 64 = false ∧
    TableId.push.indexOk 63 = true ∧ entryData .push 63 (part 1) = none ∧ (entryData .push 0 (part 1)).isSome = true ∧
    tableOf TableId.chime.code = some .chime ∧ (entryData .chime 2 (part 1)).isSome = true :=
  ⟨takes.1, by decide +kernel⟩

theorem test_hyps_ReadRecordAnswers :
    (part 1).takesRequest 224 ∧ (part 1).pat.trips.length ≤ 8 ∧ (recordData (part 1) 4 0 0).isSome = true ∧
    recordData (part 1) 1 16 0 = none ∧ (recordData (part 1) 9 0 1).isSome = true :=
  ⟨takes.1, by decide +kernel⟩

/-- Indices and parts at the edges of each kind's range: the last that has data, and the first that has none. -/
theorem test_record_ranges :
    ([(1, 1, 1), (2, 0, 0), (3, 1, 0), (4, 0, 6), (4, 0, 9), (6, 0, 0), (7, 240, 0), (7, 22, 0), (8, 0, 3), (8, 0, 10),
      (9, 0, 1)] : List (Nat × Nat × Nat)).all (fun r => (recordData (part 1) r.1 r.2.1 r.2.2).isSome) = true ∧
    ([(1, 1, 2), (1, 0, 0), (2, 0, 1), (3, 2, 0), (4, 0, 7), (4, 0, 10), (4, 1, 0), (5, 0, 0), (6, 0, 1), (7, 240, 1),
      (7, 23, 0), (8, 0, 1), (8, 0, 11), (8, 1, 0), (9, 0, 2), (9, 1, 0)] : List (Nat × Nat × Nat)).any
      (fun r => (recordData (part 1) r.1 r.2.1 r.2.2).isSome) = false ∧
    quantity 2 1710 = [6, 174] ∧ optQuantity 2 none = [255, 255] ∧ setBytes 2 (0x8001 : BitVec 16) = [1, 128] := by
  decide +kernel

/-- A Read Record of the board shows the lamp of PANEL_LOST out: the request's own frame has ended the loss. -/
theorem test_read_record_image :
    let lost := refreshImage (((part 1).onReg fun r => { r with panelLost := true }).onBoard fun b =>
      { b with layout := [(0, .fixed .panelLost)] })
    (recordData lost 9 0 1).bind List.head? = some 1 ∧
    (recordData (panelHeard 224 lost) 9 0 1).bind List.head? = some 0 := by decide +kernel

theorem test_hyps_WriteEntryAnswers :
    (part 1).takesRequest 224 ∧ tableOf 0 = none ∧ tableOf TableId.detector.code = some .detector ∧
    TableId.detector.safety = true ∧ (part 1).armed = true ∧ tableOf TableId.day.code = some .day ∧
    (TableId.day.safety && (part 1).armed) = false ∧ TableId.day.indexOk 7 = false ∧
    TableId.day.indexOk 6 = true ∧ TableId.day.dataOk [1] = false ∧
    TableId.day.dataOk [4, 26] = true ∧ (writeTable .day 6 [4, 26] (part 1)).code = .ok :=
  ⟨takes.1, by decide +kernel⟩

/-- The edges of index ranges, and data a table's layout does not admit: a parameter of NONE, a floors mask above its
byte, a parameter of END, a REST with a divider, five bytes of notes, and a part 2. -/
theorem test_table_layouts :
    ((tableIds.map fun t => (List.range 256).filter t.indexOk).map List.length) =
      [223, 1, 1, 8, 48, 24, 16, 1, 32, 64, 16, 16, 64, 1, 7, 32, 16, 8] ∧
    TableId.station.indexOk 0 = false ∧
    (TableId.boardLayout.dataOk [0, 0], TableId.boardLayout.dataOk [0, 1], TableId.boardLayout.dataOk [1, 1]) =
      (true, false, true) ∧
    (TableId.closing.dataOk [0, 0, 0, 2, 0, 4], TableId.closing.dataOk [0, 0, 0, 2, 1, 4],
      TableId.closing.dataOk [0, 0, 2, 0, 1, 0], TableId.closing.dataOk [0, 0, 6, 1, 0, 0]) =
      (true, false, true, false) ∧
    (TableId.chime.dataOk [0, 1, 0, 4, 9, 9], TableId.chime.dataOk [0, 1, 7, 4, 9, 9],
      TableId.chime.dataOk [1, 7, 0, 9, 9], TableId.chime.dataOk [1, 7, 0, 9, 9, 0],
      TableId.chime.dataOk [2, 7, 0, 9, 9]) = (true, false, true, false, false) := by decide +kernel

/-- Minute 1439 is taken and 1440 is not, and a chime's second part follows its first. -/
theorem test_hyps_WrittenEntryReadsBack :
    TableId.day.indexOk 6 = true ∧ TableId.day.dataOk [5, 159] = true ∧
    (writeTable .day 6 [5, 159] (part 1)).code = .ok ∧
    (writeTable .day 6 [5, 160] (part 1)).code = .badValue ∧ byteAt [5, 159] 0 = 5 := by decide +kernel

/-- A new station is UNSEEN and a rewritten one keeps its presence, both with miss count 0; a new ringer is IDLE; the
panel timer starts with a write of the line settings and stops with their deletion. -/
theorem test_run_time_WrittenEntryReadsBack :
    let missed := onStation idlePart 1 fun e => { e with miss := 2 }
    let settings := (writeTable .lineSettings 0 [224, 5, 12] idlePart).state
    (tget (writeTable .station 30 [0, 2, 0, 3] missed).state.reg.stations 30).map (fun e => (e.presence, e.miss)) =
      some (.unseen, 0) ∧
    (tget (writeTable .station 1 [0, 2, 0, 3] missed).state.reg.stations 1).map (fun e => (e.presence, e.miss)) =
      some (.present, 0) ∧
    tget (writeTable .ringer 1 [8, 3] idlePart).state.call.ringers 1 = some { ringer with floor := 3 } ∧
    settings.reg.panelTimer = some 1500000 ∧ (deleteTable .lineSettings 0 settings).state.reg.panelTimer = none := by
  decide +kernel

theorem test_hyps_DeleteEntryAnswers :
    (part 1).takesRequest 224 ∧ tableOf TableId.chime.code = some .chime ∧
    (TableId.chime.safety && (part 1).armed) = false ∧ TableId.chime.indexOk 16 = false ∧
    entryData .chime 3 (part 1) = none ∧ (entryData .chime 2 (part 1)).isSome = true ∧
    (deleteTable .chime 2 (part 1)).code = .ok ∧ (deleteTable .pattern 0 (part 1)).code = .inUse :=
  ⟨takes.1, by decide +kernel⟩

/-- An empty part arms; one whose detector names no station does not. -/
theorem test_hyps_ArmAnswers :
    (part 1).takesRequest 224 ∧ (part 1).armed = true ∧ State.reset.takesRequest 224 ∧
    State.reset.armed = false ∧ armFailure State.reset = none ∧
    armFailure (idlePart.onReg fun r => { r with stations := [] }) = some (1, .detector, 0) :=
  ⟨takes.1, by unfold State.takesRequest; decide +kernel⟩

theorem test_hyps_DisarmAnswers :
    (part 1).takesRequest 224 ∧ (part 1).armed = true ∧
    (∀ e ∈ (part 1).fire.zones, e.2.state ≠ .preAlarm ∧ e.2.state ≠ .fullAlarm) ∧
    (alarmed .preAlarm).takesRequest 224 ∧ (∃ e ∈ (alarmed .preAlarm).fire.zones, e.2.state = .preAlarm) :=
  ⟨takes.1, by unfold State.takesRequest; decide +kernel⟩

/-- Zone 1 in each state, with an active detector and with none; zone 16 is no zone and zone 15 is absent. -/
theorem test_hyps_ZoneRequestsAnswer :
    let active := fun (s : State) => s.onFire fun u => { u with detectors := [(0, { detector with active := true })] }
    (alarmed .preAlarm).takesRequest 224 ∧ (alarmed .preAlarm).armed = true ∧
    tget (alarmed .preAlarm).fire.zones 15 = none ∧ (tget (alarmed .preAlarm).fire.zones 1).isSome = true ∧
    (active (alarmed .preAlarm)).takesRequest 224 ∧ (active (alarmed .isolated)).takesRequest 224 ∧
    (alarmed .quiet).takesRequest 224 ∧ (1 : DetSet) ≠ 0 ∧ (∀ i < 48, (1 : DetSet).getLsbD i = true ↔
      ∃ d ∈ (active (alarmed .isolated)).fire.detectors, d.1 = i ∧ d.2.zone = 1 ∧ d.2.active = true) := by
  unfold State.takesRequest; decide +kernel

theorem test_hyps_ResetZoneAnswers :
    let active := fun (s : State) => s.onFire fun u => { u with detectors := [(0, { detector with active := true })] }
    let operated := fun (s : State) => s.onFire fun u =>
      { u with callPoints := [(0, { station := 2, zone := 1, operated := true, fault := false })] }
    (alarmed .fullAlarm).takesRequest 224 ∧ (alarmed .fullAlarm).armed = true ∧
    tget (alarmed .fullAlarm).fire.zones 1 = some (zone .fullAlarm) ∧ (active (alarmed .fullAlarm)).takesRequest 224 ∧
    (operated (alarmed .fullAlarm)).takesRequest 224 ∧
    (fire fun u => { u with zones := [(1, zone .fullAlarm), (2, zone .fullAlarm)] }).takesRequest 224 ∧
    tget (alarmed .fullAlarm).fire.zones 15 = none := by
  unfold State.takesRequest; decide +kernel

/-- The last zone reset: a fire ring is stopped, a FIRE request leaves, the fire level falls and the gap timer stops. -/
theorem test_reset_last_zone :
    let s := ((alarmed .fullAlarm).onCall fun u =>
      { u with fireLevel := 7, fireTimer := some 9, fireRound := 2
               ringers := [(0, { ringer with ring := some (.request { req0 with origin := .fire, priority := 7 }) })]
               queue := [{ req0 with origin := .fire, priority := 7 }] }).onAnn fun u =>
      { u with amps := [(2, { amp with gapTimer := some 3 })] }
    let t := (resetZone 1 s).state
    t.call.queue = [] ∧ tget t.call.ringers 0 = some { ringer with slot := some .cancel } ∧
    t.call.fireLevel = 0 ∧ t.call.fireTimer = none ∧ t.ann.amps = [(2, amp)] := by decide +kernel

theorem test_hyps_EvacuateAnswers :
    (part 1).takesRequest 224 ∧ (part 1).armed = true ∧ (4 : ZoneSet).getLsbD 2 = true ∧
    tget (part 1).fire.zones 2 = none ∧ (∀ z < 16, (2 : ZoneSet).getLsbD z = true →
      (tget (part 1).fire.zones z).isSome = true) ∧ (alarmed .isolated).takesRequest 224 :=
  ⟨takes.1, by unfold State.takesRequest; decide +kernel⟩

theorem test_hyps_SilenceAndResoundAnswer :
    (part 1).takesRequest 224 ∧ (part 1).anyFull = false ∧ (alarmed .fullAlarm).takesRequest 224 ∧
    (alarmed .fullAlarm).armed = true ∧ (alarmed .fullAlarm).anyFull = true ∧
    (alarmed .fullAlarm).fire.silence = false ∧ (alarmed .fullAlarm).fire.settings.isSome = true :=
  ⟨takes.1, by unfold State.takesRequest; decide +kernel⟩

/-- A closed shutter, a jammed one, a faulted one, one whose zone is in alarm, and one whose landing is not judged. -/
theorem test_hyps_RaiseAndRetryShutterAnswer :
    let jam := shut 0 fun e => { e with state := .obstructed, obstruction := some .jam, reason := .fire }
    let held := (alarmed .fullAlarm).onShut fun t => tmod t 0 fun e => { e with state := .closed, reason := .fire }
    let shaft := (shut 1 fun e => { e with state := .faulted, fault := some .travelTimeout, reason := .fire })
    (jam).takesRequest 224 ∧ jam.armed = true ∧ (jam.shut.map Prod.fst).Nodup ∧ jam.missing 3 = false ∧
    held.takesRequest 224 ∧ (∀ e, tget held.shut 0 = some e → e.inZone held.zoneAlarm = true) ∧
    shaft.pat.judge 2 = .blocked ∧
    (shaft.onPat fun p => { p with chain := { p.chain with position := some 850 } }).pat.judge 2 = .clear ∧
    (shaft.onPat fun p => { p with state := .running }).pat.judge 2 = .notStopped ∧ tget jam.shut 31 = none := by
  unfold State.takesRequest; decide +kernel

/-- A Retry of a SHAFT shutter OBSTRUCTED by a car, its landing still judged BLOCKED, sets the mark (R72, R85). -/
theorem test_retry_blocked_marks :
    let s := (shut 1 fun e => { e with state := .obstructed, obstruction := some .car, reason := .night }).onLine fun l =>
      { l with portA := some ⟨0, 0, 0, 0, []⟩ }
    (tget (run (.retryShutter 224 1 1) s).shut 1).map (fun e => (e.state, e.obstruction, e.mark)) =
      some (.obstructed, some .car, true) := by decide +kernel

theorem test_hyps_ReleasePaternosterAnswers :
    let locked := pat fun p => { p with state := .locked }
    let waiting := onShutter locked 1 fun e => { e with state := .awaitClear }
    let moving := locked.onPat fun p => { p with chain := { p.chain with motion := .moving } }
    locked.takesRequest 224 ∧ locked.armed = true ∧ locked.anyFull = false ∧ locked.missing 4 = false ∧
    waiting.shut = (waiting.shut.take 1) ++ (1, shutter .shaft 5 (some 2) .awaitClear) :: [] ∧
    moving.pat.chain.motion ≠ .stopped ∧ (part 1).pat.state ≠ .locked := by
  unfold State.takesRequest; decide +kernel

theorem test_hyps_ClearCallAnswers :
    let called := call fun u => { u with calls := [call0], queue := [req0] }
    called.takesRequest 224 ∧ called.armed = true ∧ (∃ c ∈ called.call.calls, c.push = 0) ∧
    (tget called.call.pushes 0).isSome = true ∧ tget called.call.pushes 63 = none ∧
    (∀ c ∈ (part 1).call.calls, c.push ≠ 0) := by
  unfold State.takesRequest; decide +kernel

/-- 255 stops the ring of the call removed and clears LIST_FULL; with no call listed LIST_FULL stays. -/
theorem test_clear_all_calls :
    let full := call fun u =>
      { u with calls := [call0], listFull := true,
               ringers := [(0, { ringer with ring := some (.request req0), number := some 5, timer := some 9 })] }
    let cleared := run (.clearCall 224 1 255) full
    let kept := run (.clearCall 224 1 255) (call fun u => { u with listFull := true })
    (cleared.call.calls = [] ∧ cleared.call.listFull = false ∧
      cleared.call.ringers = [(0, { ringer with slot := some .cancel })]) ∧ kept.call.listFull = true := by decide +kernel

/-- Each closing state, an empty programme, and first steps with offsets 10 and 0. -/
theorem test_hyps_ClosingRequestsAnswer :
    (part 1).takesRequest 224 ∧ (part 1).ann.closing = .waiting ∧
    (part 1).ann.programme = (0, { offset := 10, kind := .level 3 }) :: [] ∧
    (ann fun u => { u with programme := [] }).takesRequest 224 ∧
    (ann fun u => { u with programme := [(0, { offset := 0, kind := .finish })] }).takesRequest 224 ∧
    (ann fun u => { u with closing := .running }).takesRequest 224 ∧
    (ann fun u => { u with closing := .aborted }).takesRequest 224 ∧ (alarmed .fullAlarm).anyFull = true :=
  ⟨takes.1, by unfold State.takesRequest; decide +kernel⟩

/-- A board with a lit cell and one assigned cell scans, tests, and waits behind a pass in flight. -/
theorem test_hyps_BoardModeAnswers :
    let o : OnTimes := { n1 := 30, n2 := 99, limit := 5 }
    let lit := (alarmed .fullAlarm).onBoard fun b => { b with image := imageOf (alarmed .fullAlarm) }
    (part 1).takesRequest 224 ∧ (part 1).board.settings = some o ∧ lit.takesRequest 224 ∧
    (planPass lit.board o .scan).plan ≠ [] ∧ (planPass (part 1).board o .scan).plan = [] ∧
    (planPass lit.board o .test).plan ≠ [] ∧ (planPass { lit.board with layout := [] } o .test).plan = [] ∧
    (run (.boardMode 224 1 1) lit).board.pass.isSome = true ∧ State.reset.board.settings = none :=
  ⟨takes.1, by unfold State.takesRequest; decide +kernel⟩

/-! ### Panel orders -/

/-- Orders to a shutter, to all, and to an unknown station are taken as from the panel. -/
theorem test_hyps_PlainOrdersPass :
    let full := line fun l => { l with orders := List.replicate 16 ⟨head 224 4, .warn⟩ }
    orderParts (.warnOrder (head 224 3)) = some ⟨head 224 3, .warn⟩ ∧ (part 1).takesOrder (head 224 3) ∧
    (part 1).line.orders.length < 16 ∧ (part 1).knows (head 224 3) ∧ (part 1).knows (head 224 255) ∧
    (idlePart).takesOrder (head 224 3) ∧ (idlePart).armed = false ∧ orderParts (.dropOrder (head 224 3)) =
      some ⟨head 224 3, .drop⟩ ∧
    (∀ i, shutterAt idlePart 3 = some i → i = 0) ∧ (tget (idlePart).shut 0).all (·.kind != .shaft) ∧
    full.takesOrder (head 224 4) ∧ full.knows (head 224 4) ∧ 16 ≤ full.line.orders.length ∧
    judgeOrder ⟨head 224 4, .run⟩ (panelHeard 224 full) = .pass ∧ full.takesOrder (head 224 8) ∧
    judgeOrder ⟨head 224 8, .ring 4 5 1⟩ (panelHeard 224 full) = .pass ∧
    judgeOrder ⟨head 224 9, .gate 0⟩ (panelHeard 224 full) = .pass := by
  unfold State.takesOrder State.knows; decide +kernel

/-- A Run from IDLE; a Halt in IDLE, RESTING and RUNNING; a Rest with a rest set and with none. -/
theorem test_hyps_PaternosterOrdersNoted :
    let running := pat fun p => { p with state := .running }
    (part 1).takesOrder (head 224 4) ∧ (part 1).knows (head 224 4) ∧ (part 1).line.orders.length < 16 ∧
    (part 1).armed = true ∧ (part 1).pat.state = .idle ∧ (part 1).anyFull = false ∧
    (∀ e ∈ (part 1).shut, e.2.kind = .shaft → e.2.state = .open) ∧ (part 1).driveStation = some 4 ∧
    tget (part 1).reg.stations 4 = some (station .drive) ∧ (station .drive).presence = .present ∧
    running.takesOrder (head 224 4) ∧ running.knows (head 224 4) ∧ running.pat.geometry = some geometry ∧
    (∃ e ∈ running.pat.landings, e.2.restClear = true) ∧
    (∀ e ∈ (running.onPat fun p => { p with landings := [] }).pat.landings, e.2.restClear = false) := by
  unfold State.takesOrder State.knows; decide +kernel

/-- A DEPARTMENT and a SHAFT shutter, OPEN and CLOSED for FIRE, the landing judged CLEAR at 850. -/
theorem test_hyps_DropAndRaiseOrders :
    let clear := pat fun p => { p with chain := { p.chain with position := some 850 } }
    let closed := shut 0 fun e => { e with state := .closed, reason := .fire }
    (part 1).takesOrder (head 224 3) ∧ (part 1).knows (head 224 3) ∧ (part 1).armed = true ∧
    (head 224 3).dst ≠ 255 ∧ (part 1).line.orders.length < 16 ∧ shutterAt (part 1) 3 = some 0 ∧
    (tget (part 1).shut 0).isSome = true ∧ ((part 1).shut.map Prod.fst).Nodup ∧
    (part 1).takesOrder (head 224 8) ∧ (part 1).knows (head 224 8) ∧ (head 224 8).dst ≠ 255 ∧
    shutterAt (part 1) 8 = none ∧ clear.takesOrder (head 224 5) ∧ shutterAt clear 5 = some 1 ∧ clear.pat.judge 2 = .clear ∧
    closed.takesOrder (head 224 3) ∧ (∀ e, tget closed.shut 0 = some e → e.inZone closed.zoneAlarm = false) := by
  unfold State.takesOrder State.knows; decide +kernel

/-- Orders to the ringer, the amplifier, a station that is neither, and all; Gate values 2 and 3; a silenced fire. -/
theorem test_hyps_RingPhraseAndGateOrdersNoted :
    let silenced := (alarmed .fullAlarm).onFire fun u => { u with silence := true }
    (part 1).takesOrder (head 224 8) ∧ (part 1).knows (head 224 8) ∧ (part 1).armed = true ∧
    (part 1).line.orders.length < 16 ∧ ringerAt (part 1) 8 = some 0 ∧ tget (part 1).call.ringers 0 = some ringer ∧
    (part 1).knows (head 224 255) ∧ ringerAt (part 1) 4 = none ∧ (part 1).takesOrder (head 224 9) ∧
    ampAt (part 1) 9 = some 2 ∧ tget (part 1).ann.amps 2 = some amp ∧ (part 1).anyFull = false ∧
    silenced.fire.silence = true ∧ silenced.takesOrder (head 224 9) ∧ (2 : Byte).toNat ≤ 2 ∧ 2 < (3 : Byte).toNat := by
  unfold State.takesOrder State.knows; decide +kernel

/-- Port B is occupied, and an order of each sort meets its veto. -/
theorem test_hyps_VetoedOrders :
    let waits := shut 0 fun e => { e with state := .descending }
    let blocked := shut 1 id
    let fired := alarmed .fullAlarm
    (part 1).line.portB ≠ .free ∧ (part 1).takesOrder (head 224 99) ∧ tget (part 1).reg.stations 99 = none ∧
    orderParts (.pollOrder (head 224 4)) = some ⟨head 224 4, .poll⟩ ∧ (part 1).takesOrder (head 224 4) ∧
    (part 1).knows (head 224 4) ∧ (idlePart).takesOrder (head 224 255) ∧ (idlePart).anyShaft = true ∧
    waits.takesOrder (head 224 3) ∧ shutterAt waits 3 = some 0 ∧ blocked.pat.judge 2 = .blocked ∧
    shutterAt blocked 5 = some 1 ∧ fired.takesOrder (head 224 9) ∧ fired.anyFull = true ∧
    fired.fire.silence = false ∧ fired.pat.state = .idle := by
  unfold State.takesOrder State.knows; decide +kernel

/-! ### The Monitor, the zones and the polls -/

/-- Landing 2 is judged BLOCKED at 1000 and CLEAR at 850; shutter 1 waits for it. -/
theorem test_hyps_LockPlaceAndLandingJudgment :
    let waiting := shut 1 fun e => { e with state := .awaitClear }
    (part 1).pat.geometry = some geometry ∧ (part 1).pat.chain.position = some 1000 ∧
    (part 1).pat.chain.motion = .stopped ∧ (part 1).pat.state = .idle ∧ (tget (part 1).pat.landings 2).isSome = true ∧
    tget waiting.shut 1 = some (shutter .shaft 5 (some 2) .awaitClear) ∧ waiting.pat.judge 2 = .blocked ∧
    (chainAt 850 0).judge 2 = .notStopped ∧ (part 1).pat.fireStop.getLsbD 2 = false ∧
    (∃ e ∈ (part 1).pat.landings, e.2.restClear = true) ∧
    (addLanding 2 (part 1)).pat.state = .locked ∧
    (addLanding 2 (pat fun p => { p with state := .running })).pat.state = .stopping ∧
    (addLanding 2 (pat fun p => { p with state := .resting, stop := some ⟨none, none, true⟩ })).pat.state = .stopping ∧
    (addLanding 2 (pat fun p => { p with chain := { p.chain with motion := .moving } })).pat.state = .idle ∧
    (addLanding 2 (pat fun p =>
      { p with state := .locked, chain := { p.chain with motion := .moving } })).pat.causes = 1 := by decide +kernel

/-- Zone 1 enters while the paternoster is RUNNING, and shutter 0 is OPEN with no other zone. -/
theorem test_hyps_FullAlarmEntry :
    let running := pat fun p => { p with state := .running }
    tget running.fire.zones 1 = some (zone .quiet) ∧ running.fire.zones.Pairwise (·.1 < ·.1) ∧
    running.shut.Pairwise (·.1 < ·.1) ∧ running.pat.geometry.isSome = true ∧
    tget running.shut 0 = some (shutter .department 3 none .open) := by decide +kernel

/-- The state, slot and timer of shutter `i` once released from what `f` makes it. -/
abbrev released (i : Nat) (f : Shutter → Shutter) : Option (ShutterState × Option ShutterOrder × Option Nat) :=
  (tget (release i (shut i f)).shut i).map fun e => (e.state, e.slot, e.timer)

/-- R76's table for a SHAFT shutter, its landing judged BLOCKED: from OPEN, from RAISING with an unsent Raise, from
OBSTRUCTED by a jam, and from OBSTRUCTED by a car for FIRE, which sets its mark. -/
theorem test_release_shaft :
    released 1 id = some (.obstructed, none, none) ∧
    released 1 (fun e => { e with state := .raising, slot := some .raise }) = some (.obstructed, none, none) ∧
    released 1 (fun e => { e with state := .obstructed, obstruction := some .jam }) = some (.obstructed, none, none) ∧
    ((tget (release 1 (shut 1 fun e =>
      { e with state := .obstructed, obstruction := some .car, reason := .fire })).shut 1).any fun e => e.mark) = true := by
  decide +kernel

/-- R76's table for a DEPARTMENT shutter: from RAISING and from OBSTRUCTED. -/
theorem test_release_department :
    released 0 (fun e => { e with state := .raising, slot := some .raise }) =
      some (.descending, some .drop, some 2500000) ∧
    released 0 (fun e => { e with state := .obstructed, obstruction := some .jam }) =
      some (.obstructed, none, some 1250000) := by decide +kernel

/-- Every station answers, and its record is returned from MISSING while ARMED. -/
theorem test_hyps_AnsweredPolls :
    let lost := fun (a : Nat) => onStation (part a) a fun e => { e with presence := .missing }
    (part 1).answers (head 1) (station .detector) ∧ tget (part 1).reg.stations 1 = some (station .detector) ∧
    (∀ a ∈ [1, 2, 3, 4, 6, 7, 8, 9, 22], (lost a).missing a = true) ∧ (part 1).armed = true ∧
    shutterAt (part 3) 3 = some 0 ∧ landingAt (part 22) 22 = some 2 ∧ ringerAt (part 8) 8 = some 0 ∧
    detectorAt (part 1) 1 = some 0 ∧ callPointAt (part 2) 2 = some 0 ∧ ampAt (part 9) 9 = some 2 :=
  ⟨answers 1 _ _ rfl (by decide) rfl, by decide +kernel⟩

/-- The first answer of an UNSEEN station: the owner's reaction follows (R166), and a landing's records are kept (R28). -/
theorem test_first_answer :
    let fresh := fun (a : Nat) => onStation (part a) a fun e => { e with presence := .unseen }
    let spoiled := onDetector (fresh 1) 0 fun d => { d with fault := true }
    (pollAnswered 22 (fresh 22)).pat = (fresh 22).pat ∧ (pollAnswered 22 (fresh 22)).present 22 = true ∧
    (tget spoiled.fire.detectors 0).any (fun d => d.fault) = true ∧
    (tget (pollAnswered 1 spoiled).fire.detectors 0).any (fun d => d.fault) = false := by
  decide +kernel

/-- A detector's return and loss while Port A is sending: the zone's fault flag follows, and the zone is marked. -/
theorem test_zone_fault_follows :
    let sending := fun (s : State) => s.onLine fun l => { l with portA := some ⟨0, 0, 0, 0, []⟩ }
    let away := onDetector (onZone (onStation (sending (part 1)) 1 fun e => { e with presence := .missing }) 1
      fun e => { e with fault := true }) 0 fun d => { d with fault := true }
    let last := onStation (sending (part 1)) 1 fun e => { e with miss := 2 }
    away.answers (head 1) { station .detector with presence := .missing } ∧ away.line.portA.isSome = true ∧
    ((tget (run (.presenceReport (head 1)) away).fire.zones 1).map fun e => (e.fault, e.mark)) = some (false, true) ∧
    ((tget (run .answerWindowExpiry last).fire.zones 1).map fun e => (e.fault, e.mark)) = some (true, true) :=
  ⟨answers 1 _ _ rfl (by decide) rfl, by decide +kernel⟩

/-- An amplifier whose station returns during the override while it is PLAYING or GATED is owed its fire phrase; gated
off by an Abort Closing in WAITING, it is given it at once, the Phrase in its slot. -/
theorem test_owed_at_return :
    let back := fun st => pollAnswered 9 (onStation ((alarmed .fullAlarm 9).onAnn fun u =>
      { u with amps := [(2, { amp with state := st })] }) 9 fun e => { e with presence := .missing })
    ((back .playing).issuing = true ∧ (tget (back .playing).ann.amps 2).any (fun a => a.owed) = true) ∧
    (tget (back .gated).ann.amps 2).any (fun a => a.owed) = true ∧
    ((tget (run (.abortClosing 224 1) (back .gated)).ann.amps 2).map fun a => (a.state, a.origin, a.owed)) =
      some (.playing, some .fire, false) := by decide +kernel

/-- Two misses of three, and the third; the owners of each role. -/
theorem test_hyps_MissedPolls :
    let once := onStation (part 4) 4 fun e => { e with miss := 1 }
    let twice := onStation (part 4) 4 fun e => { e with miss := 2 }
    (part 1).line.portB = .awaiting 1 625 ∧ (∀ a w, (freeLine (part 1)).line.portB ≠ .awaiting a w) ∧
    tget once.reg.stations 4 = some { station .drive with miss := 1 } ∧ min (1 + 1) 3 ≠ 3 ∧
    tget twice.reg.stations 4 = some { station .drive with miss := 2 } ∧ min (2 + 1) 3 = 3 ∧ twice.armed = true ∧
    (twice.ann.amps.map Prod.fst).Nodup :=
  ⟨by decide, fun _ _ h => PortB.noConfusion h, by decide +kernel⟩

/-- Malformed reports of the polled station are missed polls: at the edge of each field, and a Chain position at L. -/
theorem test_malformed_MissedPolls :
    (part 4).answers (head 4) (station .drive) ∧
    malformed 4 (.chain 5200 0 0) (freePortB (part 4)) = true ∧
    malformed 4 (.chain 5199 0 0) (freePortB (part 4)) = false ∧
    malformed 4 (.chain 5200 0 0) (freePortB (idlePart 4)) = false ∧
    ([.callPoint 2, .chain 0 2 0, .chain 0 0 2, .landing 0 0 2 0, .landing 0 0 0 2, .shutterPosition 6, .push 8,
      .answer 65] : List Report).all (fun r => malformed 1 r (part 1)) = true ∧
    ([.callPoint 1, .chain 0 1 1, .landing 255 255 1 1, .shutterPosition 5, .push 7, .answer 64] : List Report).any
      (fun r => malformed 1 r (part 1)) = false ∧
    (tget (run (.pushReport (head 6) 8) (part 6)).reg.stations 6).map (fun e => e.miss) = some 1 :=
  ⟨answers 4 _ _ rfl (by decide) rfl, by decide +kernel⟩

/-- A poll of station 1 is outstanding: frames of known station 2 and of the stranger 99; and a report in CONFIGURING. -/
theorem test_hyps_UntappedFramesOnPortB :
    (head 2).wf = true ∧ (part 1).line.portB = .awaiting 1 625 ∧ (head 2).src.toNat ≠ 1 ∧
    tget (part 1).reg.stations 2 = some (station .callPoint) ∧ (station .callPoint).presence = .present ∧
    malformed 2 (.callPoint 2) (freePortB (part 1)) = true ∧
    malformed 2 (.callPoint 1) (freePortB (part 1)) = false ∧ tget (part 1).reg.stations 99 = none ∧
    reportListed (.answer 64) = true ∧ reportListed (.answer 65) = false ∧ (idlePart).armed = false ∧
    (idlePart).answers (head 1) (station .detector) :=
  ⟨by decide, by decide, by decide, by decide +kernel, by decide, by decide +kernel, by decide +kernel,
   by decide +kernel, by decide, by decide, by decide, answers 1 _ _ rfl (by decide) rfl⟩

/-- While Port A sends, the FIFO takes a tapped report, one of another known station and a stranger's in CONFIGURING,
and no Presence report, no stranger's while ARMED and none when it holds 24. -/
theorem test_fifo_UntappedFramesOnPortB :
    let busy := fun (s : State) => s.onLine fun l => { l with portA := some ⟨0, 0, 0, 0, []⟩ }
    let kinds := fun (c : Instr) (s : State) => (run c (busy s)).line.reports.map fun f => (f.src, f.kind)
    kinds (.detectorLevelReport (head 1) 9) (part 1) = [(1, 34)] ∧ kinds (.presenceReport (head 1)) (part 1) = [] ∧
    kinds (.frameFromAnotherKnownStation (head 2) (some (.callPoint 1))) (part 1) = [(2, 35)] ∧
    kinds (.strangerFrame (head 99) (some (.push 0))) (part 1) = [] ∧
    kinds (.strangerFrame (head 99) (some (.push 0))) idlePart = [(99, 39)] ∧
    (kinds (.detectorLevelReport (head 1) 9)
      (line fun l => { l with reports := List.replicate 24 ⟨0, 0, 0, 0, []⟩ })).length = 24 := by decide +kernel

/-- Detector 0 inactive at run counts 0 and 2, and active, with zone 1 in each state. -/
theorem test_hyps_DetectorReportsTapped :
    let two := fire fun u => { u with detectors := [(0, { detector with run := 2 })] }
    let on := fire fun u => { u with detectors := [(0, { detector with active := true })] }
    two.answers (head 1) (station .detector) ∧ on.answers (head 1) (station .detector) ∧
    (part 1).answers (head 1) (station .detector) ∧ two.armed = true ∧
    detectorAt (two.answeredBy (head 1)) 1 = some 0 ∧
    tget (two.answeredBy (head 1)).fire.detectors 0 = some { detector with run := 2 } ∧
    tget (two.answeredBy (head 1)).fire.zones 1 = some (zone .quiet) ∧ min (2 + 1) 3 = 3 :=
  ⟨answers 1 _ _ rfl (by decide) rfl, answers 1 _ _ rfl (by decide) rfl, answers 1 _ _ rfl (by decide) rfl,
   by decide +kernel⟩

theorem test_hyps_CallPointsAndStageTimer :
    let pre := fire fun u => { u with zones := [(1, { zone .preAlarm with timer := some 5 })] }
    (part 2).answers (head 2) (station .callPoint) ∧ (part 2).armed = true ∧ (1 : Byte).toNat ≤ 1 ∧
    callPointAt ((part 2).answeredBy (head 2)) 2 = some 0 ∧
    (tget ((part 2).answeredBy (head 2)).fire.callPoints 0).isSome = true ∧
    tget ((part 2).answeredBy (head 2)).fire.zones 1 = some (zone .quiet) ∧
    tget pre.fire.zones 1 = some { zone .preAlarm with timer := some 5 } :=
  ⟨answers 2 _ _ rfl (by decide) rfl, by decide +kernel⟩

/-- The drive answers in each state, with position L - 1 = 5199, and first in UNKNOWN. -/
theorem test_hyps_ChainReportsTapped :
    let inState := fun x => pat (fun p => { p with state := x }) 4
    (∀ x : PatState, (inState x).answers (head 4) (station .drive)) ∧
    (∀ x ∈ [PatState.idle, .running, .runout, .resting, .stopping, .held, .locked, .unknown],
      (inState x).armed = true ∧ ((inState x).answeredBy (head 4)).driveStation = some 4 ∧
      ((inState x).answeredBy (head 4)).pat.geometry = some geometry ∧
      ((inState x).answeredBy (head 4)).pat.state = x) ∧
    (5199 : BitVec 16).toNat < geometry.loop ∧
    (readMove geometry (some 5000) 300).wrap = true :=
  ⟨fun _ => answers 4 _ _ rfl (by decide) rfl, by decide +kernel⟩

/-- Landing 2 waits, a CLOSED shutter's does not; a start of movement by each start record; and a Stop-At withdrawn. -/
theorem test_waiting_ChainReportsTapped :
    let bound := fun st => (startOfMovement (pat (fun p => { p with start := st }) 4)).pat
    waitingFloors (shut 1 fun e => { e with state := .awaitClear }) = [2] ∧
    waitingFloors (shut 1 fun e => { e with state := .obstructed, obstruction := some .car }) = [2] ∧
    waitingFloors (shut 1 fun e => { e with state := .closed }) = [] ∧
    ((bound none).state, (bound none).mark, (bound (some .running)).mark, (bound (some (.runout 3))).revs) =
      (.running, true, false, some 3) ∧
    ({ (part 4).pat with slot := some (.stopAt 1710) }).withdrawStopAt.slot = none ∧
    ({ (part 4).pat with slot := some .halt }).withdrawStopAt.slot = some .halt := by decide +kernel

/-- Landing 2 reports in each state, untripped and tripped; trips at the limit of 3 within the window. -/
theorem test_hyps_LandingReportsTapped :
    let inState := fun x => pat (fun p => { p with state := x, trips := [90, 95] }) 22
    let at22 := fun (s : State) => s.onPat fun p => { p with landings := [(2, landing 940 4260 5 true 22)] }
    (∀ x : PatState, (at22 (inState x)).answers (head 22) (station .landing)) ∧
    (at22 (inState .running)).armed = true ∧
    landingAt ((at22 (inState .running)).answeredBy (head 22)) 22 = some 2 ∧
    tget ((at22 (inState .running)).answeredBy (head 22)).pat.landings 2 = some (landing 940 4260 5 true 22) ∧
    ((at22 (inState .running)).answeredBy (head 22)).pat.geometry = some geometry ∧
    3 ≤ ((addTrip 100 [90, 95]).filter fun t => 100 - t < 60).length ∧ (part 22).now = 100 ∧
    (List.replicate 8 0).length = 8 :=
  ⟨fun _ => answers 22 _ _ rfl (by decide) rfl, by decide +kernel⟩

/-- Shutter 0's station answers in each of the shutter's states. -/
theorem test_hyps_ShutterReportsTapped :
    let inState := fun x => shut 0 (fun e => { e with state := x }) 3
    (∀ x : ShutterState, (inState x).answers (head 3) (station .shutter)) ∧
    (∀ x ∈ [ShutterState.unknown, .open, .awaitClear, .warning, .descending, .closed, .obstructed, .raising, .faulted],
      (inState x).armed = true ∧ shutterAt ((inState x).answeredBy (head 3)) 3 = some 0 ∧
      (tget ((inState x).answeredBy (head 3)).shut 0).any (·.state == x) = true ∧
      (((inState x).answeredBy (head 3)).shut.map Prod.fst).Nodup) ∧
    valueOf positions 5 = some .jammed ∧ valueOf positions 0 = some .open :=
  ⟨fun _ => answers 3 _ _ rfl (by decide) rfl, by decide +kernel⟩

/-! ### Calls, amplifiers, timers, the board and the line -/

/-- Push 0 with no call, with a call of 1 press, and with one of 2; a full list; key 7 with no entry. -/
theorem test_hyps_PushReportsTapped :
    let pressed := call (fun u => { u with calls := [{ call0 with presses := 2 }] }) 6
    let full := call (fun u => { u with calls := List.replicate 32 { call0 with push := 1 } }) 6
    (part 6).answers (head 6) (station .push) ∧ pressed.answers (head 6) (station .push) ∧
    full.answers (head 6) (station .push) ∧ (part 6).armed = true ∧
    pushAt ((part 6).answeredBy (head 6)) 6 0 = some 0 ∧ pushAt ((part 6).answeredBy (head 6)) 6 7 = none ∧
    (tget ((part 6).answeredBy (head 6)).call.pushes 0).isSome = true ∧
    (∀ c ∈ ((part 6).answeredBy (head 6)).call.calls, c.push ≠ 0) ∧
    (pressed.answeredBy (head 6)).call.calls.find? (fun c => c.push == 0) = some { call0 with presses := 2 } ∧
    32 ≤ (full.answeredBy (head 6)).call.calls.length ∧ min (2 + 1) 15 = 3 :=
  ⟨answers 6 _ _ rfl (by decide) rfl, answers 6 _ _ rfl (by decide) rfl, answers 6 _ _ rfl (by decide) rfl,
   by decide +kernel⟩

/-- A call escalates: its queued request rises, and the escalation ring joins at the new priority. -/
theorem test_escalation :
    let s := call fun u =>
      { u with calls := [{ call0 with presses := 3 }], queue := [req0]
               pushes := [(0, { station := 6, key := 0, floor := 2, priority := 3, pattern := 0, ringer := 0,
                                escalation := some (1, 0) })] }
    let t := escalate 0 s
    (t.call.queue.map fun r => (r.ringer, r.priority)) = [(0, 4), (1, 4)] ∧
    (t.call.calls.map fun c => (c.priority, c.escalated)) = [(4, true)] := by decide +kernel

/-- The desk answers cell 0 of push 0, cell 63 of nothing, and 64, with a call and with none. -/
theorem test_hyps_AnswerReportsTapped :
    let called := call (fun u => { u with calls := [call0], queue := [req0] }) 7
    (part 7).answers (head 7) (station .desk) ∧ called.answers (head 7) (station .desk) ∧ called.armed = true ∧
    (called.answeredBy (head 7)).hasRole 7 .desk = true ∧ ((part 1).answeredBy (head 1)).hasRole 1 .desk = false ∧
    tget (called.answeredBy (head 7)).board.layout 0 = some (.push 0) ∧
    tget (called.answeredBy (head 7)).board.layout 63 = none ∧
    (∃ c ∈ (called.answeredBy (head 7)).call.calls, c.push = 0) ∧
    (removeCalls [0] true (called.answeredBy (head 7))).call.queue = [] ∧
    ((part 7).answeredBy (head 7)).call.calls = [] ∧ ((part 7).answeredBy (head 7)).call.queue = [] :=
  ⟨answers 7 _ _ rfl (by decide) rfl, answers 7 _ _ rfl (by decide) rfl, by decide +kernel⟩

/-- Ringer 0 rings push 0's request with number 5, its pattern REPEAT with interval 30 and limit 2. -/
theorem test_hyps_RingsEnd :
    let ringing := call (fun u =>
      { u with calls := [{ call0 with rings := 1 }]
               ringers := [(0, { ringer with ring := some (.request req0), number := some 5, timer := some 9 })] }) 8
    ringing.answers (head 8) (station .ringer) ∧ ringing.armed = true ∧
    ringerAt (ringing.answeredBy (head 8)) 8 = some 0 ∧
    tget (ringing.answeredBy (head 8)).call.ringers 0 =
      some { ringer with ring := some (.request req0), number := some 5, timer := some 9 } ∧
    (ringing.answeredBy (head 8)).call.calls.find? (fun c => c.push == 0) = some { call0 with rings := 1 } ∧
    (tget (ringing.answeredBy (head 8)).call.pushes 0).any (fun e => e.ringer == 0 && e.pattern == 0) = true ∧
    (tget (ringing.answeredBy (head 8)).call.patterns 0).any (fun e => e.repeating == some (30, 2)) = true ∧
    2 ≤ min (1 + 1) 15 ∧ tget (part 8).call.ringers 0 = some ringer :=
  ⟨answers 8 _ _ rfl (by decide) rfl, by decide +kernel⟩

theorem test_hyps_RingTimesReached :
    let due := call fun u => { u with calls := [{ call0 with nextRing := some 130 }] }
    let fired := (alarmed .fullAlarm).onCall fun u => { u with fireTimer := some 0, fireRound := 1 }
    due.call.calls.find? (fun c => c.push == 0) = some { call0 with nextRing := some 130 } ∧
    (tget due.call.pushes 0).isSome = true ∧ (∀ c ∈ (part 1).call.calls, c.push ≠ 0) ∧
    fired.fire.settings = some { evacPhrase := 1, alertPhrase := 2, pattern := 0, gap := 5 } ∧
    tget fired.call.patterns 0 = some { strokes := 4, spacing := 5, repeating := some (30, 2) } ∧
    fired.call.fireTimer.isSome = true ∧ fired.anyFull = true ∧ fired.fire.silence = false ∧
    fired.call.fireRound < 2 := by decide +kernel

/-- At its next ring time the request of a call joins and is rung, and that of an owed call waits for the re-offer. -/
theorem test_next_ring_owed :
    let due := fun owed => nextRingReached 0 (call fun u => { u with calls := [{ call0 with nextRing := some 130, owed := owed }] })
    (tget (due false).call.ringers 0).any (fun g => g.ring.isSome) = true ∧
    (due true).call.queue = [] ∧ tget (due true).call.ringers 0 = some ringer ∧
    ((due true).call.calls.map fun c => (c.nextRing, c.owed)) = [(none, true)] := by decide +kernel

/-- The amplifier plays a fire phrase with number 4 during the override, and waits out a gap. -/
theorem test_hyps_PhrasesEnd :
    let playing : Amp := { amp with state := .playing, origin := some .fire, number := some 4, phraseTimer := some 9 }
    let fired := (alarmed .fullAlarm 9).onAnn fun u => { u with amps := [(2, playing)] }
    let gap := (alarmed .fullAlarm 9).onAnn fun u => { u with amps := [(2, { amp with gapTimer := some 0 })] }
    fired.answers (head 9) (station .amplifier) ∧ fired.armed = true ∧
    ampAt (fired.answeredBy (head 9)) 9 = some 2 ∧ tget (fired.answeredBy (head 9)).ann.amps 2 = some playing ∧
    (fired.answeredBy (head 9)).issuing = true ∧ (fired.answeredBy (head 9)).missing 9 = false ∧
    (fired.answeredBy (head 9)).fire.settings.isSome = true ∧ tget gap.ann.amps 2 = some { amp with gapTimer := some 0 } ∧
    gap.issuing = true ∧ (∃ z ∈ fired.fire.zones, z.2.state = .fullAlarm ∧ z.2.evacFloors.getLsbD 2 = true) :=
  ⟨answers 9 _ _ rfl (by decide) rfl, by decide +kernel⟩

/-- Chime 2 sounds its first note, its first gap, and the last gap of the second round. -/
theorem test_hyps_ChimesProgress :
    let sounds := fun x => ann fun u => { u with gen0 := some { chime := 2, gated := 4, sounding := some x } }
    let first : Sounding := { round := 1, note := 0, inGap := false, left := 0 }
    let last : Sounding := { round := 2, note := 3, inGap := true, left := 0 }
    (sounds first).ann.gen 0 = some { chime := 2, gated := 4, sounding := some first } ∧
    (sounds last).ann.gen 0 = some { chime := 2, gated := 4, sounding := some last } ∧
    tget (sounds first).ann.chimes 2 = some chime ∧ (chime.notes[0]?).isSome = true ∧
    (chime.notes[1]?).isSome = true ∧ (chime.notes[3]?).isSome = true ∧ chime.notes.length ≤ 3 + 1 ∧
    (part 1).ann.gen 1 = none := by decide +kernel

theorem test_hyps_ChainTimers :
    let timed := pat fun p => { p with state := .resting, stopTimer := some 0 }
    let held := pat fun p => { p with state := .held, resumeTimer := some 0 }
    timed.pat.stopTimer.isSome = true ∧ timed.pat.state = .resting ∧ held.pat.resumeTimer.isSome = true ∧
    held.pat.state = .held ∧ held.runCouldPass = true ∧
    (shut 1 fun e => { e with state := .closed }).runCouldPass = false ∧ held.pat.geometry = some geometry ∧
    held.pat.guardsClear = true ∧ held.pat.chain.motion = .stopped := by decide +kernel

/-- Each timed state of each kind, the landing judged BLOCKED at 1000, CLEAR at 850 and not judged while RUNNING. -/
theorem test_hyps_ShutterTimers :
    let timed := fun i x => shut i fun e => { e with state := x, timer := some 0 }
    ((timed 0 .warning).shut.map Prod.fst).Nodup ∧
    (tget (timed 0 .warning).shut 0).any (fun e => e.timer.isSome && e.state == .warning) = true ∧
    (tget (timed 1 .warning).shut 1).any (fun e => e.kind == .shaft && e.landing == some 2) = true ∧
    (timed 1 .warning).pat.judge 2 = .blocked ∧
    ((timed 1 .warning).onPat fun p => { p with chain := { p.chain with position := some 850 } }).pat.judge 2 = .clear ∧
    ((timed 1 .warning).onPat fun p => { p with state := .running }).pat.judge 2 = .notStopped ∧
    (tget (timed 0 .descending).shut 0).any (fun e => e.timer.isSome && e.state == .descending) = true ∧
    (tget (timed 0 .obstructed).shut 0).any (fun e => e.state == .obstructed && decide (e.attempts < 3)) = true := by
  decide +kernel

/-- A SET clock whose next day closes at minute 0, a closing minute ahead, and a RUNNING closing at offset 10 and at END. -/
theorem test_hyps_PanelClockAndStepMoments :
    let set := ann fun u => { u with clock := { set := true, second := 86399, weekday := 6, sub := 0 }, days := [(0, 0)] }
    let noon := ann fun u => { u with clock := { set := true, second := 10, weekday := 3, sub := 0 }, days := [(3, 1050)] }
    let going := ann fun u => { u with closing := .running, startTime := some 100, nextStep := some 0 }
    set.ann.clock.set = true ∧ tget set.ann.days ((6 + 1) % 7) = some 0 ∧ tget noon.ann.days 3 = some 1050 ∧
    noon.ann.clock.second < 60 * 1050 ∧ (part 1).reg.panelTimer = none ∧ going.ann.closing = .running ∧
    going.ann.startTime = some 100 ∧ going.ann.nextStep = some 0 ∧
    tget going.ann.programme 0 = some { offset := 10, kind := .level 3 } ∧ going.now - 100 < 10 ∧
    (ann fun u => { u with programme := [(0, { offset := 0, kind := .finish })] }).now - 100 = 0 := by decide +kernel

/-- A CHIME step taken and one that waits on a busy amplifier, a PHRASE, a RING, a LEVEL, a RUNOUT and a NIGHT step, the
landing of the SHAFT shutter judged BLOCKED; an empty programme; and an abandonment. -/
theorem test_steps_PanelClockAndStepMoments :
    let at0 := fun k f => (ann fun u => f { u with
      closing := .running, startTime := some 100, nextStep := some 0, programme := [(0, { offset := 0, kind := k })] })
    let played := stepCheck (at0 (.chime 2 4) id)
    let waits := stepCheck (at0 (.chime 2 4) fun u => { u with amps := [(2, { amp with state := .playing })] })
    let night := stepEffect (.night 4) ((shut 1 fun e => { e with night := true }))
    (played.ann.gen0.isSome = true ∧ played.ann.closing = .finished) ∧
    (waits.ann.waitFloors = 4 ∧ waits.ann.nextStep = some 0) ∧
    ((tget (stepEffect (.phrase 7 4) (part 1)).ann.amps 2).any fun a => a.slot == some (.phrase 7 1)) = true ∧
    (stepEffect (.ring 0 1) (part 1)).call.counter = 2 ∧ (stepEffect (.level 3) (part 1)).call.closingLevel = 3 ∧
    (stepEffect (.runout 9) (pat fun p => { p with state := .running })).pat.revs = some 9 ∧
    (tget night.shut 1).map (fun e => (e.state, e.reason)) = some (.obstructed, .night) ∧
    (startClosing (ann fun u => { u with programme := [] })).ann.closing = .finished ∧
    (abandonClosing played).ann.amps = [(2, { amp with slot := some .gateOff })] := by decide +kernel

/-- A NIGHT step that closes one SHAFT shutter of landing 2 hands its judgment, BLOCKED, to the other, which waits. -/
theorem test_night_judges_the_landing :
    let s := (shut 1 fun e => { e with night := true }).onShut fun t =>
      t ++ [(2, { shutter .shaft 10 (some 2) .awaitClear with reason := .manual })]
    let v := stepEffect (.night 4) s
    (tget v.shut 1).map (fun e => (e.state, e.reason)) = some (.obstructed, .night) ∧
    (tget v.shut 2).map (fun e => (e.state, e.reason)) = some (.obstructed, .manual) ∧
    tget v.shut 2 = tget (handLanding s.pat 2 s.shut) 2 := by decide +kernel

theorem test_hyps_PassPlanAndDegrade : 5 ≤ ({ n1 := 255, n2 := 255, limit := 5 } : OnTimes).limit := by decide

/-- A board scans, has a test waiting, and tests, with a pass in flight and a lit cell. -/
theorem test_hyps_BoardPassesComplete :
    let o : OnTimes := { n1 := 30, n2 := 99, limit := 5 }
    let lit := (alarmed .fullAlarm).onBoard fun b => { b with image := imageOf (alarmed .fullAlarm) }
    let scans := run (.boardMode 224 1 1) lit
    let tests := run (.boardMode 224 1 2) lit
    (scans.board.pass.any fun p => p.kind == .scan) = true ∧ scans.board.mode = .scanning ∧
    scans.board.settings = some o ∧ (planPass scans.board o .scan).plan ≠ [] ∧
    (tests.board.pass.any fun p => p.kind == .test) = true ∧ tests.board.returnMode = some .dark ∧
    tests.line.portA.isSome = true ∧ (part 1).board.pass = none ∧
    cellMode lit 1 = .emphasis ∧ cellMode lit 0 = .off ∧
    cellMode (call fun u => { u with calls := [{ call0 with state := .deferred }] }) 0 = .flash := by decide +kernel

/-- Port B sends an order and a Poll; a reply and a report wait for Port A; a FAST and a SLOW station. -/
theorem test_hyps_TransmissionsAndPollSchedule :
    let sends := line fun l => { l with portB := .sending ⟨head 224 4, .run⟩ }
    let polls := line fun l => { l with portB := .polling 4, reply := some ⟨0, 0, 0, 0, []⟩, localRun := 4
                                        reports := [⟨0, 0, 0, 0, []⟩] }
    sends.line.portB = .sending ⟨head 224 4, .run⟩ ∧ polls.line.portB = .polling 4 ∧ polls.reg.settings.isSome = true ∧
    4 ≤ polls.line.localRun ∧ polls.line.reply.isSome = true ∧ (part 1).reg.stations.Pairwise (·.1 < ·.1) ∧
    choosePoll (part 1).reg.stations 5 0 (some 9) = some (0, 22) ∧ (part 1).pollDue = true ∧
    choosePoll (part 1).reg.stations 5 0 (some 22) = some (1, 1) ∧ (part 1).driveStation = some 4 := by decide +kernel

/-- A Run sent, and one dropped with the part CONFIGURING; a Drop discarded BLOCKED and a Raise held; a Ring below the
level; a Gate on that starts the chime; a panel Drop discarded; and a Zone notice before the others. -/
theorem test_taken_TransmissionsAndPollSchedule :
    let start := freeLine (pat fun p => { p with slot := some .run, start := some .running })
    let drop := freeLine (shut 1 fun e => { e with state := .descending, slot := some .drop })
    let held := (alarmed .fullAlarm).onShut fun t => tmod t 0 fun e =>
      { e with state := .raising, reason := .fire, prior := some .closed, slot := some .raise }
    let low := call fun u =>
      { u with fireLevel := 7, ringers := [(0, { ringer with ring := some (.request req0), slot := some (.ring 4 5 1) })] }
    let gated := ann fun u =>
      { u with gen0 := some { chime := 2, gated := 4, sounding := none },
               amps := [(2, { amp with state := .gated, gen := some 0, slot := some (.gateOn 0) })] }
    let marked := (fire fun u => { u with zones := [(1, { zone .quiet with mark := true })] }).onPat fun p =>
      { p with mark := true }
    (takeDrive 4 .run start).line.portB = .sending ⟨ownHead 4, .run⟩ ∧
    (takeDrive 4 .run (start.onMgmt fun m => { m with mode := .configuring })).pat.start = none ∧
    (tget (arbiterB 128 drop).shut 1).map (fun e => (e.state, e.obstruction, e.slot)) =
      some (.obstructed, some .car, none) ∧
    (tget ((takeB (freeLine held)).getD held).shut 0).map (fun e => (e.state, e.slot)) = some (.closed, none) ∧
    (((takeB (freeLine low)).getD low).call.queue = [req0] ∧ ((takeB (freeLine low)).getD low).line.portB = .free) ∧
    (((takeB (freeLine gated)).getD gated).ann.gen0.any fun p => p.sounding.isSome) = true ∧
    (takeForwarded ⟨head 224 5, .drop⟩ [] (part 1)).line.veto =
      some { dst := 5, kind := 72, reason := .landingBlocked, stage := .sending } ∧
    (takeNotice marked).map (fun r => (r.1.kind, r.2.pat.mark)) = some (161, true) := by decide +kernel

/-- A panel Drop and a panel Raise to 255 at sending: sent with no SHAFT shutter and with none held, and discarded
otherwise (R82, R88). -/
theorem test_all_TransmissionsAndPollSchedule :
    let taken := fun b s => (takeForwarded ⟨head 224 255, b⟩ [] s).line
    let free := freeLine (part 1)
    let noShaft := free.onShut fun t => tdel t 1
    let held := freeLine ((alarmed .fullAlarm).onShut fun t => tmod t 0 fun e =>
      { e with state := .raising, reason := .fire, prior := some .closed })
    free.anyShaft = true ∧ noShaft.anyShaft = false ∧ shutterAt free 255 = none ∧ shutterAt noShaft 255 = none ∧
    (taken .drop noShaft).portB = .sending ⟨head 224 255, .drop⟩ ∧
    (taken .drop free).veto = some { dst := 255, kind := 72, reason := .forbiddenKind, stage := .sending } ∧
    (taken .drop (freeLine idlePart)).veto = some { dst := 255, kind := 72, reason := .notArmed, stage := .sending } ∧
    (taken .raise free).portB = .sending ⟨head 224 255, .raise⟩ ∧
    (∃ e ∈ held.shut, e.2.reason = .fire ∧ e.2.inZone held.zoneAlarm = true) ∧ shutterAt held 255 = none ∧
    (taken .raise held).veto = some { dst := 255, kind := 73, reason := .zoneInAlarm, stage := .sending } ∧
    (takeForwarded ⟨head 224 255, .raise⟩ [] held).shut = held.shut := by decide +kernel

end Sys2Proof.Tests
end

section
/-! SUPPORT. Chain arithmetic: the rules of the residue, the clearance test, the reading of a move, the beam-check
record and the Chain report's record, and the statements about them. -/

namespace Sys2Proof.Machine

/-! ## Residues -/

theorem natCast_wrapMod {p : Nat} (hp : 0 < p) (x : Int) : (wrapMod x p : Int) = x % p :=
  Int.toNat_of_nonneg (Int.emod_nonneg x (by omega))

theorem wrapMod_lt {p : Nat} (hp : 0 < p) (x : Int) : wrapMod x p < p := by
  have hlt : (wrapMod x p : Int) < p := natCast_wrapMod hp x ▸ Int.emod_lt_of_pos x (by omega)
  exact_mod_cast hlt

theorem wrapMod_eq_of_natCast_eq {p d : Nat} {x : Int} (h : (d : Int) = x % p) : wrapMod x p = d := by
  rw [wrapMod, ← h, Int.toNat_natCast]

theorem wrapMod_sub_self (x : Int) (p : Nat) : wrapMod (x - p) p = wrapMod x p := by
  rw [wrapMod, Int.sub_emod_right, wrapMod]

/-- `x` lies `k` residues above `a` exactly when the residue of `x - a` is `k`. -/
theorem emod_sub_eq_natCast_iff {p k : Nat} (hk : k < p) (x a : Int) :
    (x - a) % (p : Int) = k ↔ x % (p : Int) = (a % (p : Int) + k) % (p : Int) := by
  have hmod : (k : Int) % p = k := Int.emod_eq_of_lt (by omega) (by omega)
  calc (x - a) % (p : Int) = k
      ↔ (x - a) % (p : Int) = (a + k - a) % (p : Int) := by rw [add_sub_cancel_left, hmod]
    _ ↔ x % (p : Int) = (a + k) % (p : Int) := Int.emod_sub_cancel_right a
    _ ↔ x % (p : Int) = (a % (p : Int) + k) % (p : Int) := by rw [Int.emod_add_emod]

/-! ## The clearance test (R33, R34) -/

theorem sideBlocked_iff_emod_lt {g : Geometry} (hP : 0 < g.pitch) (s q : Nat) :
    sideBlocked g s q = true ↔ ((q : Int) - s + g.margin) % (g.pitch : Int) < (g.width : Nat) := by
  rw [sideBlocked, decide_eq_true_iff, ← natCast_wrapMod hP, Int.ofNat_lt]

theorem sideBlocked_eq_false_iff_le_emod {g : Geometry} (hP : 0 < g.pitch) (s q : Nat) :
    sideBlocked g s q = false ↔ (g.width : Nat) ≤ ((q : Int) - s + g.margin) % (g.pitch : Int) := by
  rw [← Bool.not_eq_true, sideBlocked_iff_emod_lt hP, not_lt]

/-- The blocked residues run upward from that of s - M, and there are W of them. -/
theorem sideBlocked_iff_exists_residue {g : Geometry} (hP : 0 < g.pitch) (s q : Nat) :
    sideBlocked g s q = true ↔
      ∃ k : Nat, k < g.width ∧ k < g.pitch ∧
        (q : Int) % (g.pitch : Int) = (((s : Int) - g.margin) % (g.pitch : Int) + k) % (g.pitch : Int) := by
  have hoffset : (q : Int) - s + g.margin = q - (s - g.margin) := by ring
  rw [sideBlocked, decide_eq_true_iff, hoffset]
  constructor
  · intro hlt
    refine ⟨_, hlt, wrapMod_lt hP _, ?_⟩
    rw [← emod_sub_eq_natCast_iff (wrapMod_lt hP _), natCast_wrapMod hP]
  · rintro ⟨k, hkW, hkP, hres⟩
    rwa [wrapMod_eq_of_natCast_eq ((emod_sub_eq_natCast_iff hkP _ _).mpr hres).symm]

theorem sideBlocked_add_pitch (g : Geometry) (s q : Nat) :
    sideBlocked g (s + g.pitch) q = sideBlocked g s q := by
  have hshift : (q : Int) - (s + g.pitch : Nat) + g.margin = q - s + g.margin - g.pitch := by push_cast; ring
  rw [sideBlocked, sideBlocked, hshift, wrapMod_sub_self]

theorem landingClear_iff (g : Geometry) (l : Landing) (q : Nat) :
    landingClear g l q = true ↔ sideBlocked g l.up q = false ∧ sideBlocked g l.down q = false := by
  simp [landingClear]

/-- Settles O9: each edge is the test as an inequality of residues, at that residue. -/
theorem clearanceTest : Obligations.ClearanceTest := by
  intro g l s q hP
  have hblocked := sideBlocked_iff_emod_lt hP s q
  refine ⟨hblocked, fun h0 hW => ?_, fun hW => ?_, fun hpos hlast => ?_,
    sideBlocked_iff_exists_residue hP s q, sideBlocked_add_pitch g s q, landingClear_iff g l q⟩
  · rw [hblocked, h0]; omega
  · rw [sideBlocked_eq_false_iff_le_emod hP, hW]
  · rw [hblocked, hlast]; omega

/-! ## The reading of a reported position (R39, R40) -/

theorem readMove_none (g : Geometry) (p2 : Nat) :
    readMove g none p2 = { distance := 0, position := p2, wrap := false } := rfl

theorem readMove_of_taken {g : Geometry} {p1 p2 d : Nat}
    (hd : (d : Int) = ((p2 : Int) - p1) % (g.cars * g.pitch : Nat)) (h : d ≤ g.cars * g.pitch - g.pitch) :
    readMove g (some p1) p2 = { distance := d, position := p2, wrap := p2 < p1 } := by
  have hfwd : forwardDistance g p1 p2 = d := wrapMod_eq_of_natCast_eq hd
  simp only [readMove, hfwd, Geometry.loop, if_pos h]

theorem readMove_of_jitter {g : Geometry} {p1 p2 d : Nat}
    (hd : (d : Int) = ((p2 : Int) - p1) % (g.cars * g.pitch : Nat)) (h : g.cars * g.pitch - g.pitch < d) :
    readMove g (some p1) p2 = { distance := 0, position := p1, wrap := false } := by
  have hfwd : forwardDistance g p1 p2 = d := wrapMod_eq_of_natCast_eq hd
  simp only [readMove, hfwd, Geometry.loop, if_neg (not_le.mpr h)]

/-! ## The beam-check record (R28, R29, R41, R42) -/

section
variable (g : Geometry) (side d : Nat) (p1 : Option Nat) (b : Beam)

@[simp] theorem Beam.advance_miss : (b.advance g side p1 d).miss = b.miss := by
  simp only [Beam.advance]; split <;> rfl

theorem Beam.advance_none_expected : (b.advance g side none d).expected = b.expected % 256 := by
  simp only [Beam.advance]; split <;> rfl

theorem Beam.advance_some_expected (q : Nat) :
    (b.advance g side (some q) d).expected = (b.expected + crossings g side q d) % 256 := by
  simp only [Beam.advance]; split <;> rfl

variable {b}

theorem Beam.advance_of_checking (h : b.settling = false) :
    (b.advance g side p1 d).settling = false ∧ (b.advance g side p1 d).travel = b.travel := by
  simp [Beam.advance, h]

theorem Beam.advance_of_settling (h : b.settling = true) :
    (b.advance g side p1 d).travel = min (b.travel + d) g.pitch ∧
    ((b.advance g side p1 d).settling = false ↔ g.pitch ≤ b.travel + d) := by
  simp [Beam.advance, h]

end

theorem crossings_eq {g : Geometry} {side p1 e : Nat} (he : (e : Int) = ((p1 : Int) - side) % (g.pitch : Int))
    (d : Nat) : crossings g side p1 d = (e + d) / g.pitch := by
  rw [crossings, wrapMod_eq_of_natCast_eq he]

/-- The difference is the one number from -128 to 127 that is congruent to the reported count less E. -/
theorem beamDelta_eq {n e : Nat} {d : Int} (hlo : -128 ≤ d) (hhi : d ≤ 127)
    (hd : (d - ((n : Int) - e)) % 256 = 0) : beamDelta n e = d := by
  have hres : (wrapMod ((n : Int) - e) 256 : Int) = ((n : Int) - e) % 256 := natCast_wrapMod (by omega) _
  simp only [beamDelta]
  split <;> omega

section
variable {b : Beam} (k n : Nat)

theorem Beam.compare_of_settling (h : b.settling = true) : b.compare k n = ({ b with expected := n }, false) := by
  simp [Beam.compare, h]

theorem Beam.compare_of_near (h : b.settling = false)
    (hlo : -1 ≤ beamDelta n b.expected) (hhi : beamDelta n b.expected ≤ 1) :
    b.compare k n = ({ b with miss := 0 }, false) := by
  simp [Beam.compare, h, hlo, hhi]

/-- A side that counts a miss: the record goes back to 0 when the miss is its K-th. -/
theorem Beam.compare_of_far (h : b.settling = false)
    (hfar : beamDelta n b.expected < -1 ∨ 1 < beamDelta n b.expected) :
    b.compare k n = if k ≤ b.miss + 1 then ({ b with miss := 0 }, true)
      else ({ b with miss := b.miss + 1 }, false) := by
  have hnot : ¬(-1 ≤ beamDelta n b.expected ∧ beamDelta n b.expected ≤ 1) := by omega
  simp only [Beam.compare, h, Bool.false_eq_true, if_false, if_neg hnot, ge_iff_le]

end

/-- Settles O12: by the phase, and in CHECKING by the difference δ that the statement's `d` is. -/
theorem beamCheckOfOneSide : Obligations.BeamCheckOfOneSide := by
  intro b k n _ _ _
  refine ⟨Beam.compare_of_settling k n, fun d hchecking hlo hhi hd => ?_⟩
  obtain rfl : beamDelta n b.expected = d := beamDelta_eq hlo hhi hd
  refine ⟨Beam.compare_of_near k n hchecking, fun hfar => ⟨fun hbelow => ?_, fun hreached => ?_⟩⟩
  · rw [Beam.compare_of_far k n hchecking hfar, if_neg (by omega)]
  · rw [Beam.compare_of_far k n hchecking hfar, if_pos hreached]

/-! ## The record of a Chain report (R43 steps 1 to 4) -/

/-- A landing with both its sides' beam-check records advanced by a move of `d` from `p1`. -/
def Landing.advance (g : Geometry) (p1 : Option Nat) (d : Nat) (l : Landing) : Landing :=
  { l with upBeam := l.upBeam.advance g l.up p1 d, downBeam := l.downBeam.advance g l.down p1 d }

/-- Nothing of a landing but its beam-check records advances. -/
theorem Landing.advance_frame (g : Geometry) (p1 : Option Nat) (d : Nat) (l : Landing) :
    { l.advance g p1 d with upBeam := l.upBeam, downBeam := l.downBeam } = l := rfl

section
variable (g : Geometry) (p2 : Nat) (moving fault : Bool) (p : Paternoster)

@[simp] theorem chainRecord_chain :
    (chainRecord g p2 moving fault p).chain =
      { position := some (readMove g p.chain.position p2).position,
        motion := if moving then .moving else .stopped, fault := fault,
        lastMove := (readMove g p.chain.position p2).distance } := rfl

theorem chainRecord_frame :
    { chainRecord g p2 moving fault p with chain := p.chain, landings := p.landings } = p := rfl

theorem tget_chainRecord_landings (f : Nat) :
    tget (chainRecord g p2 moving fault p).landings f =
      (tget p.landings f).map (Landing.advance g p.chain.position (readMove g p.chain.position p2).distance) :=
  tget_tmap ..

end

/-- Settles O11: the chain record by the three readings of the reported position, and each side of a landing by what
the advance of its beam-check record does. -/
theorem chainRecordSteps : Obligations.ChainRecordSteps := by
  intro g p p2 moving fault _ _ r
  refine ⟨rfl, rfl, chainRecord_frame g p2 moving fault p, ?absent, ?present, ?landings⟩
  case absent =>
    intro hnone
    simp [r, hnone, readMove_none]
  case present =>
    intro p1 d hsome hd
    constructor
    · intro htaken
      simp [r, hsome, readMove_of_taken hd htaken]
    · intro hjitter
      simp [r, hsome, readMove_of_jitter hd hjitter]
  case landings =>
    intro f l hl
    have hget : tget r.landings f = some (l.advance g p.chain.position r.chain.lastMove) := by
      rw [tget_chainRecord_landings, hl, Option.map_some, chainRecord_chain]
    refine ⟨_, hget, Landing.advance_frame .., fun side b c hside => ?_⟩
    obtain rfl : c = b.advance g side p.chain.position r.chain.lastMove := by
      rcases hside with ⟨rfl, rfl, rfl⟩ | ⟨rfl, rfl, rfl⟩ <;> rfl
    refine ⟨Beam.advance_miss .., fun hnone => ?_, fun p1 e hsome he => ?_, Beam.advance_of_checking _ _ _ _,
      Beam.advance_of_settling _ _ _ _⟩
    · rw [hnone, Beam.advance_none_expected]
    · rw [hsome, Beam.advance_some_expected, crossings_eq he]

end Sys2Proof.Machine
end

section
/-! SUPPORT. The annunciator board's pass plan: the lit lamps, the slots, the pass time, the reduced on-time t' and the
degrade step, and the statement about them. -/

namespace Sys2Proof.Machine

/-! ## The lit lamps (R128, R132) -/

theorem scanLit_eq_some_iff (lit : Bool) (m d : Display) :
    scanLit lit m = some d ↔ m = d ∧ d ≠ .off ∧ (d = .flash → lit = true) := by
  cases m with
  | off | steady | emphasis => grind [scanLit]
  | flash => cases lit <;> grind [scanLit]

theorem litCell_scan_eq_some_iff (b : Board) (k : Nat) (d : Display) :
    litCell b .scan k = some d ↔ b.image[k]? = some d ∧ d ≠ .off ∧ (d = .flash → b.lit = true) := by
  simp only [litCell, Option.bind_eq_some_iff, scanLit_eq_some_iff]
  constructor
  · rintro ⟨m, himage, rfl, hlit⟩
    exact ⟨himage, hlit⟩
  · rintro ⟨himage, hlit⟩
    exact ⟨d, himage, rfl, hlit⟩

theorem litCell_test_eq_some_iff (b : Board) (k : Nat) (d : Display) :
    litCell b .test k = some d ↔ d = .emphasis ∧ ∃ a, tget b.layout k = some a ∧ a ≠ .none := by
  simp only [litCell]
  split
  next hget => simp [hget]
  next hget => simp [hget]
  next a hassigned hget => simp [hget, show a ≠ .none from hassigned, eq_comm]

/-! ## The slots and the pass time (R128) -/

/-- The slots with a lit lamp, by their number in drive order. -/
def litSlots (b : Board) (kind : PassKind) : List Nat :=
  (List.range 32).filter fun k => (litCell b kind k).isSome || (litCell b kind (k + 32)).isSome

/-- Slot `k` of a pass, each lamp's drive time given by its display mode. -/
def slotAt (b : Board) (kind : PassKind) (f : Display → Nat) (k : Nat) : Slot :=
  { row := k / 8, col := k % 8, upper := (litCell b kind k).map f, lower := (litCell b kind (k + 32)).map f }

theorem litSlots_length_le (b : Board) (kind : PassKind) : (litSlots b kind).length ≤ 32 :=
  (List.length_filter_le ..).trans_eq List.length_range

/-- The drive times do not decide which slots are in the pass. -/
theorem planWith_eq_map_litSlots (b : Board) (kind : PassKind) (f : Display → Nat) :
    planWith b kind f = (litSlots b kind).map (slotAt b kind f) := by
  simp only [planWith, litSlots, List.filter_map, Function.comp_def, Option.isSome_map]
  rfl

@[simp] theorem planWith_length (b : Board) (kind : PassKind) (f : Display → Nat) :
    (planWith b kind f).length = (litSlots b kind).length := by
  rw [planWith_eq_map_litSlots, List.length_map]

theorem slotAt_const_time {b : Board} {kind : PassKind} {k : Nat} (hk : k ∈ litSlots b kind) (t : Nat) :
    (slotAt b kind (fun _ => t) k).time = t := by
  have hlit := (List.mem_filter.mp hk).2
  cases hu : litCell b kind k <;> cases hl : litCell b kind (k + 32) <;> simp_all [Slot.time, slotAt]

/-- With one drive time for every lamp, T is s × (t + 8 µs) (R129). -/
theorem passTime_planWith_const (b : Board) (kind : PassKind) (t : Nat) :
    passTime (planWith b kind fun _ => t) = (litSlots b kind).length * (t + 8) := by
  have htimes : (litSlots b kind).map (fun k => (slotAt b kind (fun _ => t) k).time + 8) =
      (litSlots b kind).map fun _ => t + 8 :=
    List.map_congr_left fun k hk => by rw [slotAt_const_time hk]
  rw [passTime, planWith_eq_map_litSlots, List.map_map, Function.comp_def, htimes, List.map_const',
    List.sum_replicate_nat]

/-! ## The reduced on-time t' (R129 step 2) -/

theorem OnTimes.drive_eq (o : OnTimes) : o.drive = fun d => if d = .emphasis then o.t2 else o.t1 :=
  funext fun d => by cases d <;> rfl

section
variable {o : OnTimes} {n : Nat}

theorem OnTimes.sixteen_dvd_reduced : 16 ∣ o.reduced n := dvd_mul_right ..

/-- The least pass limit leaves each of 32 slots 156 µs. -/
theorem OnTimes.limitUs_div_ge (hlimit : 5 ≤ o.limit) (hpos : 0 < n) (hn : n ≤ 32) : 156 ≤ o.limitUs / n := by
  rw [Nat.le_div_iff_mul_le hpos, OnTimes.limitUs]
  omega

theorem OnTimes.sixteen_le_reduced (h : 156 ≤ o.limitUs / n) : 16 ≤ o.reduced n := by
  rw [OnTimes.reduced]; omega

theorem OnTimes.reduced_time_le (hpos : 0 < n) (h : 156 ≤ o.limitUs / n) : n * (o.reduced n + 8) ≤ o.limitUs := by
  rw [mul_comm, ← Nat.le_div_iff_mul_le hpos, OnTimes.reduced]
  omega

theorem OnTimes.limitUs_lt_next_reduced_time (hpos : 0 < n) : o.limitUs < n * (o.reduced n + 16 + 8) := by
  rw [mul_comm, ← Nat.div_lt_iff_lt_mul hpos, OnTimes.reduced]
  omega

theorem OnTimes.reduced_lt_t1 (hpos : 0 < n) (hover : o.limitUs < n * (o.t1 + 8)) : o.reduced n < o.t1 := by
  rw [mul_comm, ← Nat.div_lt_iff_lt_mul hpos, OnTimes.t1] at hover
  rw [OnTimes.reduced, OnTimes.t1]
  omega

end

/-! ## The degrade of a pass (R129) -/

/-- A pass at its start with the plan and the degrade decided. -/
def startedPass (kind : PassKind) (plan : List Slot) (degrade : Degrade) (reduced : Option Nat) : Pass :=
  { kind, plan, time := passTime plan, degrade, reduced, left := passTime plan / 8 }

section
variable (b : Board) (o : OnTimes) (kind : PassKind)

/-- A pass starts undegraded, at step 1, or at step 2 with the t' of its number of slots; each step only where the one
before it leaves the pass over the limit. -/
theorem planPass_cases :
    (passTime (planWith b kind o.drive) ≤ o.limitUs ∧
      planPass b o kind = startedPass kind (planWith b kind o.drive) .none none) ∨
    (o.limitUs < passTime (planWith b kind o.drive) ∧ passTime (planWith b kind fun _ => o.t1) ≤ o.limitUs ∧
      planPass b o kind = startedPass kind (planWith b kind fun _ => o.t1) .step1 none) ∨
    (o.limitUs < passTime (planWith b kind o.drive) ∧ o.limitUs < passTime (planWith b kind fun _ => o.t1) ∧
      planPass b o kind = startedPass kind (planWith b kind fun _ => o.reduced (litSlots b kind).length) .step2
        (some (o.reduced (litSlots b kind).length))) := by
  simp only [planPass, planWith_length]
  split
  next hfits => exact .inl ⟨hfits, rfl⟩
  next hover =>
    split
    next hfits1 => exact .inr (.inl ⟨not_le.mp hover, hfits1, rfl⟩)
    next hover1 => exact .inr (.inr ⟨not_le.mp hover, not_le.mp hover1, rfl⟩)

@[simp] theorem planPass_kind : (planPass b o kind).kind = kind := by
  obtain ⟨-, hp⟩ | ⟨-, -, hp⟩ | ⟨-, -, hp⟩ := planPass_cases b o kind <;> rw [hp] <;> rfl

theorem planPass_time : (planPass b o kind).time = passTime (planPass b o kind).plan := by
  obtain ⟨-, hp⟩ | ⟨-, -, hp⟩ | ⟨-, -, hp⟩ := planPass_cases b o kind <;> rw [hp] <;> rfl

@[simp] theorem planPass_plan_length : (planPass b o kind).plan.length = (litSlots b kind).length := by
  obtain ⟨-, hp⟩ | ⟨-, -, hp⟩ | ⟨-, -, hp⟩ := planPass_cases b o kind <;> rw [hp] <;> exact planWith_length ..

theorem planPass_degrade_eq_none_iff :
    (planPass b o kind).degrade = .none ↔ passTime (planWith b kind o.drive) ≤ o.limitUs := by
  obtain ⟨hfits, hp⟩ | ⟨hover, -, hp⟩ | ⟨hover, -, hp⟩ := planPass_cases b o kind
  · simp [hp, startedPass, hfits]
  · simp [hp, startedPass, hover]
  · simp [hp, startedPass, hover]

variable {b o kind}

theorem planPass_of_none (h : (planPass b o kind).degrade = .none) :
    (planPass b o kind).plan = planWith b kind o.drive ∧ (planPass b o kind).reduced = none := by
  obtain ⟨-, hp⟩ | ⟨-, -, hp⟩ | ⟨-, -, hp⟩ := planPass_cases b o kind
  · rw [hp]; exact ⟨rfl, rfl⟩
  · simp [hp, startedPass] at h
  · simp [hp, startedPass] at h

theorem planPass_of_step1 (h : (planPass b o kind).degrade = .step1) :
    (planPass b o kind).plan = (planWith b kind fun _ => o.t1) ∧ (planPass b o kind).reduced = none := by
  obtain ⟨-, hp⟩ | ⟨-, -, hp⟩ | ⟨-, -, hp⟩ := planPass_cases b o kind
  · simp [hp, startedPass] at h
  · rw [hp]; exact ⟨rfl, rfl⟩
  · simp [hp, startedPass] at h

theorem planPass_of_step2 (h : (planPass b o kind).degrade = .step2) :
    o.limitUs < passTime (planWith b kind fun _ => o.t1) ∧
    (planPass b o kind).plan = (planWith b kind fun _ => o.reduced (litSlots b kind).length) ∧
    (planPass b o kind).reduced = some (o.reduced (litSlots b kind).length) := by
  obtain ⟨-, hp⟩ | ⟨-, -, hp⟩ | ⟨-, hover, hp⟩ := planPass_cases b o kind
  · simp [hp, startedPass] at h
  · simp [hp, startedPass] at h
  · rw [hp]; exact ⟨hover, rfl, rfl⟩

/-- A pass over the limit at t1 has a slot, and its t' is at least 16 µs, below t1, and the largest multiple of 16 µs
at which the pass stays within the limit. -/
theorem reduced_of_over (hlimit : 5 ≤ o.limit) (hover : o.limitUs < passTime (planWith b kind fun _ => o.t1)) :
    16 ≤ o.reduced (litSlots b kind).length ∧ o.reduced (litSlots b kind).length < o.t1 ∧
    passTime (planWith b kind fun _ => o.reduced (litSlots b kind).length) ≤ o.limitUs ∧
    o.limitUs < (litSlots b kind).length * (o.reduced (litSlots b kind).length + 16 + 8) := by
  rw [passTime_planWith_const] at hover ⊢
  have hpos : 0 < (litSlots b kind).length := Nat.pos_of_mul_pos_right (Nat.zero_lt_of_lt hover)
  have hshare := OnTimes.limitUs_div_ge hlimit hpos (litSlots_length_le b kind)
  exact ⟨OnTimes.sixteen_le_reduced hshare, OnTimes.reduced_lt_t1 hpos hover, OnTimes.reduced_time_le hpos hshare,
    OnTimes.limitUs_lt_next_reduced_time hpos⟩

variable (b kind)

/-- In every pass the pass time does not exceed the pass limit (R129). -/
theorem planPass_time_le_limitUs (hlimit : 5 ≤ o.limit) : (planPass b o kind).time ≤ o.limitUs := by
  obtain ⟨hfits, hp⟩ | ⟨-, hfits, hp⟩ | ⟨-, hover, hp⟩ := planPass_cases b o kind
  · rw [hp]; exact hfits
  · rw [hp]; exact hfits
  · obtain ⟨-, -, hfits, -⟩ := reduced_of_over hlimit hover
    rw [hp]; exact hfits

theorem OnTimes.t1_le_drive (hn : o.n1 ≤ o.n2) (d : Display) : o.t1 ≤ o.drive d := by
  have ht : o.t1 ≤ o.t2 := by rw [OnTimes.t1, OnTimes.t2]; omega
  cases d with
  | emphasis => exact ht
  | off | steady | flash => exact le_rfl

/-- No lamp is lit longer than the on-time of its display mode (R129). -/
theorem planPass_drive_le (hlimit : 5 ≤ o.limit) (hn : o.n1 ≤ o.n2) :
    ∃ f : Display → Nat, (planPass b o kind).plan = planWith b kind f ∧ ∀ d, f d ≤ o.drive d := by
  obtain ⟨-, hp⟩ | ⟨-, -, hp⟩ | ⟨-, hover, hp⟩ := planPass_cases b o kind
  · exact ⟨o.drive, by rw [hp]; rfl, fun d => le_rfl⟩
  · exact ⟨fun _ => o.t1, by rw [hp]; rfl, OnTimes.t1_le_drive hn⟩
  · obtain ⟨-, hlt, -, -⟩ := reduced_of_over hlimit hover
    exact ⟨fun _ => o.reduced _, by rw [hp]; rfl, fun d => hlt.le.trans (OnTimes.t1_le_drive hn d)⟩

end

/-- Settles O58: the statement's plan, drive times and time are the model's, and its clauses follow from the three ways
a pass can start; at step 2 from the arithmetic of t'. -/
theorem passPlanAndDegrade : Obligations.PassPlanAndDegrade := by
  intro b o kind hlimit hn p t1 t2 plan time normal step1
  have hplan : plan = planWith b kind := funext fun f => (planWith_eq_map_litSlots b kind f).symm
  have htime : time = passTime := rfl
  have hdrive : o.drive = fun d => if d = .emphasis then t2 else t1 := o.drive_eq
  have hnormal : normal = planWith b kind o.drive := by rw [hdrive]; exact congrFun hplan _
  have hstep1 : step1 = planWith b kind fun _ => o.t1 := congrFun hplan _
  rw [hnormal, hstep1, hplan, htime]
  refine ⟨planPass_kind b o kind, planPass_time b o kind, planPass_time_le_limitUs b kind hlimit, ?length,
    planPass_degrade_eq_none_iff b o kind, planPass_of_none, planPass_of_step1, fun hdegrade => ?reduced, ?drive,
    fun k d => ⟨litCell_scan_eq_some_iff b k d, litCell_test_eq_some_iff b k d⟩⟩
  case length => rw [planPass_plan_length, planWith_length]
  case reduced =>
    obtain ⟨hover, hp, hreduced⟩ := planPass_of_step2 hdegrade
    obtain ⟨hge, hlt, -, hnext⟩ := reduced_of_over hlimit hover
    exact ⟨hover, _, hreduced, hp, OnTimes.sixteen_dvd_reduced, hge, hlt, by rwa [planPass_plan_length]⟩
  case drive =>
    obtain ⟨f, hp, hle⟩ := planPass_drive_le b kind hlimit hn
    exact ⟨f, hp, fun d => congrFun hdrive d ▸ hle d⟩

end Sys2Proof.Machine
end

section
/-! SUPPORT. One step of the block, the passing of 8 µs, and the state after reset. -/

namespace Sys2Proof.Machine

/-! ## The resets (R183) -/

/-- Settles O2: both resets are the state after reset with their cause, and each of its values is read off. -/
theorem resetsStartAfresh : Obligations.ResetsStartAfresh := by
  refine ⟨fun s => ⟨rfl, rfl⟩, ?values⟩
  case values =>
    intro r
    refine ⟨?_, ?_⟩
    all_goals repeat' apply And.intro
    all_goals rfl

/-- Settles O3: with every table empty no cell is lit, no call is listed and no bound is reached. -/
theorem resetMeetsInvariants : Obligations.ResetMeetsInvariants := by
  refine ⟨by unfold State.imageInStep; decide, by unfold State.callsInStep; decide, ?bounds, rfl⟩
  case bounds => constructor <;> decide

/-! ## The passing of 8 µs -/

theorem tmap_eq_map {α : Type} (t : Table α) (f : Nat → α → α) : tmap t f = t.map fun e => (e.1, f e.1 e.2) := by
  induction t with
  | nil => rfl
  | cons e t ih => simp [tmap, ih]

theorem minuteNext_eq_any (u : Announce) :
    u.minuteNext = (tget u.days u.clock.weekday).any fun m => decide (u.clock.second + 1 = 60 * m) := by
  simp only [Announce.minuteNext, Announce.today]
  cases tget u.days u.clock.weekday with
  | none => rfl
  | some m =>
    rw [Bool.eq_iff_iff]
    simp only [Option.any_some, Bool.and_eq_true, beq_iff_eq, decide_eq_true_iff, Option.some.injEq]
    omega

theorem tickClock_of_unset {u : Announce} (h : u.clock.set = false) : u.tickClock = u.clock := by
  simp [Announce.tickClock, h]

theorem tickClock_of_within {u : Announce} (h : u.clock.set = true) (hsub : u.clock.sub + 1 < ticksPerSec) :
    u.tickClock = { u.clock with sub := u.clock.sub + 1 } := by
  simp [Announce.tickClock, h, hsub]

theorem tickClock_of_end {u : Announce} (h : u.clock.set = true) (hsub : ticksPerSec ≤ u.clock.sub + 1) :
    u.tickClock = if u.clock.second = 86399 ∨ u.minuteNext = true then { u.clock with sub := ticksPerSec }
      else { u.clock with second := u.clock.second + 1, sub := 0 } := by
  simp [Announce.tickClock, h, not_lt.mpr hsub]

/-! ## The event that is due -/

theorem firstWhere_eq_find {α : Type} (t : Table α) (p : α → Bool) :
    firstWhere t p = (t.find? fun e => p e.2).map Prod.fst := by
  simp only [firstWhere, tkeys, List.head?_map, List.head?_filter]

theorem firstDue_eq {α : Type} (timer : α → Option Nat) (t : Table α) :
    firstDue timer t = ((t.map fun e => (e.1, timer e.2)).find? fun e => e.2 == some 0).map Prod.fst := by
  rw [firstDue, firstWhere_eq_find, List.find?_map, Option.map_map]
  rfl

theorem shutterDue_eq (s : State) (states : List ShutterState) :
    shutterDue s states = (((s.shut.filter fun e => states.contains e.2.state).map fun e => (e.1, e.2.timer)).find?
      fun e => e.2 == some 0).map Prod.fst := by
  rw [shutterDue, firstWhere_eq_find, List.find?_map, List.find?_filter, Option.map_map]
  simp only [Function.comp_def, Bool.decide_and, Bool.decide_eq_true]

theorem Chime.atEnd_eq (c : Chime) (x : Sounding) : c.atEnd x = match c.notes[x.note]? with
    | some n => decide (c.repeats ≤ x.round) && decide (c.notes.length ≤ x.note + 1) && (x.inGap || n.gap == 0)
    | none => true := rfl

theorem genDue_eq (s : State) (g : Nat) : genDue s g = (s.ann.gen g).bind fun p => p.sounding.bind fun x =>
    if x.left = 0 then
      some (if (tget s.ann.chimes p.chime).any fun c => c.atEnd x then .chimeEnd g else .chimeNoteEnd g)
    else none := by
  rw [genDue]
  cases s.ann.gen g with
  | none => rfl
  | some p => 
    cases hs : p.sounding with
    | none => simp [hs]
    | some x => simp only [Option.bind_some, hs, Option.map_some, apply_ite some]

theorem clockDue_eq (u : Announce) : clockDue u =
    if u.clock.set = false ∨ u.clock.sub < ticksPerSec then none
    else if u.clock.second = 86399 then some .midnightStep
    else if u.minuteNext = true then some .automaticStart else none := by
  simp only [clockDue]
  generalize ticksPerSec = n
  cases u.clock.set with
  | false => simp
  | true => by_cases hsub : n ≤ u.clock.sub <;> simp [hsub]

theorem passDue_eq (b : Board) : passDue b = b.pass.bind fun p =>
    if p.left = 0 then some (if p.kind = .scan then .scanningPassCompletion else .testPassCompletion) else none := by
  rw [passDue]
  congr 1
  funext p
  cases p.kind <;> rfl

theorem offsetDue_iff (s : State) : offsetDue s = true ↔
    s.ann.closing = .running ∧ s.ann.waitGen = false ∧ s.ann.waitFloors = 0 ∧
      (s.ann.startTime.any fun t0 => (s.ann.nextStep.bind (tget s.ann.programme)).any fun st =>
        decide (t0 + st.offset ≤ s.now)) = true := by
  simp only [offsetDue, State.stepTime, Bool.and_eq_true, Bool.not_eq_true', beq_iff_eq]
  cases s.ann.closing <;> cases s.ann.startTime <;> cases s.ann.nextStep <;>
    simp [and_assoc, Option.any_map]

/-- Settles O1: a step by the queue, the 8 µs field by field, and the list of due events entry by entry. -/
theorem stepRunsFront : Obligations.StepRunsFront := by
  refine ⟨fun c rest s => rfl, fun s hempty => ⟨fun c hdue => ?due, fun hnone => ?idle⟩, fun s => ?tick⟩
  case due => simp only [step, hempty, hdue]
  case idle => simp only [step, hempty, hnone]
  case tick =>
    intro c minute less played t
    have hminute : s.ann.minuteNext = minute := minuteNext_eq_any s.ann
    refine ⟨?fields, tickClock_of_unset, tickClock_of_within, fun hset hsub => ⟨fun h => ?stands, fun h h' => ?next⟩, ?events⟩
    case fields => simp only [t, tick, tmap_eq_map]; rfl
    case stands => 
      rw [← hminute] at h
      exact (tickClock_of_end hset hsub).trans (if_pos h)
    case next =>
      rw [← hminute] at h'
      exact (tickClock_of_end hset hsub).trans (if_neg (by simp [h', show s.ann.clock.second ≠ 86399 from h]))
    case events =>
      intro now expired first shutters chime
      have hchime : ∀ g, genDue s g = chime g := fun g => genDue_eq s g
      simp only [nextDue, dueEvents, hchime, firstDue_eq, shutterDue_eq, clockDue_eq, Option.map_map, hminute, ringDue,
        offsetDue_iff, passDue_eq]
      rfl

end Sys2Proof.Machine
end

section
/-! SUPPORT. What a command does before the end of its event, by the way it comes in: a request, a panel order, a
frame on Port B, or a moment of the part's own; and what a request, an order and a dropped frame are answered with. -/

namespace Sys2Proof.Machine

/-! ## The ways a command comes in -/

/-- What a request asks for, to be run on the state in which the panel is heard. -/
def requestBody : Instr → State → Result
  | .readStatus _ _ => readStatusResult
  | .readEntry _ _ table index part => readEntryResult table.toNat index.toNat (part.map BitVec.toNat)
  | .writeEntry _ _ table index data => writeEntryResult table.toNat index.toNat data
  | .deleteEntry _ _ table index => deleteEntryResult table.toNat index.toNat
  | .readRecord _ _ kind index part => readRecordResult kind.toNat index.toNat part.toNat
  | .arm _ _ => armResult
  | .disarm _ _ => disarmResult
  | .setClock _ _ second weekday => setClockResult second.toNat weekday.toNat
  | .acknowledgeZone _ _ z => acknowledgeZone z.toNat
  | .cancelZone _ _ z => cancelZone z.toNat
  | .resetZone _ _ z => resetZone z.toNat
  | .isolateZone _ _ z => isolateZone z.toNat
  | .restoreZone _ _ z => restoreZone z.toNat
  | .evacuate _ _ zones => evacuateResult zones
  | .silence _ _ => silence
  | .resound _ _ => resound
  | .raiseShutter _ _ i => raiseShutterResult i.toNat
  | .retryShutter _ _ i => retryShutterResult i.toNat
  | .releasePaternoster _ _ => releaseResult
  | .clearCall _ _ push => clearCallResult push.toNat
  | .beginClosing _ _ => beginClosingResult
  | .abortClosing _ _ => abortClosingResult
  | .boardMode _ _ mode => boardModeResult mode.toNat
  | _ => accept

/-- A frame's head and report, for the commands that are frames on Port B. -/
def frameParts : Instr → Option (Hdr × Option Report)
  | .presenceReport h => some (h, some .presence)
  | .detectorLevelReport h v => some (h, some (.detectorLevel v))
  | .callPointReport h v => some (h, some (.callPoint v))
  | .chainReport h p m c => some (h, some (.chain p m c))
  | .landingReport h u d g t => some (h, some (.landing u d g t))
  | .shutterPositionReport h v => some (h, some (.shutterPosition v))
  | .pushReport h k => some (h, some (.push k))
  | .answerReport h c => some (h, some (.answer c))
  | .ringDoneReport h n => some (h, some (.ringDone n))
  | .phraseDoneReport h n => some (h, some (.phraseDone n))
  | .frameFromAnotherKnownStation h r => some (h, r)
  | .strangerFrame h r => some (h, r)
  | _ => none

/-- What the part does at a frame dropped on Port A, at a poll without a usable answer, at the expiry of a timer, at a
moment of a clock, and at the completion of a pass or a transmission. -/
def moment : Instr → State → State
  | .portAFrameDropped frame => droppedOnA frame
  | .garbledFrame | .unusableFrame | .answerWindowExpiry => outstandingMissed
  | .stopTimerExpiry => stopTimerExpires
  | .resumeTimerExpiry => resumeTimerExpires
  | .stageTimerExpiry z => stageTimerExpires z
  | .warnTimerExpiry i => warnTimerExpires i
  | .travelTimerExpiry i => travelTimerExpires i
  | .retryTimerExpiry i => retryTimerExpires i
  | .ringTimerExpiry r => ringTimerExpires r
  | .nextRingTimeReached p => ringTimeReached p
  | .fireRepeatTimerExpiry => fireTimerExpires
  | .phraseTimerExpiry f => phraseTimerExpires f
  | .gapTimerExpiry f => gapTimerExpires f
  | .panelTimerExpiry => panelTimerExpires
  | .flashPhaseChange => fun s => s.onBoard Board.flip
  | .midnightStep => midnight
  | .automaticStart => closingMinute
  | .stepOffsetReached => offsetReached
  | .chimeNoteEnd g => noteEnds g
  | .chimeEnd g => chimeIsOver g
  | .scanningPassCompletion => fun s => s.onBoard Board.scanDone
  | .testPassCompletion => fun s => s.onBoard Board.testPassDone
  | .orderTransmissionComplete => orderSent
  | .pollTransmissionComplete => pollSent
  | .portATransmissionComplete => sentA
  | _ => id

/-- The entry data of a Write Entry is 1 to 22 bytes long (R193); other commands carry none. -/
def lengthOk : Instr → Bool
  | .writeEntry _ _ _ _ data => !outside 1 22 data.length
  | _ => true

/-- What a command does before the end of its event. -/
def effect (c : Instr) (s : State) : State :=
  match requestParts c, orderParts c, frameParts c with
  | some (src, tag, code), _, _ => if lengthOk c then requestArrives src tag code (requestBody c) s else s
  | _, some o, _ => orderArrives o.head o.body s
  | _, _, some (h, r) => receiveB h r s
  | none, none, none => moment c s

/-- Every command but the resets has its effect and then the end of its event. -/
theorem exec_eq_finish {c : Instr} (hpower : c ≠ .powerOn) (hpin : c ≠ .resetPinReset) (s : State) :
    exec c s = finish s (effect c s) := by
  cases c with
  | powerOn => exact absurd rfl hpower
  | resetPinReset => exact absurd rfl hpin
  | writeEntry src tag table index data =>
    cases hlen : outside 1 22 data.length <;> simp [exec, execWriteEntry, effect, requestParts, requestBody,
      lengthOk, hlen]
  | _ => rfl

theorem exec_request {c : Instr} {src tag : Byte} {code : Nat} (h : requestParts c = some (src, tag, code))
    (hlen : lengthOk c = true) (s : State) :
    exec c s = finish s (requestArrives src tag code (requestBody c) s) := by
  rw [exec_eq_finish (by rintro rfl; cases h) (by rintro rfl; cases h), effect, h]
  simp only [hlen, if_true]

theorem exec_order {c : Instr} {o : Order} (h : orderParts c = some o) (s : State) :
    exec c s = finish s (orderArrives o.head o.body s) := by
  cases c with
  | powerOn | resetPinReset => cases h
  | _ => cases h <;> rfl

theorem exec_frame {c : Instr} {h : Hdr} {r : Option Report} (hc : frameParts c = some (h, r)) (s : State) :
    exec c s = finish s (receiveB h r s) := by
  cases c with
  | powerOn | resetPinReset => cases hc
  | _ => cases hc <;> rfl

theorem lengthOk_of_wf {c : Instr} (h : c.wf = true) : lengthOk c = true := by
  cases c with
  | writeEntry src tag table index data =>
    simp only [Instr.wf, Bool.and_eq_true, decide_eq_true_iff] at h
    simp only [lengthOk, outside, Bool.not_or, Bool.and_eq_true, Bool.not_eq_true', decide_eq_false_iff_not]
    omega
  | _ => rfl

/-! ## What an event ends as -/

theorem endsAs_finish (b s : State) : EndsAs (finish b s) s := ⟨_, rfl, settle_records b s⟩

theorem endsAs_finish_of_eq {b s u : State} (h : s = u) : EndsAs (finish b s) u := h ▸ endsAs_finish b s

/-! ## The panel is heard (R167, R171, R191) -/

section
variable (src : Byte) (s : State)

@[simp] theorem panelHeard_mode : (panelHeard src s).mgmt.mode = s.mgmt.mode := by
  unfold panelHeard; split
  · dsimp only; split <;> rfl
  · rfl

@[simp] theorem panelHeard_time : (panelHeard src s).mgmt.time = s.mgmt.time := by
  unfold panelHeard; split
  · dsimp only; split <;> rfl
  · rfl

@[simp] theorem panelHeard_armedAt : (panelHeard src s).mgmt.armedAt = s.mgmt.armedAt := by
  unfold panelHeard; split
  · dsimp only; split <;> rfl
  · rfl

@[simp] theorem panelHeard_cause : (panelHeard src s).mgmt.cause = s.mgmt.cause := by
  unfold panelHeard; split
  · dsimp only; split <;> rfl
  · rfl

@[simp] theorem panelHeard_draws : (panelHeard src s).mgmt.draws = s.mgmt.draws := by
  unfold panelHeard; split
  · dsimp only; split <;> rfl
  · rfl

@[simp] theorem panelHeard_stations : (panelHeard src s).reg.stations = s.reg.stations := by
  unfold panelHeard; split
  · dsimp only; split <;> rfl
  · rfl

@[simp] theorem panelHeard_settings : (panelHeard src s).reg.settings = s.reg.settings := by
  unfold panelHeard; split
  · dsimp only; split <;> rfl
  · rfl

@[simp] theorem panelHeard_armed : (panelHeard src s).armed = s.armed := by simp [State.armed]
@[simp] theorem panelHeard_now : (panelHeard src s).now = s.now := by simp [State.now]
@[simp] theorem panelHeard_anyFull : (panelHeard src s).anyFull = s.anyFull := by simp [State.anyFull]
@[simp] theorem panelHeard_missing (a : Nat) : (panelHeard src s).missing a = s.missing a := by simp [State.missing]
@[simp] theorem panelHeard_present (a : Nat) : (panelHeard src s).present a = s.present a := by simp [State.present]
@[simp] theorem panelHeard_hasRole (a : Nat) (r : Role) : (panelHeard src s).hasRole a r = s.hasRole a r := by
  simp [State.hasRole]
@[simp] theorem panelHeard_driveStation : (panelHeard src s).driveStation = s.driveStation := by
  simp [State.driveStation]
@[simp] theorem panelHeard_zoneFull (z : Nat) : (panelHeard src s).zoneFull z = s.zoneFull z := by
  simp [State.zoneFull]
@[simp] theorem panelHeard_zoneAlarm (z : Nat) : (panelHeard src s).zoneAlarm z = s.zoneAlarm z := by
  simp [State.zoneAlarm]
@[simp] theorem panelHeard_shaftsOpen : (panelHeard src s).shaftsOpen = s.shaftsOpen := by simp [State.shaftsOpen]
@[simp] theorem panelHeard_fromPanel (a : Byte) : (panelHeard src s).fromPanel a = s.fromPanel a := by
  simp [State.fromPanel]

variable {src s}

theorem panelHeard_of_not_fromPanel (h : s.fromPanel src = false) : panelHeard src s = s := by
  simp [panelHeard, h]

end

/-! ## A request is answered (R171, R172, R184) -/

section
variable {c : Instr} {src tag : Byte} {code : Nat} {s u : State}

theorem requestArrives_of_takes (h : s.takesRequest src) (tag : Byte) (code : Nat) (body : State → Result) :
    requestArrives src tag code body s = executeRequest src tag code body (panelHeard src s) := by
  obtain ⟨hfrom, hreply⟩ := h
  simp [requestArrives, hfrom, hreply]

/-- A request that is taken is answered with what its body gives on the state in which the panel is heard. -/
theorem answersAs_exec (hc : requestParts c = some (src, tag, code)) (hlen : lengthOk c = true)
    (h : s.takesRequest src) {k : Code} {d : List Byte}
    (hbody : requestBody c (panelHeard src s) = { state := u, code := k, data := d }) :
    AnswersAs (exec c s) src tag code k d u := by
  rw [exec_request hc hlen, requestArrives_of_takes h, executeRequest, hbody]
  exact ⟨_, rfl, settle_records .., settle_replied rfl⟩

theorem answersAs_of_refused (hc : requestParts c = some (src, tag, code)) (hlen : lengthOk c = true)
    (h : s.takesRequest src) {k : Code}
    (hbody : requestBody c (panelHeard src s) = refuse (panelHeard src s) k) :
    AnswersAs (exec c s) src tag code k [] (panelHeard src s) :=
  answersAs_exec hc hlen h hbody

theorem answersAs_of_accepted (hc : requestParts c = some (src, tag, code)) (hlen : lengthOk c = true)
    (h : s.takesRequest src) (hbody : requestBody c (panelHeard src s) = accept u) :
    AnswersAs (exec c s) src tag code .ok [] u :=
  answersAs_exec hc hlen h hbody

theorem requestArrives_of_not_fromPanel (h : s.fromPanel src = false) (tag : Byte) (code : Nat)
    (body : State → Result) : requestArrives src tag code body s = s := by
  simp [requestArrives, h]

theorem requestArrives_of_occupied (h : s.fromPanel src = true) (hreply : s.line.reply.isSome = true) (tag : Byte)
    (code : Nat) (body : State → Result) : requestArrives src tag code body s =
      (panelHeard src s).onLine fun l => { l with requestOverrun := true } := by
  simp [requestArrives, h, hreply]

theorem whenArmed_of_not_armed (h : s.armed = false) (r : Result) : whenArmed s r = refuse s .notArmed := by
  have hmode : s.mgmt.mode ≠ .armed := by simpa [State.armed] using h
  simp [whenArmed, hmode]

theorem whenArmed_of_armed (h : s.armed = true) (r : Result) : whenArmed s r = r := by
  have hmode : s.mgmt.mode = .armed := by simpa [State.armed] using h
  simp [whenArmed, hmode]

/-- Disarm and the requests of codes 9 to 22 run only while the part is ARMED (R184). -/
theorem requestBody_of_not_armed (hc : requestParts c = some (src, tag, code))
    (hcode : code = 7 ∨ (9 ≤ code ∧ code ≤ 22)) (h : s.armed = false) :
    requestBody c s = refuse s .notArmed := by
  cases c with
  | readStatus | readEntry | writeEntry | deleteEntry | readRecord | arm | setClock | boardMode =>
    simp only [requestParts, Option.some.injEq, Prod.mk.injEq] at hc
    omega
  | evacuate a t zones => 
    simp [requestBody, evacuateResult, evacuate, whenArmed_of_not_armed h, refuse]
  | disarm | acknowledgeZone | cancelZone | resetZone | isolateZone | restoreZone | silence | resound
  | raiseShutter | retryShutter | releasePaternoster | clearCall | beginClosing | abortClosing =>
    exact whenArmed_of_not_armed h _
  | _ => cases hc

end

/-! ## Settled -/

theorem fromPanel_iff_of_settings {s : State} {x : LineSettings} (h : s.reg.settings = some x) (src : Byte) :
    s.fromPanel src = true ↔ src.toNat = x.panel := by
  simp [State.fromPanel, h]

theorem fromPanel_iff_of_no_settings {s : State} (h : s.reg.settings = none) (src : Byte) :
    s.fromPanel src = true ↔ 224 ≤ src.toNat ∧ src.toNat ≤ 239 := by
  simp [State.fromPanel, h, outside]

theorem orderDst_iff (dst : Byte) : orderDst dst = true ↔ (1 ≤ dst.toNat ∧ dst.toNat ≤ 223) ∨ dst = 255 := by
  simp [orderDst, outside, Nat.one_le_iff_ne_zero]

/-- Settles O14: the three ways of turning away are the three branches of a request's arrival. -/
theorem requestsTurnedAway : Obligations.RequestsTurnedAway := by
  refine ⟨fun s src tag code r d => ⟨fun x hx => ⟨fromPanel_iff_of_settings hx src, ?dst⟩,
    fun hnone => ⟨fromPanel_iff_of_no_settings hnone src, ?own⟩, orderDst_iff src, ?layout⟩, 
    fun c src tag code s hc hwf => ⟨fun hfrom => ?other, fun hfrom hreply => ?overrun, fun h hmode hcode => ?unarmed⟩⟩
  case dst => simp only [replyDst, hx]; rfl
  case own => simp only [replyDst, hnone]
  case layout => cases r <;> rfl
  case other =>
    rw [exec_request hc (lengthOk_of_wf hwf), requestArrives_of_not_fromPanel hfrom]
    exact endsAs_finish s s
  case overrun =>
    rw [exec_request hc (lengthOk_of_wf hwf), requestArrives_of_occupied hfrom hreply]
    exact endsAs_finish s _
  case unarmed =>
    exact answersAs_of_refused hc (lengthOk_of_wf hwf) h
      (requestBody_of_not_armed hc hcode ((panelHeard_armed src s).trans hmode))

theorem panelHeard_of_settings {s : State} {x : LineSettings} (h : s.reg.settings = some x) {src : Byte}
    (hsrc : src.toNat = x.panel) : panelHeard src s =
      { s with
        mgmt := { s.mgmt with lastPanel := some src.toNat }
        reg := { s.reg with
          panelTimer := some (secs x.timeout), panelLost := false
          panelMark := s.reg.panelMark || s.reg.panelLost
          awaySecs := if s.reg.panelLost then s.reg.lostTime.map (s.now - ·) else s.reg.awaySecs } } := by
  rw [panelHeard, if_pos ((fromPanel_iff_of_settings h src).mpr hsrc)]
  simp only [h]
  simp only [State.onReg, State.onMgmt, h]
  rfl

theorem panelHeard_of_no_settings {s : State} (h : s.reg.settings = none) {src : Byte}
    (hsrc : 224 ≤ src.toNat ∧ src.toNat ≤ 239) :
    panelHeard src s = { s with mgmt := { s.mgmt with lastPanel := some src.toNat } } := by
  simp only [panelHeard, (fromPanel_iff_of_no_settings h src).mpr hsrc, if_true, h]
  rfl

theorem droppedOnA_of_valid {h : Hdr} {c : FrameClass} (hwf : h.wf = true)
    (hroute : ¬((h.dst = 240 ∧ c = .request) ∨ (orderDst h.dst ∧ c = .order))) (s : State) :
    droppedOnA (some (h, c)) s = panelHeard h.src s := by
  simp only [Hdr.wf, Bool.and_eq_true, bne_iff_ne] at hwf
  simp only [droppedOnA, hwf, or_self, if_false, if_neg hroute]

theorem droppedOnA_of_not_fromPanel {h : Hdr} {s : State} (hfrom : s.fromPanel h.src = false) (c : FrameClass) :
    droppedOnA (some (h, c)) s = s := by
  simp only [droppedOnA, panelHeard_of_not_fromPanel hfrom, ite_self]

/-- Settles O15. -/
theorem panelHeardAndDroppedFrames : Obligations.PanelHeardAndDroppedFrames := by
  refine ⟨fun s src => ⟨fun x hx => ⟨panelHeard_of_settings hx, fun hsrc => ?stranger⟩, 
    fun hnone => ⟨fun hlo hhi => panelHeard_of_no_settings hnone ⟨hlo, hhi⟩, fun hsrc => ?outsider⟩⟩,
    fun s => ⟨endsAs_finish s s, fun h c hwf => ⟨fun hfrom => ?unheard, fun hroute => ?heard⟩⟩⟩
  case stranger =>
    exact panelHeard_of_not_fromPanel (Bool.eq_false_iff.mpr (mt (fromPanel_iff_of_settings hx src).mp hsrc))
  case outsider =>
    exact panelHeard_of_not_fromPanel
      (Bool.eq_false_iff.mpr (mt (fromPanel_iff_of_no_settings hnone src).mp (by omega)))
  case unheard => exact endsAs_finish_of_eq (droppedOnA_of_not_fromPanel hfrom c)
  case heard =>
    refine endsAs_finish_of_eq (droppedOnA_of_valid hwf ?_ s)
    have h240 : orderDst 240 = false := by decide
    rcases hroute with ⟨hself, hc⟩ | ⟨hdst, hroute⟩ | ⟨hroute, hc⟩
    · rintro (⟨-, hreq⟩ | ⟨hroute, -⟩)
      · exact hc hreq
      · rw [hself, h240] at hroute; cases hroute
    · rintro (⟨heq, -⟩ | ⟨hroute', -⟩)
      · exact hdst heq
      · exact absurd hroute' (by simp [hroute])
    · rintro (⟨heq, -⟩ | ⟨-, hord⟩)
      · rw [heq, h240] at hroute; cases hroute
      · exact hc hord

end Sys2Proof.Machine
end

section
/-! SUPPORT. What no operation of the part but a table access, an Arm, a Disarm, a Reset Zone and a Release takes away:
the loaded fields of the safety tables, the capacities, LOCKED and FULL_ALARM, the part mode, and the panel's mark. -/

namespace Sys2Proof.Machine

/-! ## Tables read through a projection -/

section
variable {α β : Type}

theorem tmod_map_of_eq {g : Nat × α → β} {f : α → α} (h : ∀ k v, g (k, f v) = g (k, v)) (t : Table α) (i : Nat) :
    (tmod t i f).map g = t.map g := by
  induction t with
  | nil => rfl
  | cons e t ih => obtain ⟨k, w⟩ := e; simp only [tmod]; split <;> simp [ih, h]

theorem tmap_map_of_eq {g : Nat × α → β} {f : Nat → α → α} (h : ∀ k v, g (k, f k v) = g (k, v)) (t : Table α) :
    (tmap t f).map g = t.map g := by
  induction t with
  | nil => rfl
  | cons e t ih => obtain ⟨k, w⟩ := e; simp [tmap, ih, h]

theorem tmod_eq_map (t : Table α) (i : Nat) (f : α → α) :
    tmod t i f = t.map fun e => if e.1 = i then (e.1, f e.2) else e := by
  induction t with
  | nil => rfl
  | cons e t ih => obtain ⟨k, w⟩ := e; simp only [tmod, List.map_cons, ih]; split <;> rfl

theorem mem_of_tget {t : Table α} {i : Nat} {v : α} (h : tget t i = some v) : (i, v) ∈ t := by
  induction t with
  | nil => cases h
  | cons e t ih =>
    obtain ⟨k, w⟩ := e
    simp only [tget] at h
    split at h
    next heq => cases h; exact heq ▸ List.mem_cons_self
    next => exact List.mem_cons_of_mem _ (ih h)

theorem tget_of_mem {t : Table α} (hnodup : (t.map Prod.fst).Nodup) {i : Nat} {v : α} (h : (i, v) ∈ t) :
    tget t i = some v := by
  induction t with
  | nil => cases h
  | cons e t ih =>
    obtain ⟨k, w⟩ := e
    simp only [List.map_cons, List.nodup_cons] at hnodup
    rcases List.mem_cons.mp h with heq | hmem
    · cases heq; simp [tget]
    · have hne : k ≠ i := fun heq => hnodup.1 (heq ▸ List.mem_map_of_mem hmem)
      simp [tget, hne, ih hnodup.2 hmem]

end

/-! ## The loaded fields -/

/-- The loaded fields of a station with its address (R158). -/
def stationLoaded (e : Nat × Station) : Nat × Role × Nat × PollClass × Nat :=
  (e.1, e.2.role, e.2.floor, e.2.cls, e.2.missLimit)

/-- The loaded fields of a landing with its floor (R2). -/
def landingLoaded (e : Nat × Landing) : Nat × Nat × Nat × Nat × Bool × Nat :=
  (e.1, e.2.up, e.2.down, e.2.station, e.2.restClear, e.2.rank)

/-- The loaded fields of a detector with its index (R44). -/
def detectorLoaded (e : Nat × Detector) : Nat × Nat × Nat × Nat × Nat × Nat :=
  (e.1, e.2.station, e.2.zone, e.2.alarm, e.2.restore, e.2.confirm)

/-- The loaded fields of a call point with its index (R45). -/
def callPointLoaded (e : Nat × CallPoint) : Nat × Nat × Nat := (e.1, e.2.station, e.2.zone)

/-- The loaded fields of a zone with its index (R46). -/
def zoneLoaded (e : Nat × Zone) : Nat × Nat × Nat × Bool × FloorSet × Bool :=
  (e.1, e.2.ackTime, e.2.investTime, e.2.coincidence, e.2.evacFloors, e.2.tableIsolated)

/-- The loaded fields of a shutter (R68). -/
def Shutter.loaded (e : Shutter) : Nat × Nat × Option Nat × ShutterKind × Option Nat × Nat × Nat × Nat × Bool :=
  (e.station, e.zoneA, e.zoneB, e.kind, e.landing, e.floor, e.warnTime, e.travelLimit, e.night)

/-- The loaded fields of a shutter with its index (R68). -/
def shutterLoaded (e : Nat × Shutter) := (e.1, e.2.loaded)

/-! ## What each unit keeps -/

/-- The Line Unit's FIFOs stay within their capacities and its fairness counts at most 4. -/
structure LineUnit.Bounded (l : LineUnit) : Prop where
  orders : l.orders.length ≤ Config.orderFifo
  reports : l.reports.length ≤ Config.reportFifo
  orderRun : l.orderRun ≤ Config.runLimit
  localRun : l.localRun ≤ Config.runLimit

/-- The call list and the ring queue stay within their capacities, and no push has two calls. -/
structure CallUnit.Bounded (u : CallUnit) : Prop where
  calls : u.calls.length ≤ Config.callList
  pushes : (u.calls.map fun c => c.push).Nodup
  queue : u.queue.length ≤ Config.ringQueue

/-- The ring queue stands in queue order, with no two requests identical in ringer, pattern and origin (R101). -/
structure CallUnit.Ordered (u : CallUnit) : Prop where
  order : u.queue.Pairwise fun a b => b.before a = false
  distinct : u.queue.Pairwise fun a b => a.same b = false

/-- The Call Unit stays within its capacities, and its queue in order. -/
structure CallUnit.Kept (a b : CallUnit) : Prop where
  bounded : a.Bounded → b.Bounded
  ordered : a.Ordered → b.Ordered

/-- The station table and the line settings are kept, and a panel that is no longer lost has its mark set. -/
structure StationRegister.Kept (a b : StationRegister) : Prop where
  stations : b.stations.map stationLoaded = a.stations.map stationLoaded
  settings : b.settings = a.settings
  mark : a.panelMark = true → b.panelMark = true
  lost : a.panelLost = true → b.panelLost = true ∨ b.panelMark = true

/-- Geometry and landings are kept, LOCKED is not left, and the trip history stays within its capacity. -/
structure Paternoster.Kept (p q : Paternoster) : Prop where
  geometry : q.geometry = p.geometry
  landings : q.landings.map landingLoaded = p.landings.map landingLoaded
  locked : p.state = .locked → q.state = .locked
  trips : p.trips.length ≤ Config.tripHistory → q.trips.length ≤ Config.tripHistory

/-- The fire tables are kept, and no zone leaves FULL_ALARM. -/
structure FireUnit.Kept (a b : FireUnit) : Prop where
  indices : b.detectors.map Prod.fst = a.detectors.map Prod.fst
  detectors : (a.detectors.map Prod.fst).Nodup → b.detectors.map detectorLoaded = a.detectors.map detectorLoaded
  callPoints : b.callPoints.map callPointLoaded = a.callPoints.map callPointLoaded
  zones : b.zones.map zoneLoaded = a.zones.map zoneLoaded
  settings : b.settings = a.settings
  full : ∀ z, (tget a.zones z).any (fun e => e.state == .fullAlarm) = true →
    (tget b.zones z).any (fun e => e.state == .fullAlarm) = true

/-- What an operation that is no table access keeps, unit by unit. -/
structure State.Kept (s t : State) : Prop where
  line : s.line.Bounded → t.line.Bounded
  reg : s.reg.Kept t.reg
  pat : s.pat.Kept t.pat
  fire : s.fire.Kept t.fire
  shut : t.shut.map shutterLoaded = s.shut.map shutterLoaded
  call : s.call.Kept t.call
  mode : t.mgmt.mode = s.mgmt.mode
  cause : t.mgmt.cause = s.mgmt.cause

@[refl] theorem StationRegister.Kept.refl (a : StationRegister) : a.Kept a := ⟨rfl, rfl, id, .inl⟩
@[refl] theorem Paternoster.Kept.refl (p : Paternoster) : p.Kept p := ⟨rfl, rfl, id, id⟩
@[refl] theorem FireUnit.Kept.refl (a : FireUnit) : a.Kept a := ⟨rfl, fun _ => rfl, rfl, rfl, rfl, fun _ => id⟩
@[refl] theorem CallUnit.Kept.refl (a : CallUnit) : a.Kept a := ⟨id, id⟩
@[refl] theorem State.Kept.refl (s : State) : s.Kept s := ⟨id, .refl _, .refl _, .refl _, rfl, .refl _, rfl, rfl⟩

theorem StationRegister.Kept.trans {a b c : StationRegister} (h : a.Kept b) (h' : b.Kept c) : a.Kept c where
  stations := h'.stations.trans h.stations
  settings := h'.settings.trans h.settings
  mark := h'.mark ∘ h.mark
  lost := fun hlost => (h.lost hlost).elim h'.lost (.inr ∘ h'.mark)

theorem Paternoster.Kept.trans {p q r : Paternoster} (h : p.Kept q) (h' : q.Kept r) : p.Kept r where
  geometry := h'.geometry.trans h.geometry
  landings := h'.landings.trans h.landings
  locked := h'.locked ∘ h.locked
  trips := h'.trips ∘ h.trips

theorem FireUnit.Kept.trans {a b c : FireUnit} (h : a.Kept b) (h' : b.Kept c) : a.Kept c where
  indices := h'.indices.trans h.indices
  detectors := fun hnodup => (h'.detectors (h.indices ▸ hnodup)).trans (h.detectors hnodup)
  callPoints := h'.callPoints.trans h.callPoints
  zones := h'.zones.trans h.zones
  settings := h'.settings.trans h.settings
  full := fun z hz => h'.full z (h.full z hz)

theorem State.Kept.trans {s t u : State} (h : s.Kept t) (h' : t.Kept u) : s.Kept u where
  line := h'.line ∘ h.line
  reg := h.reg.trans h'.reg
  pat := h.pat.trans h'.pat
  fire := h.fire.trans h'.fire
  shut := h'.shut.trans h.shut
  call := ⟨h'.call.bounded ∘ h.call.bounded, h'.call.ordered ∘ h.call.ordered⟩
  mode := h'.mode.trans h.mode
  cause := h'.cause.trans h.cause

namespace State.Kept

variable {s0 s : State} (h : s0.Kept s)
include h

/-! ### One unit at a time -/

theorem onLine {f : LineUnit → LineUnit} (hf : s.line.Bounded → (f s.line).Bounded) : s0.Kept (s.onLine f) :=
  h.trans ⟨hf, .refl _, .refl _, .refl _, rfl, .refl _, rfl, rfl⟩

theorem onReg {f : StationRegister → StationRegister} (hf : s.reg.Kept (f s.reg)) : s0.Kept (s.onReg f) :=
  h.trans ⟨id, hf, .refl _, .refl _, rfl, .refl _, rfl, rfl⟩

theorem onPat {f : Paternoster → Paternoster} (hf : s.pat.Kept (f s.pat)) : s0.Kept (s.onPat f) :=
  h.trans ⟨id, .refl _, hf, .refl _, rfl, .refl _, rfl, rfl⟩

theorem onFire {f : FireUnit → FireUnit} (hf : s.fire.Kept (f s.fire)) : s0.Kept (s.onFire f) :=
  h.trans ⟨id, .refl _, .refl _, hf, rfl, .refl _, rfl, rfl⟩

theorem onShut {f : Table Shutter → Table Shutter} (hf : (f s.shut).map shutterLoaded = s.shut.map shutterLoaded) :
    s0.Kept (s.onShut f) :=
  h.trans ⟨id, .refl _, .refl _, .refl _, hf, .refl _, rfl, rfl⟩

theorem onCall {f : CallUnit → CallUnit} (hf : s.call.Bounded → (f s.call).Bounded)
    (hord : s.call.Ordered → (f s.call).Ordered) : s0.Kept (s.onCall f) :=
  h.trans ⟨id, .refl _, .refl _, .refl _, rfl, ⟨hf, hord⟩, rfl, rfl⟩

theorem onBoard (f : Board → Board) : s0.Kept (s.onBoard f) :=
  h.trans ⟨id, .refl _, .refl _, .refl _, rfl, .refl _, rfl, rfl⟩

theorem onAnn (f : Announce → Announce) : s0.Kept (s.onAnn f) :=
  h.trans ⟨id, .refl _, .refl _, .refl _, rfl, .refl _, rfl, rfl⟩

theorem onMgmt {f : Mgmt → Mgmt} (hmode : (f s.mgmt).mode = s.mgmt.mode) (hcause : (f s.mgmt).cause = s.mgmt.cause) :
    s0.Kept (s.onMgmt f) :=
  h.trans ⟨id, .refl _, .refl _, .refl _, rfl, .refl _, hmode, hcause⟩

/-! ### One entry at a time -/

theorem onShutter (i : Nat) {f : Shutter → Shutter} (hf : ∀ e, (f e).loaded = e.loaded) :
    s0.Kept (onShutter s i f) :=
  h.onShut (tmod_map_of_eq (fun k v => by rw [shutterLoaded, shutterLoaded, hf]) _ _)

theorem onZone {z : Nat} {f : Zone → Zone} (hf : ∀ k e, zoneLoaded (k, f e) = zoneLoaded (k, e))
    (hfull : ∀ e, tget s.fire.zones z = some e → e.state = .fullAlarm → (f e).state = .fullAlarm) :
    s0.Kept (onZone s z f) := by
  refine h.onFire ⟨rfl, fun _ => rfl, rfl, tmod_map_of_eq hf _ _, rfl, fun y hy => ?_⟩
  rw [tget_tmod]
  split
  next heq =>
    subst heq
    cases he : tget s.fire.zones z with
    | none => rw [he] at hy; cases hy
    | some e =>
      rw [he, Option.any_some, beq_iff_eq] at hy
      rw [Option.map_some, Option.any_some, beq_iff_eq]
      exact hfull e he hy
  next => exact hy

theorem onRinger (i : Nat) (f : Ringer → Ringer) : s0.Kept (onRinger s i f) :=
  h.onCall (fun hb => ⟨hb.calls, hb.pushes, hb.queue⟩) fun ho => ⟨ho.order, ho.distinct⟩

theorem onAmp (i : Nat) (f : Amp → Amp) : s0.Kept (onAmp s i f) := h.onAnn _

theorem onStation (i : Nat) {f : Station → Station} (hf : ∀ k e, stationLoaded (k, f e) = stationLoaded (k, e)) :
    s0.Kept (onStation s i f) :=
  h.onReg ⟨tmod_map_of_eq hf _ _, rfl, id, .inl⟩

omit h in
theorem foldl {α : Type} {f : State → α → State} (hf : ∀ s a, s0.Kept s → s0.Kept (f s a)) (l : List α) {s : State}
    (h : s0.Kept s) : s0.Kept (l.foldl f s) := by
  induction l generalizing s with
  | nil => exact h
  | cons a l ih => exact ih (hf s a h)

end State.Kept

/-! ## Shutters (chapter 4) -/

namespace Shutter

variable (sh : Shutter)

@[simp] theorem place_loaded (o : ShutterOrder) : (sh.place o).loaded = sh.loaded := rfl
@[simp] theorem descend_loaded : sh.descend.loaded = sh.loaded := rfl
@[simp] theorem drop_loaded : sh.drop.loaded = sh.loaded := rfl
@[simp] theorem await_loaded : sh.await.loaded = sh.loaded := rfl
@[simp] theorem obstructCar_loaded : sh.obstructCar.loaded = sh.loaded := rfl
@[simp] theorem obstructJam_loaded : sh.obstructJam.loaded = sh.loaded := rfl
@[simp] theorem close_loaded : sh.close.loaded = sh.loaded := rfl
@[simp] theorem toOpen_loaded : sh.toOpen.loaded = sh.loaded := rfl
@[simp] theorem toFaulted_loaded (c : FaultCause) : (sh.toFaulted c).loaded = sh.loaded := rfl
@[simp] theorem toRaising_loaded : sh.toRaising.loaded = sh.loaded := rfl
@[simp] theorem stationBack_loaded : sh.stationBack.loaded = sh.loaded := rfl
@[simp] theorem rearm_loaded : sh.rearm.loaded = sh.loaded := rfl

@[simp] theorem warnExpiry_loaded (p : Paternoster) : (sh.warnExpiry p).loaded = sh.loaded := by
  unfold warnExpiry
  split
  · rfl
  · split <;> rfl

@[simp] theorem warn_loaded (p : Paternoster) : (sh.warn p).loaded = sh.loaded := by
  unfold warn
  dsimp only
  split
  · exact warnExpiry_loaded _ p
  · rfl

@[simp] theorem hand_loaded (p : Paternoster) (j : Judgment) : (sh.hand p j).loaded = sh.loaded := by
  unfold hand
  split
  · cases j with
    | clear => exact warn_loaded sh p
    | blocked => dsimp only; split <;> rfl
    | notStopped => rfl
  · rfl

@[simp] theorem returnPrior_loaded : sh.returnPrior.loaded = sh.loaded := by unfold returnPrior; split <;> rfl

@[simp] theorem notePanelDrop_loaded (m : Bool) : (sh.notePanelDrop m).loaded = sh.loaded := by
  unfold notePanelDrop; split <;> rfl

@[simp] theorem leaveUnknown_loaded (v : Position) : (sh.leaveUnknown v).loaded = sh.loaded := by cases v <;> rfl

@[simp] theorem onReport_loaded (v : Position) : (sh.onReport v).loaded = sh.loaded := by
  unfold onReport; dsimp only; split <;> rfl

@[simp] theorem stationLost_loaded : sh.stationLost.loaded = sh.loaded := by unfold stationLost; split <;> rfl

@[simp] theorem retry_loaded : sh.retry.loaded = sh.loaded := by unfold retry; split <;> rfl

end Shutter

@[simp] theorem handLanding_loaded (p : Paternoster) (f : Nat) (t : Table Shutter) :
    (handLanding p f t).map shutterLoaded = t.map shutterLoaded :=
  tmap_map_of_eq (fun k v => by dsimp only [shutterLoaded]; split <;> simp) t

/-! ## The Monitor (chapters 1 and 2) -/

namespace Paternoster

variable (p : Paternoster)

@[simp] theorem place_geometry (o : DriveOrder) : (p.place o).geometry = p.geometry := by unfold place; split <;> rfl
@[simp] theorem place_landings (o : DriveOrder) : (p.place o).landings = p.landings := by unfold place; split <;> rfl
@[simp] theorem place_state (o : DriveOrder) : (p.place o).state = p.state := by unfold place; split <;> rfl
@[simp] theorem place_trips (o : DriveOrder) : (p.place o).trips = p.trips := by unfold place; split <;> rfl
@[simp] theorem place_fireStop (o : DriveOrder) : (p.place o).fireStop = p.fireStop := by unfold place; split <;> rfl
@[simp] theorem place_chain (o : DriveOrder) : (p.place o).chain = p.chain := by unfold place; split <;> rfl

theorem place_kept (o : DriveOrder) : p.Kept (p.place o) := by unfold place; split <;> exact ⟨rfl, rfl, id, id⟩

theorem withdrawStopAt_kept : p.Kept p.withdrawStopAt := by unfold withdrawStopAt; split <;> exact ⟨rfl, rfl, id, id⟩

@[simp] theorem withdrawStopAt_state : p.withdrawStopAt.state = p.state := by unfold withdrawStopAt; split <;> rfl

theorem haltStop_kept : p.Kept p.haltStop := ⟨rfl, rfl, id, id⟩

theorem addCause_kept (c : LockCause) : p.Kept (p.addCause c) := ⟨rfl, rfl, id, id⟩

theorem lock_state (c : Option LockCause) : (p.lock c).state = .locked := by
  unfold lock
  cases c <;> (dsimp only; split <;> first | assumption | rfl)

theorem lock_kept (c : Option LockCause) : p.Kept (p.lock c) where
  geometry := by unfold lock; cases c <;> (dsimp only; (repeat' split) <;> rfl)
  landings := by unfold lock; cases c <;> (dsimp only; (repeat' split) <;> rfl)
  locked := fun _ => p.lock_state c
  trips := by unfold lock; cases c <;> (dsimp only; (repeat' split) <;> exact id)

theorem beginStop_kept (k : SearchSet) (e : PatState) (hne : p.state ≠ .locked) : p.Kept (p.beginStop k e) := by
  unfold beginStop
  split
  · rfl
  · dsimp only
    split <;> exact ⟨by simp, by simp, fun h => absurd h hne, by simp⟩

theorem tryResumeTimer_kept : p.Kept p.tryResumeTimer := by
  unfold tryResumeTimer
  split
  · rfl
  · split
    · exact ⟨rfl, rfl, id, id⟩
    · rfl

theorem resettleAll_kept : p.Kept p.resettleAll := ⟨rfl, tmap_map_of_eq (fun _ _ => by rfl) _, id, id⟩

theorem chainRecord_kept (g : Geometry) (position : Nat) (moving fault : Bool) :
    p.Kept (chainRecord g position moving fault p) :=
  ⟨rfl, tmap_map_of_eq (fun _ _ => by rfl) _, id, id⟩

/-- A new trip leaves at most as many as the history holds (R21). -/
theorem addTrip_length_le (now : Nat) (trips : List Nat) : (addTrip now trips).length ≤ Config.tripHistory := by
  simp only [addTrip, List.length_drop]
  omega

namespace Kept

variable {p} {q : Paternoster} (h : p.Kept q)
include h

theorem place (o : DriveOrder) : p.Kept (q.place o) := h.trans (place_kept q o)
theorem withdrawStopAt : p.Kept q.withdrawStopAt := h.trans (withdrawStopAt_kept q)
theorem haltStop : p.Kept q.haltStop := h.trans (haltStop_kept q)
theorem addCause (c : LockCause) : p.Kept (q.addCause c) := h.trans (addCause_kept q c)
theorem lock (c : Option LockCause) : p.Kept (q.lock c) := h.trans (lock_kept q c)
theorem tryResumeTimer : p.Kept q.tryResumeTimer := h.trans (tryResumeTimer_kept q)
theorem withTrips {l : List Nat} (hl : l.length ≤ Config.tripHistory) : p.Kept { q with trips := l } :=
  h.trans ⟨rfl, rfl, id, fun _ => hl⟩

end Kept

end Paternoster

section Monitor

variable {s0 s : State}

theorem lockOn_kept (h : s0.Kept s) (c : Option LockCause) : s0.Kept (s.onPat fun p => p.lock c) :=
  h.onPat (s.pat.lock_kept c)

theorem haltAndLock_kept (h : s0.Kept s) (c : Option LockCause) : s0.Kept (s.onPat fun p => (p.place .halt).lock c) :=
  h.onPat (Paternoster.Kept.lock (s.pat.place_kept _) c)

theorem markPat_kept (h : s0.Kept s) : s0.Kept (markPat s) := h.onPat ⟨rfl, rfl, id, id⟩

theorem onLanding_kept (h : s0.Kept s) (f : Nat) {g : Landing → Landing}
    (hg : ∀ k l, landingLoaded (k, g l) = landingLoaded (k, l)) : s0.Kept (onLanding s f g) :=
  h.onPat ⟨rfl, tmod_map_of_eq hg _ _, id, id⟩

theorem judgeLandings_kept (h : s0.Kept s) (l : List Nat) : s0.Kept (judgeLandings l s) :=
  State.Kept.foldl (fun _ _ h => h.onShut (handLanding_loaded ..)) l h

theorem lockAndJudge_kept (h : s0.Kept s) : s0.Kept (lockAndJudge s) := judgeLandings_kept (lockOn_kept h _) _

/-- A landing's addition by the state in which it finds the paternoster (R17). -/
theorem addLanding_kept (h : s0.Kept s) (f : Nat) : s0.Kept (addLanding f s) := by
  unfold addLanding
  split
  · exact h
  · have h1 : s0.Kept (markPat (s.onPat fun p => { p with fireStop := addBit p.fireStop f })) :=
      markPat_kept (h.onPat ⟨rfl, rfl, id, id⟩)
    generalize markPat (s.onPat fun p => { p with fireStop := addBit p.fireStop f }) = s1 at h1
    dsimp only
    split
    next => exact h1
    next hst => exact h1.onPat (Paternoster.beginStop_kept _ _ _ (by simp [hst]))
    next hst => exact h1.onPat (Paternoster.beginStop_kept _ _ _ (by simp [hst]))
    next hst =>
      split
      · exact h1.onPat ⟨rfl, rfl, by simp [hst], id⟩
      · exact h1.onPat (Paternoster.beginStop_kept _ _ _ (by simp [hst]))
    next hst =>
      split
      · exact h1
      · exact h1.onPat (Paternoster.beginStop_kept _ _ _ (by simp [hst]))
    next => split <;> [exact lockAndJudge_kept h1; exact h1]
    next => split <;> [exact lockAndJudge_kept h1; exact h1]
    next => split <;> [exact lockAndJudge_kept h1; exact h1.onPat (Paternoster.addCause_kept _ _)]

theorem awaitEntered_kept (h : s0.Kept s) (i : Nat) : s0.Kept (awaitEntered i s) := by
  unfold awaitEntered
  split
  · exact h
  · split
    · split
      · exact h
      · split <;> [exact addLanding_kept h _; exact h.onShut (handLanding_loaded ..)]
    · exact h

theorem enterAwait_kept (h : s0.Kept s) (i : Nat) (r : Reason) : s0.Kept (enterAwait i r s) :=
  awaitEntered_kept (h.onShutter i fun _ => by rfl) i

theorem release_kept (h : s0.Kept s) (i : Nat) : s0.Kept (release i s) := by
  have hfired : s0.Kept (onShutter s i fun sh => { sh with reason := .fire }) := h.onShutter i fun _ => rfl
  unfold release
  split
  · exact h
  · dsimp only
    split
    next => exact h
    next => exact hfired.onShutter i fun _ => Shutter.warn_loaded _ _
    next => exact enterAwait_kept h i _
    next => exact h
    next => split <;> [exact h; exact awaitEntered_kept hfired i]
    next => exact hfired
    next => exact hfired
    next => exact hfired
    next => exact hfired
    next => exact hfired.onShutter i fun _ => rfl
    next => exact enterAwait_kept (h.onShutter i fun _ => by rfl) i _
    next => exact hfired.onShutter i fun _ => rfl
    next => split <;> [exact enterAwait_kept h i _; exact hfired]

theorem releaseIfAlarm_kept (h : s0.Kept s) (i : Nat) : s0.Kept (releaseIfAlarm i s) := by
  unfold releaseIfAlarm
  split
  · exact h
  · split <;> [exact release_kept h i; exact h]

theorem releaseZone_kept (h : s0.Kept s) (z : Nat) : s0.Kept (releaseZone z s) := by
  refine State.Kept.foldl (fun s i h => ?_) _ h
  split
  · exact h
  · split <;> [exact h; exact release_kept h i]

theorem shutterReport_kept (h : s0.Kept s) (i : Nat) (v : Position) : s0.Kept (shutterReport i v s) := by
  unfold shutterReport
  split
  · exact h
  · have h1 : s0.Kept (onShutter s i fun sh => { sh with last := some v }) := h.onShutter i fun _ => rfl
    have h2 := h1.onShutter i (Shutter.onReport_loaded · v)
    dsimp only
    split
    · exact releaseIfAlarm_kept (h1.onShutter i (Shutter.leaveUnknown_loaded · v)) i
    · split <;> [exact releaseIfAlarm_kept h2 i; exact h2]

theorem nightStep_kept (h : s0.Kept s) (floors : FloorSet) : s0.Kept (nightStep floors s) := by
  refine State.Kept.foldl (fun s i h => ?_) _ h
  split
  · exact h
  · split
    · exact h.onShutter i fun _ => Shutter.warn_loaded _ _
    · exact enterAwait_kept h i _

/-! ### Reports of the chain and of a landing -/

theorem startOfMovement_kept (h : s0.Kept s) (hne : s.pat.state ≠ .locked) : s0.Kept (startOfMovement s) := by
  unfold startOfMovement
  have h1 : s0.Kept (s.onPat fun p => { p.resettleAll with start := none, mark := p.mark || s.pat.start.isNone }) :=
    h.onPat ((s.pat.resettleAll_kept).trans ⟨rfl, rfl, id, id⟩)
  dsimp only
  split
  · exact h1.onPat (Paternoster.beginStop_kept _ _ _ hne)
  · split
    · exact h1.onPat (Paternoster.beginStop_kept _ _ _ hne)
    · split <;> exact h1.onPat ⟨rfl, rfl, fun hl => absurd hl hne, id⟩

theorem firstReport_kept (h : s0.Kept s) (hne : s.pat.state ≠ .locked) (moving fault : Bool) :
    s0.Kept (firstReport moving fault s).1 := by
  unfold firstReport
  have h0 : s0.Kept (markPat s) := markPat_kept h
  dsimp only
  split
  next => exact haltAndLock_kept h0 _
  next =>
  split
  next =>
    dsimp only
    refine h0.onPat ?_
    split <;> [exact Paternoster.Kept.lock (Paternoster.place_kept _ _) _; exact Paternoster.lock_kept _ _]
  next =>
  split
  next => exact lockAndJudge_kept h0
  next =>
  split
  next => exact startOfMovement_kept h0 hne
  next =>
    dsimp only
    exact h0.onPat ⟨rfl, rfl, fun hl => absurd hl hne, id⟩

theorem arrival_kept (h : s0.Kept s) (hne : s.pat.state ≠ .locked) : s0.Kept (arrival s).1 := by
  unfold arrival
  split <;> dsimp only
  · exact (lockAndJudge_kept h).onPat (Paternoster.withdrawStopAt_kept _)
  · refine h.onPat ((Paternoster.withdrawStopAt_kept _).trans ⟨rfl, rfl, fun hl => absurd hl ?_, id⟩)
    rwa [Paternoster.withdrawStopAt_state]

theorem countRevolution_kept (h : s0.Kept s) (hne : s.pat.state ≠ .locked) (wrap : Bool) :
    s0.Kept (countRevolution wrap s) := by
  unfold countRevolution
  split
  · split
    · exact markPat_kept (h.onPat ⟨rfl, rfl, id, id⟩)
    · exact markPat_kept (h.onPat (Paternoster.beginStop_kept _ _ _ hne))
  · exact h

/-- A NORMAL report by state and motion (R10). -/
theorem normalReport_kept (h : s0.Kept s) (moving wrap : Bool) : s0.Kept (normalReport moving wrap s).1 := by
  have hleave : s.pat.state ≠ .locked → ∀ f : Paternoster → Paternoster, (f s.pat).geometry = s.pat.geometry →
      (f s.pat).landings = s.pat.landings → (f s.pat).trips = s.pat.trips → s0.Kept (s.onPat f) :=
    fun hne f hg hl ht => h.onPat ⟨hg, by rw [hl], fun hlocked => absurd hlocked hne, ht ▸ id⟩
  unfold normalReport
  split
  next => exact h
  next hst => exact startOfMovement_kept h (by simp [hst])
  next => exact h
  next => exact h
  next hst =>
    dsimp only
    exact hleave (by simp [hst]) _ rfl rfl rfl
  next hst => exact countRevolution_kept h (by simp [hst]) wrap
  next hst =>
    dsimp only
    exact hleave (by simp [hst]) _ rfl rfl rfl
  next => exact h
  next => exact h
  next hst => exact arrival_kept h (by simp [hst])
  next hst => exact arrival_kept h (by simp [hst])
  next => exact h.onPat (f := fun p => p.place .halt) (Paternoster.place_kept _ _)
  next => exact h.onPat (f := fun p => p.place .halt) (Paternoster.place_kept _ _)
  next =>
    have h1 : s0.Kept (s.onPat fun p => { p with stopTimer := none }) := h.onPat ⟨rfl, rfl, id, id⟩
    dsimp only
    split <;> [exact lockAndJudge_kept h1; exact h1]
  next => exact h

theorem chainReport_kept (h : s0.Kept s) (position : Nat) (moving fault : Bool) :
    s0.Kept (chainReport position moving fault s) := by
  unfold chainReport
  split
  · exact h
  next g hg =>
    extract_lets wrap s1 r s2 judged s3
    have h1 : s0.Kept s1 := h.onPat (Paternoster.chainRecord_kept ..)
    have h2 : s0.Kept s2 := by
      unfold s2 r
      split
      next hst => exact firstReport_kept h1 (by simp [s1, chainRecord, hst]) _ _
      next =>
        split
        · exact haltAndLock_kept h1 _
        · exact normalReport_kept h1 _ _
    have h3 : s0.Kept s3 := by
      unfold s3
      split <;> [exact judgeLandings_kept h2 _; exact h2]
    exact h3.onPat (Paternoster.tryResumeTimer_kept _)

theorem guardTrip_kept (h : s0.Kept s) : s0.Kept (guardTrip s) := by
  unfold guardTrip
  split
  · exact h
  next g hg =>
    have h1 : s0.Kept (markPat s) := markPat_kept h
    have hplace := Paternoster.place_kept (markPat s).pat .halt
    have htrips := Paternoster.addTrip_length_le (markPat s).now (markPat s).pat.trips
    dsimp only
    generalize markPat s = s1 at h1 hplace htrips
    have hfull : ∀ q, s1.pat.Kept q →
        s1.pat.Kept ({ q with trips := addTrip s1.now s1.pat.trips }.lock (some .guardLimit)) :=
      fun q hq => (hq.withTrips htrips).lock _
    split
    next hst =>
      refine h1.onPat ?_
      split <;> [exact hfull _ hplace; exact ⟨by simp, by simp, by simp [hst], fun _ => htrips⟩]
    next hst =>
      refine h1.onPat ?_
      split <;> [exact hfull _ hplace; exact ⟨by simp, by simp, by simp [hst], fun _ => htrips⟩]
    next hst =>
      refine h1.onPat ?_
      split
      · apply Paternoster.Kept.lock
        exact hplace.trans ⟨rfl, rfl, id, fun _ => htrips⟩
      · exact ⟨by simp, by simp, by simp [hst], fun _ => htrips⟩
    next => exact h1.onPat hplace.haltStop
    next => exact h1.onPat hplace.haltStop
    next => split <;> [exact h1.onPat (hplace.trans ⟨rfl, rfl, id, id⟩); exact h1]
    next => exact h1
    next => exact h1

theorem stopSwitch_kept (h : s0.Kept s) : s0.Kept (stopSwitch s) := by
  unfold stopSwitch
  split
  next => exact haltAndLock_kept h _
  next => exact haltAndLock_kept h _
  next => exact haltAndLock_kept h _
  next => exact haltAndLock_kept h _
  next => exact haltAndLock_kept h _
  next => exact haltAndLock_kept h _
  next => exact h.onPat (Paternoster.addCause_kept _ _)
  next => exact h.onPat (Paternoster.Kept.addCause (Paternoster.place_kept _ _) _)

theorem slip_kept (h : s0.Kept s) : s0.Kept (slip s) := by
  unfold slip
  split
  next => exact haltAndLock_kept h _
  next => exact haltAndLock_kept h _
  next => exact haltAndLock_kept h _
  next => exact haltAndLock_kept h _
  next => exact haltAndLock_kept h _
  next => exact haltAndLock_kept h _
  next => exact h.onPat (Paternoster.addCause_kept _ _)
  next => exact h

theorem beamCheck_kept (h : s0.Kept s) (f up down : Nat) : s0.Kept (beamCheck f up down s) := by
  unfold beamCheck
  split
  · dsimp only
    split
    · exact slip_kept (onLanding_kept h f fun _ _ => rfl)
    · exact onLanding_kept h f fun _ _ => rfl
  · exact h

theorem landingReport_kept (h : s0.Kept s) (f up down : Nat) (tripped operated : Bool) :
    s0.Kept (landingReport f up down tripped operated s) := by
  unfold landingReport
  split
  · exact h
  · dsimp only
    refine State.Kept.onPat (onLanding_kept (beamCheck_kept ?_ f up down) f fun _ _ => by rfl)
      (Paternoster.tryResumeTimer_kept _)
    have h1 : s0.Kept (if operated then stopSwitch s else s) := by split <;> [exact stopSwitch_kept h; exact h]
    split <;> [exact guardTrip_kept h1; exact h1]

theorem monitorFullAlarm_kept (h : s0.Kept s) : s0.Kept (monitorFullAlarm s) := by
  unfold monitorFullAlarm
  split
  next hst => exact h.onPat (Paternoster.beginStop_kept _ _ _ (by simp [hst]))
  next hst => exact h.onPat (Paternoster.beginStop_kept _ _ _ (by simp [hst]))
  next hst => exact h.onPat ⟨rfl, rfl, by simp [hst], id⟩
  next => exact lockOn_kept h _
  next => exact h
  next => exact h
  next => exact h
  next => exact h

theorem driveMissing_kept (h : s0.Kept s) : s0.Kept (driveMissing s) := by
  refine h.onPat ?_
  dsimp only
  split
  · exact ⟨rfl, rfl, id, id⟩
  · apply Paternoster.Kept.lock
    exact ⟨rfl, rfl, id, id⟩

theorem landingReturns_kept (h : s0.Kept s) (f : Nat) : s0.Kept (landingReturns f s) :=
  onLanding_kept h f fun _ _ => by rfl

theorem stopTimerExpires_kept (h : s0.Kept s) : s0.Kept (stopTimerExpires s) := by
  unfold stopTimerExpires
  split
  · refine h.onPat ?_
    apply Paternoster.Kept.lock
    apply Paternoster.Kept.place
    exact ⟨rfl, rfl, id, id⟩
  · exact h

theorem resumeTimerExpires_kept (h : s0.Kept s) : s0.Kept (resumeTimerExpires s) := by
  unfold resumeTimerExpires
  split
  next hheld =>
    have h1 : s0.Kept (s.onPat fun p =>
        { p with state := .idle, resumeTimer := none, remembered := none, start := none }) :=
      h.onPat ⟨rfl, rfl, by simp [hheld.2], id⟩
    dsimp only
    split
    · exact h1.onPat ((Paternoster.place_kept _ _).trans ⟨rfl, rfl, id, id⟩)
    · exact markPat_kept h1
  next => exact h

theorem noteHalt_kept (h : s0.Kept s) : s0.Kept (noteHalt s) := by
  unfold noteHalt
  split
  next => exact h.onPat ⟨rfl, rfl, id, id⟩
  next => exact h.onPat (Paternoster.Kept.haltStop (Paternoster.withdrawStopAt_kept _))
  next => exact h.onPat (Paternoster.Kept.haltStop (Paternoster.withdrawStopAt_kept _))
  next => exact h
  next => exact h
  next => exact h
  next => exact h
  next => exact h

theorem runoutStep_kept (h : s0.Kept s) (r : Nat) : s0.Kept (runoutStep r s) := by
  unfold runoutStep
  split
  next hst => exact h.onPat ⟨rfl, rfl, by simp [hst], id⟩
  next => exact h

end Monitor

end Sys2Proof.Machine
end

section
/-! SUPPORT. The Call Unit, the Announcement Unit and the Fire Zone Unit keep what `State.Kept` names. -/

namespace Sys2Proof.Machine

/-! ## The ring queue and the call list -/

@[simp] theorem insertReq_length (r : Req) (q : List Req) : (insertReq r q).length = q.length + 1 := by
  induction q with
  | nil => rfl
  | cons x q ih => simp only [insertReq]; split <;> simp [ih]

@[simp] theorem reorder_length (q : List Req) : (reorder q).length = q.length := by
  have hfold : ∀ (l acc : List Req), (l.foldl (fun q r => insertReq r q) acc).length = l.length + acc.length := by
    intro l
    induction l with
    | nil => simp
    | cons x l ih => intro acc; simp only [List.foldl_cons, ih, insertReq_length, List.length_cons]; omega
  simp [reorder, hfold]

/-! ### Queue order (R101) -/

theorem Req.before_iff (a b : Req) : a.before b = true ↔ b.priority < a.priority ∨
    (a.priority = b.priority ∧ (a.age < b.age ∨ (a.age = b.age ∧ a.seq < b.seq))) := by
  simp [Req.before]

theorem Req.not_before_trans {a b c : Req} (hab : b.before a = false) (hbc : c.before b = false) :
    c.before a = false := by
  rw [Bool.eq_false_iff, ne_eq, Req.before_iff] at hab hbc ⊢
  omega

theorem Req.not_before_of_before {a b : Req} (h : a.before b = true) : b.before a = false := by
  rw [Bool.eq_false_iff, ne_eq, Req.before_iff]
  rw [Req.before_iff] at h
  omega

theorem Req.same_iff (a b : Req) : a.same b = true ↔ a.ringer = b.ringer ∧ a.pattern = b.pattern ∧ a.origin = b.origin := by
  simp [Req.same, and_assoc]

theorem Req.same_comm (a b : Req) : a.same b = b.same a := by
  rw [Bool.eq_iff_iff, Req.same_iff, Req.same_iff, eq_comm (a := a.ringer), eq_comm (a := a.pattern),
    eq_comm (a := a.origin)]

theorem insertReq_perm (r : Req) (q : List Req) : (insertReq r q).Perm (r :: q) := by
  induction q with
  | nil => exact .refl _
  | cons x q ih =>
    simp only [insertReq]
    split
    · exact .refl _
    · exact (ih.cons x).trans (.swap r x q)

theorem insertReq_order {r : Req} {q : List Req} (h : q.Pairwise fun a b => b.before a = false) :
    (insertReq r q).Pairwise fun a b => b.before a = false := by
  induction q with
  | nil => exact List.pairwise_singleton _ _
  | cons x q ih =>
    obtain ⟨hhead, htail⟩ := List.pairwise_cons.mp h
    simp only [insertReq]
    split
    next hbefore =>
      have hx := Req.not_before_of_before hbefore
      refine List.pairwise_cons.mpr ⟨fun y hy => ?_, h⟩
      rcases List.mem_cons.mp hy with rfl | hy
      · exact hx
      · exact Req.not_before_trans hx (hhead y hy)
    next hbehind =>
      refine List.pairwise_cons.mpr ⟨fun y hy => ?_, ih htail⟩
      rcases List.mem_cons.mp ((insertReq_perm r q).mem_iff.mp hy) with rfl | hy
      · exact Bool.eq_false_iff.mpr hbehind
      · exact hhead y hy

theorem foldl_insertReq_perm (l : List Req) : ∀ acc : List Req,
    (l.foldl (fun q r => insertReq r q) acc).Perm (l ++ acc) := by
  induction l with
  | nil => intro acc; exact .refl _
  | cons x l ih =>
    intro acc
    refine (ih _).trans ?_
    exact ((insertReq_perm x acc).append_left l).trans List.perm_middle

theorem reorder_perm (q : List Req) : (reorder q).Perm q :=
  (foldl_insertReq_perm q []).trans (.of_eq (List.append_nil q))

theorem reorder_order (q : List Req) : (reorder q).Pairwise fun a b => b.before a = false := by
  have hfold : ∀ (l acc : List Req), acc.Pairwise (fun a b => b.before a = false) →
      (l.foldl (fun q r => insertReq r q) acc).Pairwise fun a b => b.before a = false := by
    intro l
    induction l with
    | nil => exact fun _ h => h
    | cons x l ih => exact fun acc h => ih _ (insertReq_order h)
  exact hfold q [] .nil

/-- Being pairwise different does not depend on the order. -/
theorem distinct_perm {p q : List Req} (h : p.Perm q) :
    (p.Pairwise fun a b => a.same b = false) ↔ q.Pairwise fun a b => a.same b = false :=
  h.pairwise_iff fun hab => by rw [Req.same_comm]; exact hab

theorem distinct_insertReq {r : Req} {q : List Req} (h : q.Pairwise fun a b => a.same b = false)
    (hnew : q.any r.same = false) : (insertReq r q).Pairwise fun a b => a.same b = false :=
  (distinct_perm (insertReq_perm r q)).mpr
    (List.pairwise_cons.mpr ⟨fun x hx => Bool.eq_false_iff.mpr (List.any_eq_false.mp hnew x hx), h⟩)

theorem distinct_map {f : Req → Req} {q : List Req} (h : q.Pairwise fun a b => a.same b = false)
    (hf : ∀ a b, (f a).same (f b) = a.same b) : (q.map f).Pairwise fun a b => a.same b = false :=
  List.pairwise_map.mpr (h.imp fun hab => by rw [hf]; exact hab)

namespace CallUnit

variable (u : CallUnit)

@[simp] theorem onCallOf_queue (p : Nat) (f : Call → Call) : (u.onCallOf p f).queue = u.queue := rfl
@[simp] theorem onCallOf_calls_length (p : Nat) (f : Call → Call) : (u.onCallOf p f).calls.length = u.calls.length := by
  simp [onCallOf]

theorem onCallOf_pushes (p : Nat) {f : Call → Call} (hf : ∀ c, (f c).push = c.push) :
    (u.onCallOf p f).calls.map (fun c => c.push) = u.calls.map fun c => c.push := by
  simp only [onCallOf, List.map_map]
  refine List.map_congr_left fun c _ => ?_
  simp only [Function.comp_apply]
  split <;> simp [hf]

@[simp] theorem owe_queue (r : Req) : (u.owe r).queue = u.queue := by unfold owe; split <;> rfl

variable {u}

theorem Bounded.onCallOf (h : u.Bounded) (p : Nat) {f : Call → Call} (hf : ∀ c, (f c).push = c.push) :
    (u.onCallOf p f).Bounded :=
  ⟨by rw [onCallOf_calls_length]; exact h.calls, by rw [onCallOf_pushes u p hf]; exact h.pushes, h.queue⟩

theorem Bounded.owe (h : u.Bounded) (r : Req) : (u.owe r).Bounded := by
  unfold CallUnit.owe
  split
  · exact h.onCallOf _ fun _ => rfl
  · exact h

/-- Of a bounded unit the calls are kept, in any state of theirs, and the queue does not outgrow its capacity. -/
theorem Bounded.withQueue (h : u.Bounded) {v : CallUnit} (hcalls : v.calls = u.calls)
    (hqueue : v.queue.length ≤ Config.ringQueue) : v.Bounded :=
  ⟨hcalls ▸ h.calls, hcalls ▸ h.pushes, hqueue⟩

theorem Ordered.withQueue (h : u.Ordered) {v : CallUnit} (hqueue : v.queue = u.queue) : v.Ordered :=
  ⟨hqueue ▸ h.order, hqueue ▸ h.distinct⟩

/-- A part of the queue is in order. -/
theorem Ordered.sublist (h : u.Ordered) {v : CallUnit} (hqueue : v.queue.Sublist u.queue) : v.Ordered :=
  ⟨h.order.sublist hqueue, h.distinct.sublist hqueue⟩

/-- Requests put back at the places that changed priorities give. -/
theorem Ordered.reorder (h : u.Ordered) {v : CallUnit} {f : Req → Req} (hf : ∀ a b, (f a).same (f b) = a.same b)
    (hqueue : v.queue = Machine.reorder (u.queue.map f)) : v.Ordered :=
  ⟨hqueue ▸ reorder_order _, hqueue ▸ (distinct_perm (reorder_perm _)).mpr (distinct_map h.distinct hf)⟩

theorem Ordered.join (h : u.Ordered) (r : Req) : (u.join r).Ordered := by
  unfold CallUnit.join
  split
  · refine h.reorder (f := fun x => if r.same x then { x with priority := max x.priority r.priority } else x) ?_ rfl
    intro a b
    split <;> split <;> rfl
  next hnew =>
    have hnew : u.queue.any r.same = false := Bool.eq_false_iff.mpr hnew
    split
    · exact ⟨insertReq_order h.order, distinct_insertReq h.distinct hnew⟩
    · split
      · exact h
      next low hlow =>
        split
        · refine Ordered.withQueue ?_ (owe_queue _ low)
          have hsub : u.queue.dropLast.Sublist u.queue := List.dropLast_sublist _
          have hnew' : u.queue.dropLast.any r.same = false :=
            List.any_eq_false.mpr fun x hx => List.any_eq_false.mp hnew x (hsub.subset hx)
          exact ⟨insertReq_order (h.order.sublist hsub), distinct_insertReq (h.distinct.sublist hsub) hnew'⟩
        · exact h.withQueue (owe_queue _ r)

/-- A request joins only while there is room, or in the place of the last (R101, R102). -/
theorem Bounded.join (h : u.Bounded) (r : Req) : (u.join r).Bounded := by
  unfold CallUnit.join
  split
  · exact h.withQueue rfl (by simpa using h.queue)
  · split
    next hroom => exact h.withQueue rfl (by simpa using hroom)
    next hfull =>
      split
      · exact h
      next low hlow =>
        have hpos : 0 < u.queue.length := List.length_pos_of_mem (List.mem_of_getLast? hlow)
        split
        · apply Bounded.owe
          refine h.withQueue rfl ?_
          have := h.queue
          simp only [insertReq_length, List.length_dropLast]
          omega
        · exact h.owe r

theorem Bounded.withdraw (h : u.Bounded) (p : Origin → Bool) : (u.withdraw p).Bounded :=
  h.withQueue rfl ((List.length_filter_le ..).trans h.queue)

theorem Bounded.refresh (h : u.Bounded) : u.refresh.Bounded :=
  ⟨by simpa [CallUnit.refresh] using h.calls, by simpa [CallUnit.refresh, Function.comp_def] using h.pushes, h.queue⟩

end CallUnit

section Calls

variable {s0 s : State}

theorem joinNew_kept (h : s0.Kept s) (a b c : Nat) (o : Origin) : s0.Kept (joinNew a b c o s) := by
  unfold joinNew
  refine h.onCall (fun hb => ?_) fun ho => ?_
  · apply CallUnit.Bounded.join
    exact hb.withQueue rfl hb.queue
  · apply CallUnit.Ordered.join
    exact ho.withQueue rfl

theorem reofferOne_kept (h : s0.Kept s) (push : Nat) : s0.Kept (reofferOne s push) := by
  unfold reofferOne
  split
  · have h1 : s0.Kept (s.onCall fun u => u.onCallOf push fun c => { c with owed := false }) :=
      h.onCall (fun hb => hb.onCallOf _ fun _ => rfl) fun ho => ho.withQueue rfl
    split
    · dsimp only
      split <;> [exact h1; exact joinNew_kept h1 ..]
    · exact h
  · exact h

theorem reoffer_kept (h : s0.Kept s) : s0.Kept (reoffer s) := State.Kept.foldl (fun _ _ h => reofferOne_kept h _) _ h

theorem takeReq_kept (h : s0.Kept s) (i : Nat) (r : Req) (pat : Pattern) : s0.Kept (takeReq i r pat s) :=
  State.Kept.onRinger (h.onCall (fun hb => hb.withQueue rfl ((List.length_filter_le ..).trans hb.queue))
    fun ho => ho.sublist List.filter_sublist) i _

theorem dispatchOne_kept (h : s0.Kept s) (i : Nat) : s0.Kept (dispatchOne i s) := by
  unfold dispatchOne
  split
  · exact h
  · split
    · exact h
    · split
      · exact h
      · split <;> [exact h; exact takeReq_kept h ..]

theorem dispatchRound_kept (h : s0.Kept s) : s0.Kept (dispatchRound s) := by
  refine State.Kept.foldl (fun s i h => ?_) _ h
  dsimp only
  split <;> [exact h; exact reoffer_kept (dispatchOne_kept h i)]

theorem dispatchRounds_kept (h : s0.Kept s) (n : Nat) : s0.Kept (dispatchRounds n s) := by
  induction n generalizing s with
  | zero => exact h
  | succ n ih =>
    simp only [dispatchRounds]
    split <;> [exact h; exact ih (dispatchRound_kept h)]

theorem dispatch_kept (h : s0.Kept s) : s0.Kept (dispatch s) := dispatchRounds_kept h 17

theorem joinAndDispatch_kept (h : s0.Kept s) (a b c : Nat) (o : Origin) : s0.Kept (joinAndDispatch a b c o s) :=
  dispatch_kept (joinNew_kept h ..)

theorem departures_kept (h : s0.Kept s) : s0.Kept (departures s) := dispatch_kept (reoffer_kept h)

theorem rejoin_kept (h : s0.Kept s) (g : Option Ring) : s0.Kept (rejoin g s) := by
  unfold rejoin
  split
  · exact h.onCall (fun hb => hb.join _) fun ho => ho.join _
  · exact h

theorem escalate_kept (h : s0.Kept s) (push : Nat) : s0.Kept (escalate push s) := by
  unfold escalate
  split
  · exact h
  next c hc =>
    split
    · exact h
    · extract_lets pr s1
      have h1 : s0.Kept s1 := by
        refine h.onCall (fun hb => CallUnit.Bounded.withQueue
          (hb.onCallOf push (f := fun c => { c with priority := pr, escalated := true, nextRing := none }) fun _ => rfl)
          rfl (by simpa using hb.queue)) fun ho => ?_
        refine ho.reorder (f := fun r => if r.origin = .call push then { r with priority := pr } else r) ?_ rfl
        intro a b
        split <;> split <;> rfl
      split <;> [exact joinNew_kept h1 ..; exact h1]

theorem pushPressed_kept (h : s0.Kept s) (i : Nat) : s0.Kept (pushPressed i s) := by
  unfold pushPressed
  split
  · exact h
  next p hp =>
    split
    next c hc =>
      extract_lets n s1
      have h1 : s0.Kept s1 := h.onCall (fun hb => hb.onCallOf _ fun _ => rfl) fun ho => ho.withQueue rfl
      split <;> [exact dispatch_kept (escalate_kept h1 i); exact h1]
    next hnone =>
      dsimp only
      refine joinAndDispatch_kept ?_ ..
      split
      next hroom =>
        refine h.onCall (fun hb => ⟨by simpa using hroom, ?_, hb.queue⟩) fun ho => ho.withQueue rfl
        have hnew : ∀ c ∈ s.call.calls, c.push ≠ i := fun c hc heq =>
          List.find?_eq_none.mp hnone c hc (by simp [heq])
        simp only [List.map_append, List.map_cons, List.map_nil]
        refine List.nodup_append.mpr ⟨hb.pushes, List.nodup_singleton _, ?_⟩
        intro a ha b hb' heq
        obtain ⟨c, hc, rfl⟩ := List.mem_map.mp ha
        exact hnew c hc (heq.trans (List.mem_singleton.mp hb'))
      next => exact h.onCall (fun hb => hb.withQueue rfl hb.queue) fun ho => ho.withQueue rfl

theorem ringCompleted_kept (h : s0.Kept s) (ring : Ring) : s0.Kept (ringCompleted ring s) := by
  unfold ringCompleted
  split
  · split
    · split
      · exact h
      next push _ _ c hc =>
        extract_lets n s1
        have h1 : s0.Kept s1 := h.onCall (fun hb => hb.onCallOf _ fun _ => rfl) fun ho => ho.withQueue rfl
        split
        · exact h1
        next interval limit hrep =>
          split
          · exact escalate_kept h1 _
          · refine h1.onCall (fun hb => CallUnit.Bounded.withQueue
              (hb.onCallOf push (f := fun c => { c with nextRing := some (s.now + interval) }) fun _ => rfl) rfl hb.queue)
              fun ho => ho.withQueue rfl
    · exact h
  · exact h

theorem ringDone_kept (h : s0.Kept s) (i number : Nat) : s0.Kept (ringDone i number s) := by
  unfold ringDone
  split
  · exact h
  · split
    · exact h
    · split <;> [exact dispatch_kept (ringCompleted_kept (h.onRinger i _) _); exact h]

theorem ringTimerExpires_kept (h : s0.Kept s) (i : Nat) : s0.Kept (ringTimerExpires i s) := by
  unfold ringTimerExpires
  split
  · exact h
  · split
    · have h1 : s0.Kept (onRinger s i Ringer.idle) := h.onRinger i _
      dsimp only
      refine dispatch_kept ?_
      split
      · split
        · split <;> [exact h1.onCall (fun hb => hb.onCallOf _ fun _ => rfl) fun ho => ho.withQueue rfl; exact h1]
        · exact h1
      · exact h1
    · exact h

theorem nextRingReached_kept (h : s0.Kept s) (push : Nat) : s0.Kept (nextRingReached push s) := by
  unfold nextRingReached
  split
  · split
    · have h1 : s0.Kept (s.onCall fun u => u.onCallOf push fun c => { c with nextRing := none }) :=
        h.onCall (fun hb => hb.onCallOf _ fun _ => rfl) fun ho => ho.withQueue rfl
      dsimp only
      split <;> [exact h1; exact joinAndDispatch_kept h1 ..]
    · exact h
  · exact h

theorem queueFire_kept (h : s0.Kept s) (pattern : Nat) : s0.Kept (queueFire pattern s) :=
  State.Kept.foldl (fun _ _ h => joinAndDispatch_kept h ..) _ h

theorem preemptOne_kept (h : s0.Kept s) (i : Nat) : s0.Kept (preemptOne s i) := by
  unfold preemptOne
  split
  · exact h
  · split
    · exact h
    · split <;> [exact departures_kept (rejoin_kept (dispatchOne_kept (h.onRinger i _) i) _); exact h]

theorem callSame_kept (h : s0.Kept s) {f : CallUnit → CallUnit} (hcalls : (f s.call).calls = s.call.calls)
    (hqueue : (f s.call).queue = s.call.queue) : s0.Kept (s.onCall f) :=
  h.onCall (fun hb => hb.withQueue hcalls (hqueue ▸ hb.queue)) fun ho => ho.withQueue hqueue

theorem fireRings_kept (h : s0.Kept s) : s0.Kept (fireRings s) := by
  unfold fireRings
  extract_lets s1
  have h1 : s0.Kept s1 := by
    unfold s1
    split
    · exact h
    · exact callSame_kept (queueFire_kept h _) rfl rfl
  exact dispatch_kept (State.Kept.foldl (fun _ _ h => preemptOne_kept h _) _ h1)

theorem callFullAlarm_kept (h : s0.Kept s) : s0.Kept (callFullAlarm s) := fireRings_kept (callSame_kept h rfl rfl)

theorem fireTimerExpires_kept (h : s0.Kept s) : s0.Kept (fireTimerExpires s) := by
  have hstop : s0.Kept (s.onCall fun u => { u with fireTimer := none }) := callSame_kept h rfl rfl
  unfold fireTimerExpires
  split
  · split
    · split <;> [exact callSame_kept (queueFire_kept h _) rfl rfl; exact hstop]
    · exact hstop
  · exact hstop

theorem withdrawFire_kept (h : s0.Kept s) : s0.Kept (withdrawFire s) :=
  h.onCall (fun hb => hb.withQueue rfl ((List.length_filter_le ..).trans hb.queue))
    fun ho => ho.sublist List.filter_sublist

theorem callSilence_kept (h : s0.Kept s) : s0.Kept (callSilence s) := departures_kept (withdrawFire_kept h)

theorem callFireOver_kept (h : s0.Kept s) : s0.Kept (callFireOver s) :=
  departures_kept (callSame_kept (withdrawFire_kept h) rfl rfl)

theorem setClosingLevel_kept (h : s0.Kept s) (n : Nat) : s0.Kept (setClosingLevel n s) := by
  unfold setClosingLevel
  extract_lets s1
  have h1 : s0.Kept s1 := callSame_kept h rfl rfl
  split <;> [exact dispatch_kept h1; exact h1]

theorem closingRings_kept (h : s0.Kept s) (pattern : Nat) (mask : RingerSet) : s0.Kept (closingRings pattern mask s) :=
  State.Kept.foldl (fun _ _ h => joinAndDispatch_kept h ..) _ h

theorem callClosingAborted_kept (h : s0.Kept s) : s0.Kept (callClosingAborted s) :=
  departures_kept (h.onCall (fun hb => hb.withQueue rfl ((List.length_filter_le ..).trans hb.queue))
    fun ho => ho.sublist List.filter_sublist)

theorem removeCalls_kept (h : s0.Kept s) (pushes : List Nat) (all : Bool) : s0.Kept (removeCalls pushes all s) := by
  unfold removeCalls
  refine departures_kept (h.onCall (fun hb => ⟨?_, ?_, (List.length_filter_le ..).trans hb.queue⟩)
    fun ho => ho.sublist List.filter_sublist)
  · exact (List.length_filter_le ..).trans hb.calls
  · exact hb.pushes.sublist (List.filter_sublist.map _)

theorem answer_kept (h : s0.Kept s) (cell : Nat) : s0.Kept (answer cell s) := by
  have hignore : ∀ n, s0.Kept (ignoreAnswer n s) := fun n => callSame_kept h rfl rfl
  unfold answer
  split
  · split <;> [exact hignore _; exact removeCalls_kept h ..]
  · split
    · split <;> [exact removeCalls_kept h ..; exact hignore _]
    · exact hignore _

theorem notePanelRing_kept (h : s0.Kept s) (a b n i : Nat) : s0.Kept (notePanelRing a b n s i) := by
  unfold notePanelRing
  split
  · exact h
  · exact dispatch_kept (rejoin_kept (h.onRinger i _) _)

theorem discardRing_kept (h : s0.Kept s) (i : Nat) : s0.Kept (discardRing i s) := by
  unfold discardRing
  split
  · exact h
  · exact dispatch_kept (rejoin_kept (h.onRinger i _) _)

end Calls

/-! ## Announcements and the closing (chapter 7) -/

section Announcements

variable {s0 s : State}

theorem trySounding_kept (h : s0.Kept s) (g : Nat) : s0.Kept (trySounding g s) := by
  unfold trySounding
  split
  · split
    · split <;> [exact h.onAnn _; exact h]
    · exact h
  · exact h

theorem leaveGate_kept (h : s0.Kept s) (f : Nat) (a : Amp) : s0.Kept (leaveGate f a s) := by
  unfold leaveGate
  split
  · exact trySounding_kept (h.onAnn _) _
  · exact h

theorem placePhrase_kept (h : s0.Kept s) (f : Nat) (o : AmpOrigin) (n : Nat) : s0.Kept (placePhrase f o n s) := by
  unfold placePhrase
  split
  · exact h
  · exact leaveGate_kept (State.Kept.onAnn (h.onAmp f _) _) f _

theorem giveFirePhrase_kept (h : s0.Kept s) (f : Nat) : s0.Kept (giveFirePhrase f s) := by
  unfold giveFirePhrase
  split
  · exact h
  · exact placePhrase_kept h ..

theorem gateOffWhere_kept (h : s0.Kept s) (p : Amp → Bool) : s0.Kept (gateOffWhere p s) := by
  unfold gateOffWhere
  exact h.onAnn _

theorem gatesOff_kept (h : s0.Kept s) : s0.Kept (gatesOff s) :=
  State.Kept.foldl (fun _ _ h => giveFirePhrase_kept h _) _ (gateOffWhere_kept h _)

theorem fireOverride_kept (h : s0.Kept s) : s0.Kept (fireOverride s) := by
  unfold fireOverride
  have h1 : s0.Kept (markClosing (stopGenerators s)) := State.Kept.onAnn (h.onAnn _) _
  dsimp only
  split
  · exact gateOffWhere_kept h1 _
  · exact State.Kept.foldl (fun _ _ h => giveFirePhrase_kept h _) _ h1

theorem overrideStops_kept (h : s0.Kept s) : s0.Kept (overrideStops s) := by
  unfold overrideStops
  exact State.Kept.onAnn (h.onAnn _) _

theorem startChime_kept (h : s0.Kept s) (c : Nat) (fl : FloorSet) : s0.Kept (startChime c fl s) := by
  unfold startChime
  dsimp only
  split
  · exact h
  · exact trySounding_kept (State.Kept.foldl (fun _ _ h => h.onAmp _ _) _ (h.onAnn _)) _

theorem stepEffect_kept (h : s0.Kept s) (k : StepKind) : s0.Kept (stepEffect k s) := by
  cases k with
  | chime c fl => exact startChime_kept h c fl
  | phrase n fl => exact State.Kept.foldl (fun _ _ h => placePhrase_kept h ..) _ h
  | ring p m => exact closingRings_kept h p m
  | level n => exact setClosingLevel_kept h n
  | runout r => exact runoutStep_kept h r
  | night fl => exact nightStep_kept h fl
  | finish => exact h

theorem finishClosing_kept (h : s0.Kept s) : s0.Kept (finishClosing s) := setClosingLevel_kept (h.onAnn _) 0

theorem stepChecks_kept (h : s0.Kept s) (n : Nat) : s0.Kept (stepChecks n s) := by
  induction n generalizing s with
  | zero => exact h
  | succ n ih =>
    unfold stepChecks
    split
    · split
      · exact h
      next st _ =>
        split
        · exact h
        · extract_lets w s1
          split
          · exact h.onAnn _
          · have h1 : s0.Kept s1 := stepEffect_kept (h.onAnn _) _
            split <;> [exact finishClosing_kept h1; exact finishClosing_kept h1; exact ih (h1.onAnn _)]
    · exact h

theorem stepCheck_kept (h : s0.Kept s) : s0.Kept (stepCheck s) := stepChecks_kept h 33

theorem startClosing_kept (h : s0.Kept s) : s0.Kept (startClosing s) := by
  unfold startClosing
  split <;> [exact finishClosing_kept h; exact stepCheck_kept (h.onAnn _)]

theorem abandonClosing_kept (h : s0.Kept s) : s0.Kept (abandonClosing s) :=
  gatesOff_kept (State.Kept.onAnn (callClosingAborted_kept (h.onAnn _)) _)

theorem annFullAlarm_kept (h : s0.Kept s) : s0.Kept (annFullAlarm s) := by
  refine fireOverride_kept ?_
  split <;> [exact abandonClosing_kept h; exact h]

theorem automaticLook_kept (h : s0.Kept s) : s0.Kept (automaticLook s) := by
  unfold automaticLook
  split
  · split <;> [exact abandonClosing_kept h; exact startClosing_kept h]
  · exact h

theorem phraseEnds_kept (h : s0.Kept s) (f : Nat) : s0.Kept (phraseEnds f s) := by
  unfold phraseEnds
  split
  · exact h
  · extract_lets s1 s2
    have h1 : s0.Kept s1 := h.onAmp f _
    refine stepCheck_kept ?_
    unfold s2
    split
    · split
      · exact giveFirePhrase_kept h1 f
      · split <;> [exact h1.onAmp f _; exact h1]
    · exact h1

theorem phraseDone_kept (h : s0.Kept s) (f n : Nat) : s0.Kept (phraseDone f n s) := by
  unfold phraseDone
  split
  · exact h
  · split <;> [exact phraseEnds_kept h f; exact h]

theorem phraseTimerExpires_kept (h : s0.Kept s) (f : Nat) : s0.Kept (phraseTimerExpires f s) := by
  unfold phraseTimerExpires
  split
  · exact h
  · split <;> [exact phraseEnds_kept h f; exact h]

theorem gapTimerExpires_kept (h : s0.Kept s) (f : Nat) : s0.Kept (gapTimerExpires f s) := by
  unfold gapTimerExpires
  split
  · exact h
  · split
    · dsimp only
      split <;> [exact giveFirePhrase_kept (h.onAmp f _) f; exact h.onAmp f _]
    · exact h

theorem ampMissing_kept (h : s0.Kept s) (f : Nat) : s0.Kept (ampMissing f s) := by
  unfold ampMissing
  split
  · exact h
  · dsimp only
    refine stepCheck_kept ?_
    split <;> [exact leaveGate_kept (h.onAmp f _) f _; exact h.onAmp f _]

theorem ampReturns_kept (h : s0.Kept s) (f : Nat) : s0.Kept (ampReturns f s) := by
  unfold ampReturns
  split
  · exact h
  · split
    · split <;> [exact giveFirePhrase_kept h f; exact h.onAmp f _]
    · exact h

theorem notePanelPhrase_kept (h : s0.Kept s) (p n f : Nat) : s0.Kept (notePanelPhrase p n s f) := by
  unfold notePanelPhrase
  split
  · exact h
  · exact leaveGate_kept (h.onAmp f _) f _

theorem notePanelGate_kept (h : s0.Kept s) (v f : Nat) : s0.Kept (notePanelGate v s f) := by
  unfold notePanelGate
  split
  · exact h
  · split <;> [exact stepCheck_kept (leaveGate_kept (h.onAmp f _) f _); exact leaveGate_kept (h.onAmp f _) f _]

theorem endChime_kept (h : s0.Kept s) (g : Nat) : s0.Kept (endChime g s) := stepCheck_kept (h.onAnn _)

theorem noteEnds_kept (h : s0.Kept s) (g : Nat) : s0.Kept (noteEnds g s) := by
  unfold noteEnds
  split
  · split
    · split <;> [exact endChime_kept h g; exact h.onAnn _]
    · exact h
  · exact h

theorem chimeIsOver_kept (h : s0.Kept s) (g : Nat) : s0.Kept (chimeIsOver g s) := by
  unfold chimeIsOver
  split
  · split
    · split <;> [exact endChime_kept h g; exact h]
    · exact h
  · exact h

end Announcements

/-! ## Fire zones (chapter 3) -/

section Zones

variable {s0 s : State}

theorem onDetector_kept (h : s0.Kept s) (i : Nat) {f : Detector → Detector}
    (hf : ∀ k d, detectorLoaded (k, f d) = detectorLoaded (k, d)) : s0.Kept (onDetector s i f) :=
  h.onFire ⟨tmod_map_fst .., fun _ => tmod_map_of_eq hf _ _, rfl, rfl, rfl, fun _ => id⟩

theorem onCallPoint_kept (h : s0.Kept s) (i : Nat) {f : CallPoint → CallPoint}
    (hf : ∀ k c, callPointLoaded (k, f c) = callPointLoaded (k, c)) : s0.Kept (onCallPoint s i f) :=
  h.onFire ⟨rfl, fun _ => rfl, tmod_map_of_eq hf _ _, rfl, rfl, fun _ => id⟩

/-- A write over the one entry of an index keeps what it keeps of that entry. -/
theorem tmod_const_map {α β : Type} {g : Nat × α → β} {t : Table α} (hnodup : (t.map Prod.fst).Nodup) {i : Nat}
    {v w : α} (hget : tget t i = some v) (hg : g (i, w) = g (i, v)) : (tmod t i fun _ => w).map g = t.map g := by
  rw [tmod_eq_map, List.map_map]
  refine List.map_congr_left fun e he => ?_
  obtain ⟨k, x⟩ := e
  simp only [Function.comp_apply]
  split
  next heq =>
    subst heq
    have hx : x = v := Option.some.inj ((tget_of_mem hnodup he).symm.trans hget)
    rw [hg, hx]
  next => rfl

theorem markFullZones_kept (h : s0.Kept s) : s0.Kept (markFullZones s) := by
  refine h.onFire ⟨rfl, fun _ => rfl, rfl, tmap_map_of_eq (fun _ _ => by rfl) _, rfl, fun z hz => ?_⟩
  rw [tget_tmap, Option.any_map]
  exact hz

theorem enterFullAlarm_kept (h : s0.Kept s) (z : Nat) : s0.Kept (enterFullAlarm z s) := by
  have h1 : s0.Kept (onZone s z fun e => { e with state := .fullAlarm, timer := none, acked := false }) :=
    h.onZone (fun _ _ => rfl) fun _ _ _ => rfl
  have h2 := markFullZones_kept (h1.onFire (f := fun u => { u with silence := false })
    ⟨rfl, fun _ => rfl, rfl, rfl, rfl, fun _ => id⟩)
  exact annFullAlarm_kept (callFullAlarm_kept (monitorFullAlarm_kept (releaseZone_kept h2 z)))

theorem detectorConfirmed_kept (h : s0.Kept s) (d z : Nat) : s0.Kept (detectorConfirmed d z s) := by
  have hadd : s0.Kept (onZone s z fun e => { e with confirmers := addBit e.confirmers d, mark := true }) :=
    h.onZone (fun _ _ => rfl) fun _ _ => id
  unfold detectorConfirmed
  split
  · exact h
  next e he =>
    split
    next hquiet =>
      refine h.onZone (fun _ _ => rfl) fun e' he' hfull => ?_
      rw [he] at he'
      cases he'
      rw [hquiet] at hfull
      cases hfull
    next =>
      split
      · exact h
      · dsimp only
        split <;> [exact enterFullAlarm_kept hadd z; exact hadd]
    next => split <;> [exact h; exact hadd]
    next => exact h

theorem detectorReport_kept (h : s0.Kept s) (i v : Nat) : s0.Kept (detectorReport i v s) := by
  unfold detectorReport
  split
  · exact h
  next d hd =>
    have h1 : s0.Kept (onDetector s i fun _ => d.onLevel v) :=
      h.onFire ⟨tmod_map_fst .., fun hnodup => tmod_const_map hnodup hd rfl, rfl, rfl, rfl, fun _ => id⟩
    dsimp only
    split <;> [exact detectorConfirmed_kept h1 ..; exact h1]

theorem alarmZone_kept (h : s0.Kept s) (z : Nat) : s0.Kept (alarmZone z s) := by
  unfold alarmZone
  split
  · split <;> [exact enterFullAlarm_kept h z; exact h]
  · exact h

theorem callPointReport_kept (h : s0.Kept s) (i : Nat) (operated : Bool) : s0.Kept (callPointReport i operated s) := by
  unfold callPointReport
  split
  · exact h
  · have h1 : s0.Kept (onCallPoint s i fun c => { c with operated := operated }) := onCallPoint_kept h i fun _ _ => rfl
    dsimp only
    split <;> [exact alarmZone_kept h1 _; exact h1]

theorem stageTimerExpires_kept (h : s0.Kept s) (z : Nat) : s0.Kept (stageTimerExpires z s) := by
  unfold stageTimerExpires
  split
  · split <;> [exact enterFullAlarm_kept h z; exact h]
  · exact h

theorem alarmOver_kept (h : s0.Kept s) : s0.Kept (alarmOver s) := by
  unfold alarmOver
  split
  · exact h
  · exact overrideStops_kept (callFireOver_kept (h.onFire ⟨rfl, fun _ => rfl, rfl, rfl, rfl, fun _ => id⟩))

theorem refreshZoneFault_kept (h : s0.Kept s) (z : Nat) : s0.Kept (refreshZoneFault z s) :=
  State.Kept.onZone (f := fun e => { e with fault := s.fire.entryFault z }) h (fun _ _ => rfl) fun _ _ => id

theorem detectorMissing_kept (h : s0.Kept s) (i : Nat) : s0.Kept (detectorMissing i s) := by
  unfold detectorMissing
  split <;> [exact h; exact refreshZoneFault_kept (onDetector_kept h i fun _ _ => by rfl) _]

theorem detectorReturns_kept (h : s0.Kept s) (i : Nat) : s0.Kept (detectorReturns i s) := by
  unfold detectorReturns
  split <;> [exact h; exact refreshZoneFault_kept (onDetector_kept h i fun _ _ => by rfl) _]

theorem callPointMissing_kept (h : s0.Kept s) (i : Nat) : s0.Kept (callPointMissing i s) := by
  unfold callPointMissing
  split <;> [exact h; exact refreshZoneFault_kept (onCallPoint_kept h i fun _ _ => by rfl) _]

theorem callPointReturns_kept (h : s0.Kept s) (i : Nat) : s0.Kept (callPointReturns i s) := by
  unfold callPointReturns
  split <;> [exact h; exact refreshZoneFault_kept (onCallPoint_kept h i fun _ _ => by rfl) _]

end Zones

end Sys2Proof.Machine
end

section
/-! SUPPORT. Stations, the panel, panel orders, the arbiters and the end of an event keep what `State.Kept` names; so
does every command but the resets and the requests that load, arm, disarm, reset a zone or release the chain. -/

namespace Sys2Proof.Machine

variable {s0 s : State}

/-! ## Stations and the panel -/

theorem withEntry_kept (h : s0.Kept s) (i : Option Nat) {f : Nat → State → State} (hf : ∀ k, s0.Kept (f k s)) :
    s0.Kept (withEntry i f s) := by
  cases i with
  | none => exact h
  | some k => exact hf k

theorem ownerLoss_kept (h : s0.Kept s) (a : Nat) (r : Role) : s0.Kept (ownerLoss a r s) := by
  cases r with
  | detector => exact withEntry_kept h _ fun k => detectorMissing_kept h k
  | callPoint => exact withEntry_kept h _ fun k => callPointMissing_kept h k
  | shutter =>
    exact withEntry_kept (f := fun k s => onShutter s k Shutter.stationLost) h _ fun k =>
      h.onShutter k Shutter.stationLost_loaded
  | drive => exact driveMissing_kept h
  | amplifier => exact withEntry_kept h _ fun k => ampMissing_kept h k
  | landing | push | desk | ringer => exact h

theorem ownerReturn_kept (h : s0.Kept s) (a : Nat) (r : Role) : s0.Kept (ownerReturn a r s) := by
  cases r with
  | detector => exact withEntry_kept h _ fun k => detectorReturns_kept h k
  | callPoint => exact withEntry_kept h _ fun k => callPointReturns_kept h k
  | shutter =>
    exact withEntry_kept (f := fun k s => onShutter s k Shutter.stationBack) h _ fun k =>
      h.onShutter k Shutter.stationBack_loaded
  | landing => exact withEntry_kept h _ fun k => landingReturns_kept h k
  | ringer => exact withEntry_kept h _ fun _ => dispatch_kept h
  | amplifier => exact withEntry_kept h _ fun k => ampReturns_kept h k
  | drive | push | desk => exact h

theorem pollMissed_kept (h : s0.Kept s) (a : Nat) : s0.Kept (pollMissed a s) := by
  unfold pollMissed
  split
  · exact h
  · extract_lets m lost s1
    have h1 : s0.Kept s1 := h.onStation a fun _ _ => rfl
    split <;> [exact ownerLoss_kept h1 ..; exact h1]

theorem pollAnswered_kept (h : s0.Kept s) (a : Nat) : s0.Kept (pollAnswered a s) := by
  unfold pollAnswered
  split
  · exact h
  · extract_lets s1
    have h1 : s0.Kept s1 := h.onStation a fun _ _ => rfl
    split <;> [exact ownerReturn_kept h1 ..; exact h1]

theorem tap_kept (h : s0.Kept s) (a : Nat) (r : Report) : s0.Kept (tap a r s) := by
  unfold tap
  split
  · cases r with
    | presence => exact h
    | detectorLevel v => exact withEntry_kept h _ fun k => detectorReport_kept h k _
    | callPoint v => exact withEntry_kept h _ fun k => callPointReport_kept h k _
    | chain p m c => dsimp only; split <;> [exact chainReport_kept h ..; exact h]
    | landing u d g t => exact withEntry_kept h _ fun k => landingReport_kept h ..
    | shutterPosition v =>
      dsimp only
      split <;> [exact withEntry_kept h _ fun k => shutterReport_kept h k _; exact h]
    | push k => exact withEntry_kept h _ fun i => pushPressed_kept h i
    | answer c => dsimp only; split <;> [exact answer_kept h _; exact h]
    | ringDone n => exact withEntry_kept h _ fun i => ringDone_kept h i _
    | phraseDone n => exact withEntry_kept h _ fun i => phraseDone_kept h i _
  · exact h

/-- A change of the Line Unit that the capacities do not concern. -/
theorem lineSame_kept (h : s0.Kept s) {f : LineUnit → LineUnit} (horders : (f s.line).orders = s.line.orders)
    (hreports : (f s.line).reports = s.line.reports) (horder : (f s.line).orderRun = s.line.orderRun)
    (hlocal : (f s.line).localRun = s.line.localRun) : s0.Kept (s.onLine f) :=
  h.onLine fun hb => ⟨horders ▸ hb.orders, hreports ▸ hb.reports, horder ▸ hb.orderRun, hlocal ▸ hb.localRun⟩

theorem forwardReport_kept (h : s0.Kept s) (hd : Hdr) (r : Report) : s0.Kept (forwardReport hd r s) := by
  unfold forwardReport
  split
  · exact h
  · refine h.onLine fun hb => ?_
    split
    next hroom => exact ⟨hb.orders, by simpa using hroom, hb.orderRun, hb.localRun⟩
    next => exact ⟨hb.orders, hb.reports, hb.orderRun, hb.localRun⟩

theorem freePortB_kept (h : s0.Kept s) : s0.Kept (freePortB s) := lineSame_kept h rfl rfl rfl rfl

theorem outstandingMissed_kept (h : s0.Kept s) : s0.Kept (outstandingMissed s) := by
  unfold outstandingMissed
  split <;> [exact pollMissed_kept (freePortB_kept h) _; exact h]

theorem strangerArrives_kept (h : s0.Kept s) (hd : Hdr) (r : Option Report) : s0.Kept (strangerArrives hd r s) := by
  unfold strangerArrives
  extract_lets noted
  have h1 : s0.Kept noted := lineSame_kept h rfl rfl rfl rfl
  split
  · exact h1
  · split
    · exact h
    · split <;> [exact h1; exact forwardReport_kept h1 ..]

theorem frameDuringPoll_kept (h : s0.Kept s) (polled : Nat) (hd : Hdr) (r : Option Report) :
    s0.Kept (frameDuringPoll polled hd r s) := by
  have hmissed := pollMissed_kept h polled
  unfold frameDuringPoll
  extract_lets a
  split
  · exact strangerArrives_kept hmissed ..
  · split
    · exact hmissed
    · split
      · exact hmissed
      · split
        · exact forwardReport_kept (tap_kept (pollAnswered_kept h _) ..) ..
        · split <;> [exact forwardReport_kept (tap_kept hmissed ..) ..; exact hmissed]

theorem receiveB_kept (h : s0.Kept s) (hd : Hdr) (r : Option Report) : s0.Kept (receiveB hd r s) := by
  unfold receiveB
  split
  · split <;> [exact outstandingMissed_kept h; exact frameDuringPoll_kept (freePortB_kept h) ..]
  · exact h

theorem panelHeard_kept (h : s0.Kept s) (src : Byte) : s0.Kept (panelHeard src s) := by
  unfold panelHeard
  split
  · extract_lets now s1
    have h1 : s0.Kept s1 := h.onMgmt rfl rfl
    split
    · exact h1
    · refine h1.onReg ⟨rfl, rfl, fun hm => by simp [hm], fun hl => .inr (by simp [hl])⟩
  · exact h

theorem panelTimerExpires_kept (h : s0.Kept s) : s0.Kept (panelTimerExpires s) := by
  unfold panelTimerExpires
  split
  · exact h.onReg ⟨rfl, rfl, id, fun _ => .inl rfl⟩
  · exact h

/-! ## Panel orders -/

theorem fillVeto_kept (h : s0.Kept s) (o : Order) (r : VetoReason) (st : VetoStage) : s0.Kept (fillVeto o r st s) :=
  lineSame_kept h rfl rfl rfl rfl

theorem notePassed_kept (h : s0.Kept s) (o : Order) : s0.Kept (notePassed o s) := by
  unfold notePassed
  dsimp only
  split
  · exact h.onPat ⟨rfl, rfl, id, id⟩
  · exact noteHalt_kept h
  · exact withEntry_kept h _ fun i => h.onShutter i fun _ => Shutter.notePanelDrop_loaded _ _
  · refine withEntry_kept h _ fun i => h.onShutter i fun e => ?_
    split <;> rfl
  · exact State.Kept.foldl (fun _ _ h => notePanelRing_kept h ..) _ h
  · exact State.Kept.foldl (fun _ _ h => notePanelPhrase_kept h ..) _ h
  · refine State.Kept.foldl (fun _ _ h => notePanelGate_kept h ..) _ ?_
    split <;> [exact h; exact h.onMgmt rfl rfl]
  · exact h

theorem passOrder_kept (h : s0.Kept s) (o : Order) : s0.Kept (passOrder o s) := by
  unfold passOrder
  split
  next hroom =>
    have h1 : s0.Kept (s.onLine fun l => { l with orders := l.orders ++ [o] }) :=
      h.onLine fun hb => ⟨by simpa using hroom, hb.reports, hb.orderRun, hb.localRun⟩
    dsimp only
    split <;> [exact notePassed_kept h1 o; exact h1]
  next => exact lineSame_kept h rfl rfl rfl rfl

/-- A Rest order is consumed only in RUNNING and RUNOUT (R13). -/
theorem state_of_judgeOrder_consume {o : Order} (h : judgeOrder o s = .consume) :
    s.armed = true ∧ o.body = .rest ∧ (s.pat.state = .running ∨ s.pat.state = .runout) := by
  unfold judgeOrder at h
  split at h
  · cases h
  · split at h
    case h_4 hbody =>
      split at h
      · cases h
      next harmed => split at h <;> [exact ⟨by simpa using harmed, hbody, ‹_›⟩; cases h]
    case h_7 =>
      unfold judgeDrop at h
      (repeat' split at h) <;> cases h
    case h_8 =>
      unfold judgeRaise at h
      (repeat' split at h) <;> cases h
    all_goals ((repeat' split at h) <;> cases h)

theorem consumeRest_kept (h : s0.Kept s) (hne : s.pat.state ≠ .locked) : s0.Kept (consumeRest s) :=
  h.onPat (Paternoster.beginStop_kept _ _ _ hne)

theorem filterOrder_kept (h : s0.Kept s) (o : Order) : s0.Kept (filterOrder o s) := by
  unfold filterOrder
  split
  · exact passOrder_kept h o
  · exact fillVeto_kept h ..
  next hconsume =>
    refine consumeRest_kept h fun hlocked => ?_
    obtain ⟨-, -, hst | hst⟩ := state_of_judgeOrder_consume hconsume <;> simp [hlocked] at hst

theorem orderArrives_kept (h : s0.Kept s) (hd : Hdr) (b : OrderBody) : s0.Kept (orderArrives hd b s) := by
  unfold orderArrives
  split
  · exact h
  · split
    · dsimp only
      split <;> [exact filterOrder_kept (panelHeard_kept h _) _; exact panelHeard_kept h _]
    · exact h

/-! ## The Port B arbiter -/

theorem sendOrder_kept (h : s0.Kept s) (o : Order) : s0.Kept (sendOrder o s) :=
  h.onLine fun hb => ⟨hb.orders, hb.reports, Nat.min_le_right .., hb.localRun⟩

theorem dropStart_kept (h : s0.Kept s) : s0.Kept (dropStart s) := h.onPat ⟨rfl, rfl, id, id⟩

theorem searchAgain_kept (h : s0.Kept s) (t : Nat) : s0.Kept (searchAgain t s).2 := by
  unfold searchAgain
  split
  · split
    · dsimp only
      exact h.onPat ⟨rfl, rfl, id, id⟩
    · exact h
  · exact h

theorem takeDrive_kept (h : s0.Kept s) (a : Nat) (o : DriveOrder) : s0.Kept (takeDrive a o s) := by
  have h1 : s0.Kept (s.onPat fun p => { p with slot := none }) := h.onPat ⟨rfl, rfl, id, id⟩
  unfold takeDrive
  extract_lets s1
  cases o with
  | run => dsimp only; split <;> [exact markPat_kept (dropStart_kept h1); exact sendOrder_kept h1 _]
  | halt => exact sendOrder_kept h1 _
  | cut => exact sendOrder_kept h1 _
  | stopAt t => exact sendOrder_kept (searchAgain_kept h1 t) _

theorem dropDiscarded_kept (h : s0.Kept s) (i : Nat) (r : VetoReason) : s0.Kept (dropDiscarded i r s) := by
  unfold dropDiscarded
  split
  · exact h
  · split
    · split
      · exact h.onShutter i fun _ => rfl
      · exact awaitEntered_kept (h.onShutter i Shutter.await_loaded) i
      · exact h
    · exact h

theorem raiseDiscarded_kept (h : s0.Kept s) (i : Nat) : s0.Kept (raiseDiscarded i s) :=
  h.onShutter i fun e => by split <;> simp

theorem takeShutter_kept (h : s0.Kept s) (i : Nat) (e : Shutter) (o : ShutterOrder) :
    s0.Kept (takeShutter i e o s) := by
  unfold takeShutter
  extract_lets s1
  have h1 : s0.Kept s1 := h.onShutter i fun _ => rfl
  cases o with
  | warn => exact sendOrder_kept h1 _
  | drop =>
    dsimp only
    split
    · exact sendOrder_kept h1 _
    · split <;> [exact dropDiscarded_kept h1 ..; exact sendOrder_kept h1 _]
  | raise => dsimp only; split <;> [exact raiseDiscarded_kept h1 i; exact sendOrder_kept h1 _]

theorem takeAmp_kept (h : s0.Kept s) (f : Nat) (a : Amp) (o : AmpOrder) : s0.Kept (takeAmp f a o s) := by
  unfold takeAmp
  extract_lets s1
  have h1 : s0.Kept s1 := sendOrder_kept (h.onAmp f _) _
  split <;> [exact trySounding_kept h1 _; exact h1]

theorem takeRinger_kept (h : s0.Kept s) (i : Nat) (g : Ringer) (o : RingerOrder) : s0.Kept (takeRinger i g o s) := by
  unfold takeRinger
  split
  · split <;> [exact discardRing_kept h i; exact sendOrder_kept (h.onRinger i _) _]
  · exact sendOrder_kept (h.onRinger i _) _

theorem orderDiscarded_kept (h : s0.Kept s) (o : Order) (r : VetoReason) : s0.Kept (orderDiscarded o r s) := by
  unfold orderDiscarded
  split
  · exact dropStart_kept h
  · exact withEntry_kept h _ fun i => dropDiscarded_kept h i r
  · exact withEntry_kept h _ fun i => raiseDiscarded_kept h i
  · exact h

theorem takeForwarded_kept (h : s0.Kept s) {o : Order} {rest : List Order} (horders : s.line.orders = o :: rest) :
    s0.Kept (takeForwarded o rest s) := by
  have h1 : s0.Kept (s.onLine fun l => { l with orders := rest }) := by
    refine h.onLine fun hb => ⟨?_, hb.reports, hb.orderRun, hb.localRun⟩
    have horders' := hb.orders
    rw [horders] at horders'
    exact (Nat.le_succ _).trans horders'
  unfold takeForwarded
  dsimp only
  split <;> [exact fillVeto_kept (orderDiscarded_kept h1 ..) ..; exact sendOrder_kept h1 _]

theorem takeOrder_kept (h : s0.Kept s) {t : State} (ht : takeOrder s = some t) : s0.Kept t := by
  unfold takeOrder at ht
  split at ht
  · cases ht; exact takeDrive_kept h ..
  · split at ht
    · cases ht; exact takeShutter_kept h ..
    · split at ht
      · cases ht; exact takeAmp_kept h ..
      · split at ht
        · cases ht; exact takeRinger_kept h ..
        · split at ht
          · cases ht; exact takeForwarded_kept h ‹_›
          · cases ht

theorem takePoll_kept (h : s0.Kept s) {t : State} (ht : takePoll s = some t) : s0.Kept t := by
  unfold takePoll at ht
  split at ht
  · cases ht
  · cases ht
    exact h.onLine fun hb => ⟨hb.orders, hb.reports, Nat.zero_le _, hb.localRun⟩

theorem takeB_kept (h : s0.Kept s) {t : State} (ht : takeB s = some t) : s0.Kept t := by
  unfold takeB at ht
  split at ht
  · exact takePoll_kept h ht
  · split at ht
    next s1 hs1 => cases ht; exact takeOrder_kept h hs1
    next => split at ht <;> [exact takePoll_kept h ht; cases ht]

theorem arbiterB_kept (h : s0.Kept s) (n : Nat) : s0.Kept (arbiterB n s) := by
  induction n generalizing s with
  | zero => exact h
  | succ n ih =>
    simp only [arbiterB]
    split
    · cases ht : takeB s with
      | none => exact h
      | some t => exact ih (takeB_kept h ht)
    · exact h

/-! ## The moments -/

theorem warnTimerExpires_kept (h : s0.Kept s) (i : Nat) : s0.Kept (warnTimerExpires i s) := by
  unfold warnTimerExpires
  split
  · split
    · exact awaitEntered_kept (h.onShutter i fun _ => Shutter.warnExpiry_loaded _ _) i
    · exact h
  · exact h

theorem travelTimerExpires_kept (h : s0.Kept s) (i : Nat) : s0.Kept (travelTimerExpires i s) :=
  h.onShutter i fun e => by split <;> rfl

theorem retryTimerExpires_kept (h : s0.Kept s) (i : Nat) : s0.Kept (retryTimerExpires i s) :=
  h.onShutter i fun e => by split <;> simp

theorem midnight_kept (h : s0.Kept s) : s0.Kept (midnight s) := by
  unfold midnight
  extract_lets c s1 s2
  split
  · have h1 : s0.Kept s1 := h.onAnn _
    have h2 : s0.Kept s2 := by
      unfold s2
      split <;> [exact h1.onAnn _; exact h1]
    split <;> [exact automaticLook_kept h2; exact h2]
  · exact h

theorem closingMinute_kept (h : s0.Kept s) : s0.Kept (closingMinute s) := by
  unfold closingMinute
  split
  · split <;> [exact automaticLook_kept (h.onAnn _); exact h]
  · exact h

theorem advanceTo_kept (h : s0.Kept s) (t : Nat) : s0.Kept (advanceTo t s) := h.onMgmt rfl rfl

theorem ringTimeReached_kept (h : s0.Kept s) (push : Nat) : s0.Kept (ringTimeReached push s) := by
  unfold ringTimeReached
  split <;> [exact nextRingReached_kept (advanceTo_kept h _) push; exact h]

theorem offsetReached_kept (h : s0.Kept s) : s0.Kept (offsetReached s) := by
  unfold offsetReached
  split <;> [exact stepCheck_kept (advanceTo_kept h _); exact h]

theorem droppedOnA_kept (h : s0.Kept s) (frame : Option (Hdr × FrameClass)) : s0.Kept (droppedOnA frame s) := by
  unfold droppedOnA
  split
  · exact h
  · split
    · exact h
    · split <;> [exact h; exact panelHeard_kept h _]

theorem orderSent_kept (h : s0.Kept s) : s0.Kept (orderSent s) := by
  unfold orderSent
  split <;> [exact freePortB_kept h; exact h]

theorem pollSent_kept (h : s0.Kept s) : s0.Kept (pollSent s) := by
  unfold pollSent
  split
  · dsimp only
    exact lineSame_kept h rfl rfl rfl rfl
  · exact h

theorem sentA_kept (h : s0.Kept s) : s0.Kept (sentA s) := by
  unfold sentA
  exact lineSame_kept h rfl rfl rfl rfl

theorem moment_kept (h : s0.Kept s) (c : Instr) : s0.Kept (moment c s) := by
  cases c with
  | portAFrameDropped frame => exact droppedOnA_kept h frame
  | garbledFrame | unusableFrame | answerWindowExpiry => exact outstandingMissed_kept h
  | stopTimerExpiry => exact stopTimerExpires_kept h
  | resumeTimerExpiry => exact resumeTimerExpires_kept h
  | stageTimerExpiry z => exact stageTimerExpires_kept h z
  | warnTimerExpiry i => exact warnTimerExpires_kept h i
  | travelTimerExpiry i => exact travelTimerExpires_kept h i
  | retryTimerExpiry i => exact retryTimerExpires_kept h i
  | ringTimerExpiry r => exact ringTimerExpires_kept h r
  | nextRingTimeReached p => exact ringTimeReached_kept h p
  | fireRepeatTimerExpiry => exact fireTimerExpires_kept h
  | phraseTimerExpiry f => exact phraseTimerExpires_kept h f
  | gapTimerExpiry f => exact gapTimerExpires_kept h f
  | panelTimerExpiry => exact panelTimerExpires_kept h
  | flashPhaseChange => exact h.onBoard _
  | midnightStep => exact midnight_kept h
  | automaticStart => exact closingMinute_kept h
  | stepOffsetReached => exact offsetReached_kept h
  | chimeNoteEnd g => exact noteEnds_kept h g
  | chimeEnd g => exact chimeIsOver_kept h g
  | scanningPassCompletion => exact h.onBoard _
  | testPassCompletion => exact h.onBoard _
  | orderTransmissionComplete => exact orderSent_kept h
  | pollTransmissionComplete => exact pollSent_kept h
  | portATransmissionComplete => exact sentA_kept h
  | _ => exact h

/-! ## The end of an event -/

/-- A notice clears the mark of its item; the panel's mark put back, everything named is kept. -/
theorem takeNotice_kept (h : s0.Kept s) {f : Frame} {t : State} (ht : takeNotice s = some (f, t)) :
    s0.Kept (t.onReg fun r => { r with panelMark := s.reg.panelMark }) := by
  have hback : ∀ {t}, s0.Kept t → t.reg.panelMark = s.reg.panelMark →
      s0.Kept (t.onReg fun r => { r with panelMark := s.reg.panelMark }) :=
    fun h hmark => h.onReg ⟨rfl, rfl, (hmark ▸ ·), .inl⟩
  unfold takeNotice at ht
  split at ht
  · cases ht; exact hback (h.onZone (fun _ _ => rfl) fun _ _ => id) rfl
  · split at ht
    · cases ht; exact hback (h.onShutter _ fun _ => rfl) rfl
    · split at ht
      · cases ht; exact hback (h.onPat ⟨rfl, rfl, id, id⟩) rfl
      · split at ht
        · cases ht; exact hback (h.onStation _ fun _ _ => rfl) rfl
        · split at ht
          · cases ht; exact h
          · split at ht
            · cases ht; exact hback (callSame_kept h rfl rfl) rfl
            · split at ht
              · cases ht; exact hback (h.onAnn _) rfl
              · split at ht
                · cases ht; exact hback (lineSame_kept h rfl rfl rfl rfl) rfl
                · split at ht
                  · cases ht; exact hback (h.onBoard _) rfl
                  · cases ht

theorem sendA_kept (h : s0.Kept s) (f : Frame) {run : Nat} (hrun : run ≤ Config.runLimit) : s0.Kept (sendA f run s) :=
  h.onLine fun hb => ⟨hb.orders, hb.reports, hb.orderRun, hrun⟩

/-- The panel's mark put back, the Port A arbiter keeps everything named. -/
theorem arbiterA_kept (h : s0.Kept s) :
    s0.Kept ((arbiterA s).onReg fun r => { r with panelMark := s.reg.panelMark }) := by
  have hself : s0.Kept (s.onReg fun r => { r with panelMark := s.reg.panelMark }) := h
  have hlocal : ∀ {t}, takeLocal s = some t → s0.Kept (t.onReg fun r => { r with panelMark := s.reg.panelMark }) := by
    intro t ht
    have hrun : min (s.line.localRun + 1) Config.runLimit ≤ Config.runLimit := Nat.min_le_right ..
    unfold takeLocal at ht
    dsimp only at ht
    split at ht
    · cases ht
      exact sendA_kept (lineSame_kept h rfl rfl rfl rfl) _ hrun
    · rw [Option.map_eq_some_iff] at ht
      obtain ⟨⟨f, u⟩, hu, rfl⟩ := ht
      exact sendA_kept (takeNotice_kept h hu) f hrun
  have hreport : ∀ f rest, s.line.reports = f :: rest →
      s0.Kept ((takeReport f rest s).onReg fun r => { r with panelMark := s.reg.panelMark }) := by
    intro f rest hrest
    refine sendA_kept (h.onLine fun hb => ⟨hb.orders, ?_, hb.orderRun, hb.localRun⟩) f (Nat.zero_le _)
    have hreports := hb.reports
    rw [hrest] at hreports
    exact (Nat.le_succ _).trans hreports
  unfold arbiterA
  split
  · exact hself
  · split
    · cases ht : takeLocal s with
      | none => exact hself
      | some t => exact hlocal ht
    next f rest hrest =>
      split
      · exact hreport f rest hrest
      · split <;> [exact hlocal ‹_›; exact hreport f rest hrest]

theorem markChanges_kept (h : s0.Kept s) (b : State) : s0.Kept (markChanges b s) := by
  refine h.trans ⟨id, ⟨tmap_map_of_eq (fun _ _ => by rfl) _, rfl, id, .inl⟩, ⟨rfl, rfl, id, id⟩,
    ⟨rfl, fun _ => rfl, rfl, tmap_map_of_eq (fun _ _ => by rfl) _, rfl, fun z hz => ?_⟩,
    tmap_map_of_eq (fun _ _ => by rfl) _, ⟨fun hb => ⟨hb.calls, hb.pushes, hb.queue⟩, fun ho => ho.withQueue rfl⟩, rfl, rfl⟩
  simp only [markChanges, tget_tmap, Option.any_map]
  exact hz

/-- The end of an event keeps everything named, the panel's mark put back. -/
theorem settle_kept (h : s0.Kept s) (b : State) :
    ∃ m, s0.Kept ((settle b s).onReg fun r => { r with panelMark := m }) :=
  ⟨_, arbiterA_kept (State.Kept.onBoard (State.Kept.onBoard (markChanges_kept
    ((arbiterB_kept h 128).onCall (fun hb => hb.refresh) fun ho => ho.withQueue rfl) b) _) _)⟩

end Sys2Proof.Machine
end

section
/-! SUPPORT. What every command keeps: the requests' bodies, the capacities, the safety tables while ARMED, the part
mode, LOCKED and FULL_ALARM. -/

namespace Sys2Proof.Machine

variable {s0 s : State}

/-! ## The requests' bodies -/

theorem whenArmed_kept (h : s0.Kept s) {r : Result} (hr : s0.Kept r.state) : s0.Kept (whenArmed s r).state := by
  unfold whenArmed
  split <;> [exact hr; exact h]

theorem zoneRequest_kept (h : s0.Kept s) (z : Nat) {f : Zone → Result}
    (hf : ∀ e, tget s.fire.zones z = some e → s0.Kept (f e).state) : s0.Kept (zoneRequest z s f).state := by
  refine whenArmed_kept h ?_
  split
  · exact h
  next e he =>
    split at he
    · cases he
    · exact hf e he

theorem shutterRequest_kept (h : s0.Kept s) (i : Nat) {f : Shutter → Result} (hf : ∀ e, s0.Kept (f e).state) :
    s0.Kept (shutterRequest i s f).state := by
  refine whenArmed_kept h ?_
  split <;> [exact h; exact hf _]

theorem quietZone_kept (h : s0.Kept s) {z : Nat} {e : Zone} (he : tget s.fire.zones z = some e)
    (hne : e.state ≠ .fullAlarm) {f : Zone → Zone} (hf : ∀ k e, zoneLoaded (k, f e) = zoneLoaded (k, e)) :
    s0.Kept (onZone s z f) := by
  refine h.onZone hf fun e' he' hfull => absurd hfull ?_
  rw [he] at he'
  cases he'
  exact hne

theorem acknowledgeZone_kept (h : s0.Kept s) (z : Nat) : s0.Kept (acknowledgeZone z s).state := by
  refine zoneRequest_kept h z fun e he => ?_
  split
  · exact h.onZone (fun _ _ => rfl) fun _ _ => id
  · exact h

theorem cancelZone_kept (h : s0.Kept s) (z : Nat) : s0.Kept (cancelZone z s).state := by
  refine zoneRequest_kept h z fun e he => ?_
  split
  · exact h
  next hpre =>
    split
    · exact h
    · exact quietZone_kept h he (by simp_all) fun _ _ => rfl

theorem isolateZone_kept (h : s0.Kept s) (z : Nat) : s0.Kept (isolateZone z s).state := by
  refine zoneRequest_kept h z fun e he => ?_
  split
  next hquiet => exact quietZone_kept h he (by simp [hquiet]) fun _ _ => rfl
  next => exact h

theorem restoreZone_kept (h : s0.Kept s) (z : Nat) : s0.Kept (restoreZone z s).state := by
  refine zoneRequest_kept h z fun e he => ?_
  split
  · exact h
  next hiso => exact quietZone_kept h he (by simp_all) fun k e => by split <;> rfl

theorem evacuateResult_kept (h : s0.Kept s) (zones : ZoneSet) : s0.Kept (evacuateResult zones s).state := by
  have hbody : s0.Kept (evacuate zones s).state := by
    refine whenArmed_kept h ?_
    split
    · exact h
    · exact State.Kept.foldl (fun _ _ h => alarmZone_kept h _) _ h
  unfold evacuateResult
  dsimp only
  split <;> exact hbody

theorem silenceFlag_kept (h : s0.Kept s) (b : Bool) : s0.Kept (s.onFire fun u => { u with silence := b }) :=
  h.onFire ⟨rfl, fun _ => rfl, rfl, rfl, rfl, fun _ => id⟩

theorem silence_kept (h : s0.Kept s) : s0.Kept (silence s).state := by
  refine whenArmed_kept h ?_
  split
  · exact h
  · split
    · exact h
    · exact markFullZones_kept (overrideStops_kept (callSilence_kept (silenceFlag_kept h true)))

theorem resound_kept (h : s0.Kept s) : s0.Kept (resound s).state := by
  refine whenArmed_kept h ?_
  split
  · exact h
  · exact markFullZones_kept (fireOverride_kept (fireRings_kept (silenceFlag_kept h false)))

theorem raiseShutterResult_kept (h : s0.Kept s) (i : Nat) : s0.Kept (raiseShutterResult i s).state := by
  refine shutterRequest_kept h i fun e => ?_
  (repeat' split) <;> first | exact h | exact h.onShutter i fun _ => rfl

theorem retryShutter_kept (h : s0.Kept s) (i : Nat) (e : Shutter) : s0.Kept (retryShutter i e s) := by
  unfold retryShutter
  extract_lets s1
  have h1 : s0.Kept s1 := h.onShutter i fun _ => rfl
  split
  · exact h1.onShutter i Shutter.drop_loaded
  · split
    · exact h1.onShutter i fun e => Shutter.warn_loaded e _
    · exact h1.onShutter i Shutter.obstructCar_loaded
    · exact awaitEntered_kept (h1.onShutter i Shutter.await_loaded) i

theorem retryShutterResult_kept (h : s0.Kept s) (i : Nat) : s0.Kept (retryShutterResult i s).state := by
  refine shutterRequest_kept h i fun e => ?_
  split
  · exact h
  · split
    · exact h
    · split <;> [exact h; exact retryShutter_kept h i e]

theorem clearCallResult_kept (h : s0.Kept s) (push : Nat) : s0.Kept (clearCallResult push s).state := by
  refine whenArmed_kept h ?_
  split
  · exact removeCalls_kept h ..
  · split
    · exact h
    · split <;> [exact removeCalls_kept h ..; exact h]

theorem beginClosingResult_kept (h : s0.Kept s) : s0.Kept (beginClosingResult s).state := by
  refine whenArmed_kept h ?_
  split
  · exact h
  · split
    · exact h
    · split <;> [exact h; exact startClosing_kept h]

theorem abortClosingResult_kept (h : s0.Kept s) : s0.Kept (abortClosingResult s).state := by
  refine whenArmed_kept h ?_
  split <;> [exact h; exact abandonClosing_kept h]

theorem boardModeResult_kept (h : s0.Kept s) (m : Nat) : s0.Kept (boardModeResult m s).state := by
  have hset : s0.Kept (setBoardMode m s).state := by
    unfold setBoardMode
    split
    · exact h
    · split
      · exact h
      · split <;> [exact h; exact State.Kept.onBoard (h.onBoard _) _]
  unfold boardModeResult
  dsimp only
  split <;> exact hset

theorem readEntryResult_state (table index : Nat) (part : Option Nat) (s : State) :
    (readEntryResult table index part s).state = s := by
  unfold readEntryResult
  (repeat' split) <;> rfl

theorem readRecordResult_state (kind index part : Nat) (s : State) : (readRecordResult kind index part s).state = s := by
  unfold readRecordResult
  (repeat' split) <;> rfl

theorem clearFlags_kept (h : s0.Kept s) : s0.Kept (clearFlags s) := by
  unfold clearFlags
  exact lineSame_kept h rfl rfl rfl rfl

theorem setClockResult_kept (h : s0.Kept s) (second weekday : Nat) :
    s0.Kept (setClockResult second weekday s).state := by
  unfold setClockResult
  split
  · exact h
  · unfold accept markClosing
    dsimp only
    exact State.Kept.onAnn (h.onAnn _) _

/-- The requests whose bodies load a table, arm, disarm, reset a zone or release the chain. -/
def special : Instr → Bool
  | .writeEntry .. | .deleteEntry .. | .arm .. | .disarm .. | .resetZone .. | .releasePaternoster .. => true
  | _ => false

theorem requestBody_kept (h : s0.Kept s) {c : Instr} (hc : special c = false) : s0.Kept (requestBody c s).state := by
  cases c with
  | writeEntry | deleteEntry | arm | disarm | resetZone | releasePaternoster => cases hc
  | readStatus => exact clearFlags_kept h
  | readEntry => exact (readEntryResult_state ..).symm ▸ h
  | readRecord => exact (readRecordResult_state ..).symm ▸ h
  | setClock => exact setClockResult_kept h ..
  | acknowledgeZone => exact acknowledgeZone_kept h _
  | cancelZone => exact cancelZone_kept h _
  | isolateZone => exact isolateZone_kept h _
  | restoreZone => exact restoreZone_kept h _
  | evacuate => exact evacuateResult_kept h _
  | silence => exact silence_kept h
  | resound => exact resound_kept h
  | raiseShutter => exact raiseShutterResult_kept h _
  | retryShutter => exact retryShutterResult_kept h _
  | clearCall => exact clearCallResult_kept h _
  | beginClosing => exact beginClosingResult_kept h
  | abortClosing => exact abortClosingResult_kept h
  | boardMode => exact boardModeResult_kept h _
  | _ => exact h

/-! ## The special requests -/

/-- A finished write or deletion leaves the state as it was or the one given. -/
theorem checked_state_of {p : State → Prop} {s ok : State} (hs : p s) (hok : p ok) (l : List (Bool × Code)) :
    p (checked s l ok).state := by
  unfold checked
  split <;> [exact hs; exact hok]

theorem writeTable_kept_of_not_safety (h : s0.Kept s) {t : TableId} (ht : t.safety = false) (i : Nat) (d : List Byte) :
    s0.Kept (writeTable t i d s).state := by
  have hok : ∀ l ok, s0.Kept ok → s0.Kept (checked s l ok).state := fun l ok hok => checked_state_of h hok l
  cases t with
  | station | lineSettings | geometry | landing | detector | callPoint | zone | fireSettings | shutter => cases ht
  | push => exact hok _ _ (callSame_kept h rfl rfl)
  | pattern => exact hok _ _ (callSame_kept h rfl rfl)
  | ringer => exact hok _ _ (callSame_kept h rfl rfl)
  | boardLayout =>
    unfold writeTable writeCell
    dsimp only
    split <;> [exact h; exact hok _ _ (h.onBoard _)]
  | onTimes => exact hok _ _ (h.onBoard _)
  | day => exact hok _ _ (h.onAnn _)
  | closing =>
    unfold writeTable writeStep
    dsimp only
    split <;> [exact h; exact hok _ _ (h.onAnn _)]
  | chime =>
    unfold writeTable writeChime
    dsimp only
    split <;> exact hok _ _ (h.onAnn _)
  | amplifier => exact hok _ _ (h.onAnn _)

theorem deleteTable_kept_of_not_safety (h : s0.Kept s) {t : TableId} (ht : t.safety = false) (i : Nat) :
    s0.Kept (deleteTable t i s).state := by
  have hok : ∀ l ok, s0.Kept ok → s0.Kept (checked s l ok).state := fun l ok hok => checked_state_of h hok l
  cases t with
  | station | lineSettings | geometry | landing | detector | callPoint | zone | fireSettings | shutter => cases ht
  | push => exact hok _ _ (callSame_kept h rfl rfl)
  | pattern => exact hok _ _ (callSame_kept h rfl rfl)
  | ringer => exact hok _ _ (callSame_kept h rfl rfl)
  | boardLayout => unfold deleteTable accept; dsimp only; exact h.onBoard _
  | onTimes => exact hok _ _ (h.onBoard _)
  | day => unfold deleteTable accept; dsimp only; exact h.onAnn _
  | closing => exact hok _ _ (h.onAnn _)
  | chime => exact hok _ _ (h.onAnn _)
  | amplifier => exact hok _ _ (h.onAnn _)

/-- While ARMED only a table that is no safety table is written (R185). -/
theorem writeEntryResult_kept (h : s0.Kept s) (harmed : s.armed = true) (table index : Nat) (d : List Byte) :
    s0.Kept (writeEntryResult table index d s).state := by
  unfold writeEntryResult
  split
  · exact h
  · split
    · exact h
    next hsafe =>
      split
      · exact h
      · split
        · exact h
        · exact writeTable_kept_of_not_safety h (by simpa [harmed] using hsafe) index d

theorem deleteEntryResult_kept (h : s0.Kept s) (harmed : s.armed = true) (table index : Nat) :
    s0.Kept (deleteEntryResult table index s).state := by
  unfold deleteEntryResult
  split
  · exact h
  · split
    · exact h
    next hsafe =>
      split
      · exact h
      · split
        · exact h
        · exact deleteTable_kept_of_not_safety h (by simpa [harmed] using hsafe) index

theorem armResult_state_of_armed (harmed : s.armed = true) : (armResult s).state = s := by
  simp [armResult, harmed, refuse]

theorem armResult_state (s : State) : (armResult s).state = s ∨ (armResult s).state = armPart s := by
  unfold armResult
  split
  · exact .inl rfl
  · split <;> [exact .inl rfl; exact .inr rfl]

theorem disarmResult_state (s : State) : (disarmResult s).state = s ∨
    ((disarmResult s).state = disarmPart s ∧ tany s.fire.zones (fun z => z.state == .preAlarm || z.state == .fullAlarm) = false) := by
  unfold disarmResult whenArmed
  split
  · split
    · exact .inl rfl
    next hz => exact .inr ⟨rfl, by simpa using hz⟩
  · exact .inl rfl

theorem releaseResult_state (s : State) : (releaseResult s).state = s ∨ (releaseResult s).state = releaseChain s := by
  unfold releaseResult whenArmed
  (repeat' split) <;> first | exact .inl rfl | exact .inr rfl

/-- A Reset Zone keeps everything named, but for the zone that it returns to QUIET. -/
theorem resetZone_kept (z : Nat) (s : State) :
    s.Kept (resetZone z s).state ∨ (onZone s z Zone.quiet).Kept (resetZone z s).state := by
  unfold resetZone zoneRequest whenArmed
  split
  · split
    · exact .inl (.refl s)
    next e _ =>
      dsimp only
      split
      · exact .inl (.refl s)
      · split
        · exact .inl (.refl s)
        · exact .inr (alarmOver_kept (.refl _))
  · exact .inl (.refl s)

/-! ## The effect of a command -/

theorem executeRequest_kept {src tag : Byte} {code : Nat} {body : State → Result} (h : s0.Kept (body s).state) :
    s0.Kept (executeRequest src tag code body s) := by
  unfold executeRequest
  exact lineSame_kept h rfl rfl rfl rfl

/-- A request turned away keeps everything named; another leaves what its body leaves, with its reply. -/
theorem requestArrives_kept (src tag : Byte) (code : Nat) (body : State → Result) (s : State) :
    s.Kept (requestArrives src tag code body s) ∨
      (body (panelHeard src s)).state.Kept (requestArrives src tag code body s) := by
  unfold requestArrives
  split
  · dsimp only
    split
    · exact .inl (lineSame_kept (panelHeard_kept (.refl s) src) rfl rfl rfl rfl)
    · exact .inr (executeRequest_kept (.refl _))
  · exact .inl (.refl s)

/-- Every command keeps everything named, or leaves what the body of a special request leaves. -/
theorem effect_kept (c : Instr) (s : State) : s.Kept (effect c s) ∨
    special c = true ∧ ∃ src tag code, requestParts c = some (src, tag, code) ∧
      (requestBody c (panelHeard src s)).state.Kept (effect c s) := by
  unfold effect
  split
  next src tag code hc =>
    split
    · rcases requestArrives_kept src tag code (requestBody c) s with h | h
      · exact .inl h
      · cases hspecial : special c with
        | true => exact .inr ⟨rfl, src, tag, code, hc, h⟩
        | false => exact .inl ((requestBody_kept (panelHeard_kept (.refl s) src) hspecial).trans h)
    · exact .inl (.refl s)
  next => exact .inl (orderArrives_kept (.refl s) _ _)
  next => exact .inl (receiveB_kept (.refl s) _ _)
  next => exact .inl (moment_kept (.refl s) c)

/-- The state that a command other than the resets leaves. -/
theorem exec_eq_next {c : Instr} {s t : State} (hpower : c ≠ .powerOn) (hpin : c ≠ .resetPinReset)
    (h : exec c s = .next t) : t = settle s (effect c s) := by
  rw [exec_eq_finish hpower hpin] at h
  cases h
  rfl

end Sys2Proof.Machine
end

section
/-! SUPPORT. What every command keeps of the safety tables, LOCKED, FULL_ALARM, the part mode and the capacities, and
the three statements about it. -/

namespace Sys2Proof.Machine

variable {s t : State}

/-! ## The requests that act beyond this, while ARMED -/

/-- While ARMED every command but a Disarm, a Reset Zone and a Release keeps everything named, and these three keep it
from the state that their one change leaves. -/
theorem effect_kept_of_armed (harmed : s.armed = true) (c : Instr) :
    s.Kept (effect c s) ∨
    (∃ a b, c = .disarm a b ∧ (disarmPart (panelHeard a s)).Kept (effect c s) ∧
      tany s.fire.zones (fun z => z.state == .preAlarm || z.state == .fullAlarm) = false) ∨
    (∃ a b, c = .releasePaternoster a b ∧ (releaseChain (panelHeard a s)).Kept (effect c s)) ∨
    ∃ a b z, c = .resetZone a b z ∧ (onZone (panelHeard a s) z.toNat Zone.quiet).Kept (effect c s) := by
  rcases effect_kept c s with hkept | ⟨hspecial, src, tag, code, hc, hbody⟩
  · exact .inl hkept
  have hheard : s.Kept (panelHeard src s) := panelHeard_kept (.refl s) src
  have harmed' : (panelHeard src s).armed = true := by simp [harmed]
  generalize he : effect c s = t at hbody ⊢
  cases c with
  | writeEntry a b k i d =>
    cases hc
    exact .inl ((writeEntryResult_kept hheard harmed' ..).trans hbody)
  | deleteEntry a b k i =>
    cases hc
    exact .inl ((deleteEntryResult_kept hheard harmed' ..).trans hbody)
  | arm a b =>
    cases hc
    exact .inl (hheard.trans (armResult_state_of_armed harmed' ▸ hbody))
  | disarm a b =>
    cases hc
    change (disarmResult _).state.Kept t at hbody
    rcases disarmResult_state (panelHeard src s) with h | ⟨h, hz⟩
    · exact .inl (hheard.trans (h ▸ hbody))
    · exact .inr (.inl ⟨src, tag, rfl, h ▸ hbody, by simpa using hz⟩)
  | releasePaternoster a b =>
    cases hc
    change (releaseResult _).state.Kept t at hbody
    rcases releaseResult_state (panelHeard src s) with h | h
    · exact .inl (hheard.trans (h ▸ hbody))
    · exact .inr (.inr (.inl ⟨src, tag, rfl, h ▸ hbody⟩))
  | resetZone a b z =>
    cases hc
    change (resetZone z.toNat _).state.Kept t at hbody
    rcases resetZone_kept z.toNat (panelHeard src s) with h | h
    · exact .inl ((hheard.trans h).trans hbody)
    · exact .inr (.inr (.inr ⟨src, tag, z, rfl, h.trans hbody⟩))
  | _ => cases hspecial

/-! ## The safety tables -/

theorem State.Kept.safetyTables (h : s.Kept t) (hnodup : (s.fire.detectors.map Prod.fst).Nodup) :
    t.safetyTables = s.safetyTables :=
  SafetyTables.mk.injEq .. |>.mpr ⟨h.reg.stations, h.reg.settings, h.pat.geometry, h.pat.landings,
    h.fire.detectors hnodup, h.fire.callPoints, h.fire.zones, h.fire.settings, h.shut⟩

theorem settle_safetyTables (hnodup : (s.fire.detectors.map Prod.fst).Nodup) (b : State) :
    (settle b s).safetyTables = s.safetyTables := by
  obtain ⟨m, h⟩ := settle_kept (.refl s) b
  exact h.safetyTables hnodup

/-- A Disarm keeps the tables. -/
theorem disarmPart_safetyTables (s : State) : (disarmPart s).safetyTables = s.safetyTables :=
  SafetyTables.mk.injEq .. |>.mpr ⟨rfl, rfl, rfl, tmap_map_of_eq (fun _ _ => by rfl) _,
    tmap_map_of_eq (fun _ _ => by rfl) _, tmap_map_of_eq (fun _ _ => by rfl) _, tmap_map_of_eq (fun _ _ => by rfl) _,
    rfl, tmap_map_of_eq (fun _ _ => by rfl) _⟩

theorem releaseChain_safetyTables (s : State) : (releaseChain s).safetyTables = s.safetyTables := rfl

theorem quietZone_safetyTables (s : State) (z : Nat) : (onZone s z Zone.quiet).safetyTables = s.safetyTables :=
  SafetyTables.mk.injEq .. |>.mpr ⟨rfl, rfl, rfl, rfl, rfl, rfl, tmod_map_of_eq (fun _ _ => by rfl) _ _, rfl, rfl⟩

theorem disarmPart_indices (s : State) :
    (disarmPart s).fire.detectors.map Prod.fst = s.fire.detectors.map Prod.fst := tmap_map_fst ..

theorem tick_safetyTables (s : State) : (tick s).safetyTables = s.safetyTables :=
  SafetyTables.mk.injEq .. |>.mpr ⟨rfl, rfl, rfl, rfl, rfl, rfl, tmap_map_of_eq (fun _ _ => by rfl) _, rfl,
    tmap_map_of_eq (fun _ _ => by rfl) _⟩

theorem panelHeard_indices (src : Byte) (s : State) :
    (panelHeard src s).fire.detectors.map Prod.fst = s.fire.detectors.map Prod.fst :=
  (panelHeard_kept (.refl s) src).fire.indices

theorem panelHeard_safetyTables (hnodup : (s.fire.detectors.map Prod.fst).Nodup) (src : Byte) :
    (panelHeard src s).safetyTables = s.safetyTables :=
  (panelHeard_kept (.refl s) src).safetyTables hnodup

theorem effect_safetyTables (harmed : s.armed = true) (hnodup : (s.fire.detectors.map Prod.fst).Nodup) (c : Instr) :
    (effect c s).safetyTables = s.safetyTables ∧ ((effect c s).fire.detectors.map Prod.fst).Nodup := by
  have hheard := fun src => (panelHeard_indices src s).symm ▸ hnodup
  rcases effect_kept_of_armed harmed c with h | ⟨a, b, -, h, -⟩ | ⟨a, b, -, h⟩ | ⟨a, b, z, -, h⟩
  · exact ⟨h.safetyTables hnodup, h.fire.indices ▸ hnodup⟩
  · have hn := (disarmPart_indices (panelHeard a s)).symm ▸ hheard a
    exact ⟨by rw [h.safetyTables hn, disarmPart_safetyTables, panelHeard_safetyTables hnodup], h.fire.indices ▸ hn⟩
  · exact ⟨by rw [h.safetyTables (hheard a), releaseChain_safetyTables, panelHeard_safetyTables hnodup],
      h.fire.indices ▸ hheard a⟩
  · exact ⟨by rw [h.safetyTables (hheard a), quietZone_safetyTables, panelHeard_safetyTables hnodup],
      h.fire.indices ▸ hheard a⟩

/-- Settles O6: the operations of the part keep the loaded fields, and the table accesses that could change one are
refused while ARMED. -/
theorem safetyTablesFixedWhileArmed : Obligations.SafetyTablesFixedWhileArmed := by
  intro s harmed hnodup
  refine ⟨fun c t hpower hpin hexec => ?_, tick_safetyTables s⟩
  obtain ⟨heffect, hn⟩ := effect_safetyTables harmed hnodup c
  rw [exec_eq_next hpower hpin hexec, settle_safetyTables hn, heffect]

/-! ## The part mode, LOCKED and FULL_ALARM -/

/-- What a change of the tables leaves: a projection that reads neither the tables nor the panel timer. -/
structure TableBlind {β : Type} (p : State → β) (s : State) : Prop where
  onReg : ∀ t x n, p (s.onReg fun r => { r with stations := t, settings := x, panelTimer := n }) = p s
  onPat : ∀ f, p (s.onPat f) = p s
  onFire : ∀ f, p (s.onFire f) = p s
  onShut : ∀ f, p (s.onShut f) = p s
  onCall : ∀ f, p (s.onCall f) = p s
  onBoard : ∀ f, p (s.onBoard f) = p s
  onAnn : ∀ f, p (s.onAnn f) = p s

section
variable {β : Type} {p : State → β} (h : TableBlind p s)
include h

theorem writeTable_blind (k : TableId) (i : Nat) (d : List Byte) : p (writeTable k i d s).state = p s := by
  have hok : ∀ l ok, p ok = p s → p (checked s l ok).state = p s :=
    fun l ok hok => checked_state_of (p := fun u => p u = p s) rfl hok l
  cases k with
  | station => exact hok _ _ (h.onReg _ s.reg.settings s.reg.panelTimer)
  | lineSettings => exact hok _ _ (h.onReg s.reg.stations _ _)
  | geometry | landing => exact hok _ _ (h.onPat _)
  | detector | callPoint | zone | fireSettings => exact hok _ _ (h.onFire _)
  | shutter => exact hok _ _ (h.onShut _)
  | push | pattern | ringer => exact hok _ _ (h.onCall _)
  | boardLayout =>
    unfold writeTable writeCell
    dsimp only
    split <;> [rfl; exact hok _ _ (h.onBoard _)]
  | onTimes => exact hok _ _ (h.onBoard _)
  | day | amplifier => exact hok _ _ (h.onAnn _)
  | closing =>
    unfold writeTable writeStep
    dsimp only
    split <;> [rfl; exact hok _ _ (h.onAnn _)]
  | chime =>
    unfold writeTable writeChime
    dsimp only
    split <;> exact hok _ _ (h.onAnn _)

theorem deleteTable_blind (k : TableId) (i : Nat) : p (deleteTable k i s).state = p s := by
  have hok : ∀ l ok, p ok = p s → p (checked s l ok).state = p s :=
    fun l ok hok => checked_state_of (p := fun u => p u = p s) rfl hok l
  cases k with
  | station => exact hok _ _ (h.onReg _ s.reg.settings s.reg.panelTimer)
  | lineSettings => exact h.onReg s.reg.stations none none
  | geometry => exact h.onPat fun q => { q with geometry := none }
  | landing => exact hok _ _ (h.onPat _)
  | detector => exact h.onFire fun u => { u with detectors := tdel u.detectors i }
  | callPoint => exact h.onFire fun u => { u with callPoints := tdel u.callPoints i }
  | fireSettings => exact h.onFire fun u => { u with settings := none }
  | zone => exact hok _ _ (h.onFire _)
  | shutter => exact hok _ _ (h.onShut _)
  | push | pattern | ringer => exact hok _ _ (h.onCall _)
  | boardLayout => exact h.onBoard fun b => { b with layout := tdel b.layout i }
  | onTimes => exact hok _ _ (h.onBoard _)
  | day => exact h.onAnn fun u => { u with days := tdel u.days i }
  | closing | chime | amplifier => exact hok _ _ (h.onAnn _)

theorem writeEntryResult_blind (k i : Nat) (d : List Byte) : p (writeEntryResult k i d s).state = p s := by
  unfold writeEntryResult
  (repeat' split) <;> first | rfl | exact writeTable_blind h ..

theorem deleteEntryResult_blind (k i : Nat) : p (deleteEntryResult k i s).state = p s := by
  unfold deleteEntryResult
  (repeat' split) <;> first | rfl | exact deleteTable_blind h ..

end

theorem mgmt_blind (s : State) : TableBlind State.mgmt s :=
  ⟨fun _ _ _ => rfl, fun _ => rfl, fun _ => rfl, fun _ => rfl, fun _ => rfl, fun _ => rfl, fun _ => rfl⟩

/-- Only an Arm and a Disarm change the part mode, and no effect changes the start cause. -/
theorem effect_mode (c : Instr) (s : State) :
    (effect c s).mgmt.cause = s.mgmt.cause ∧
    ((effect c s).mgmt.mode = s.mgmt.mode ∨ ((∃ a b, c = .arm a b) ∧ (effect c s).mgmt.mode = .armed) ∨
      ((∃ a b, c = .disarm a b) ∧ (effect c s).mgmt.mode = .configuring)) := by
  rcases effect_kept c s with hkept | ⟨hspecial, src, tag, code, hc, hbody⟩
  · exact ⟨hkept.cause, .inl hkept.mode⟩
  rw [hbody.cause, hbody.mode]
  have hmode : (panelHeard src s).mgmt.mode = s.mgmt.mode := panelHeard_mode ..
  have hcause : (panelHeard src s).mgmt.cause = s.mgmt.cause := panelHeard_cause ..
  have hsame : ∀ r : Result, r.state.mgmt = (panelHeard src s).mgmt →
      r.state.mgmt.cause = s.mgmt.cause ∧ r.state.mgmt.mode = s.mgmt.mode :=
    fun r hr => hr ▸ ⟨hcause, hmode⟩
  cases c with
  | writeEntry a b k i d => exact (hsame _ (writeEntryResult_blind (mgmt_blind _) ..)).imp id .inl
  | deleteEntry a b k i => exact (hsame _ (deleteEntryResult_blind (mgmt_blind _) ..)).imp id .inl
  | arm a b =>
    change (armResult (panelHeard src s)).state.mgmt.cause = _ ∧ ((armResult (panelHeard src s)).state.mgmt.mode = _ ∨ _ ∨ _)
    rcases armResult_state (panelHeard src s) with h | h
    · rw [h]; exact ⟨hcause, .inl hmode⟩
    · rw [h]; exact ⟨hcause, .inr (.inl ⟨⟨a, b, rfl⟩, congrArg (fun u : State => u.mgmt.mode) h⟩)⟩
  | disarm a b =>
    change (disarmResult (panelHeard src s)).state.mgmt.cause = _ ∧ ((disarmResult (panelHeard src s)).state.mgmt.mode = _ ∨ _ ∨ _)
    rcases disarmResult_state (panelHeard src s) with h | ⟨h, -⟩
    · rw [h]; exact ⟨hcause, .inl hmode⟩
    · rw [h]; exact ⟨hcause, .inr (.inr ⟨⟨a, b, rfl⟩, congrArg (fun u : State => u.mgmt.mode) h⟩)⟩
  | releasePaternoster a b =>
    change (releaseResult (panelHeard src s)).state.mgmt.cause = _ ∧ ((releaseResult (panelHeard src s)).state.mgmt.mode = _ ∨ _)
    rcases releaseResult_state (panelHeard src s) with h | h <;> (rw [h]; exact ⟨hcause, .inl hmode⟩)
  | resetZone a b z =>
    change (resetZone z.toNat _).state.mgmt.cause = _ ∧ ((resetZone z.toNat _).state.mgmt.mode = _ ∨ _)
    rcases resetZone_kept z.toNat (panelHeard src s) with h | h <;>
      exact ⟨h.cause.trans hcause, .inl (h.mode.trans hmode)⟩
  | _ => cases hspecial

theorem State.Kept.full_of {z : Nat} {e : Zone} (h : s.Kept t) (he : tget s.fire.zones z = some e)
    (hfull : e.state = .fullAlarm) : ∃ f, tget t.fire.zones z = some f ∧ f.state = .fullAlarm := by
  have := h.fire.full z (by simp [he, hfull])
  simpa [Option.any_eq_true] using this

theorem tany_of_tget {α : Type} {t : Table α} {i : Nat} {e : α} {p : α → Bool} (h : tget t i = some e)
    (hp : p e = true) : tany t p = true :=
  List.any_eq_true.mpr ⟨(i, e), mem_of_tget h, hp⟩

/-- Settles O7: no operation of the part leaves LOCKED or FULL_ALARM or changes the mode but those named, and a Disarm
is refused while a zone is in FULL_ALARM. -/
theorem modeLockAndAlarmHold : Obligations.ModeLockAndAlarmHold := by
  constructor
  · intro c s t hexec
    by_cases hpower : c = .powerOn
    · subst hpower; cases hexec
      exact ⟨fun _ => .inl ⟨.inl rfl, rfl⟩, fun _ => .inl rfl⟩
    by_cases hpin : c = .resetPinReset
    · subst hpin; cases hexec
      exact ⟨fun _ => .inl ⟨.inr rfl, rfl⟩, fun _ => .inr rfl⟩
    obtain ⟨hcause, hmode⟩ := effect_mode c s
    rw [exec_eq_next hpower hpin hexec, (settle_keeps ..).1]
    exact ⟨fun hne => .inr (hmode.resolve_left hne), fun hne => absurd hcause hne⟩
  · intro c s t harmed hpower hpin hexec
    rw [exec_eq_next hpower hpin hexec]
    obtain ⟨m, hsettle⟩ := settle_kept (.refl (effect c s)) s
    have hpat := hsettle.pat.locked
    have hzone : ∀ z, (∃ f, tget (effect c s).fire.zones z = some f ∧ f.state = .fullAlarm) →
        ∃ f, tget (settle s (effect c s)).fire.zones z = some f ∧ f.state = .fullAlarm :=
      fun z ⟨f, hf, hfull⟩ => hsettle.full_of hf hfull
    have hheard : ∀ src, s.Kept (panelHeard src s) := panelHeard_kept (.refl s)
    rcases effect_kept_of_armed harmed c with h | ⟨a, b, rfl, h, hquiet⟩ | ⟨a, b, rfl, h⟩ | ⟨a, b, z, rfl, h⟩
    · exact ⟨fun hl hne => absurd (hpat (h.pat.locked hl)) hne, fun z e he hf _ => hzone z (h.full_of he hf)⟩
    · exact ⟨fun _ _ => .inr ⟨a, b, rfl⟩, fun z e he hf _ => by simp [tany_of_tget he, hf] at hquiet⟩
    · exact ⟨fun _ _ => .inl ⟨a, b, rfl⟩, fun z e he hf _ =>
        hzone z (h.full_of (by simpa [releaseChain] using he) hf)⟩
    · refine ⟨fun hl hne => absurd (hpat (h.pat.locked (by simpa using hl))) hne, fun y e he hf hy => hzone y ?_⟩
      obtain ⟨e', he', hf'⟩ := (hheard a).full_of he hf
      exact h.full_of (by simpa [onZone, hy a b z rfl] using he') hf'

end Sys2Proof.Machine
end

section
/-! SUPPORT. The capacities, call by call of a table access, and the statement that every step keeps them. -/

namespace Sys2Proof.Machine

variable {s t : State}

namespace State.Bounded

/-- The bounds read the FIFOs, the calls, the queue, the trip history and the detector table. -/
theorem congr (h : s.Bounded) (hline : t.line = s.line) (htrips : t.pat.trips = s.pat.trips)
    (hdet : t.fire.detectors = s.fire.detectors) (hcalls : t.call.calls = s.call.calls)
    (hqueue : t.call.queue = s.call.queue) : t.Bounded where
  orders := hline ▸ h.orders
  reports := hline ▸ h.reports
  orderRun := hline ▸ h.orderRun
  localRun := hline ▸ h.localRun
  calls := hcalls ▸ h.calls
  pushes := hcalls ▸ h.pushes
  queue := hqueue ▸ h.queue
  trips := htrips ▸ h.trips
  detectors := hdet ▸ h.detectors

theorem withDetectors (h : s.Bounded) {f : FireUnit → FireUnit}
    (hdet : (f s.fire).detectors.Pairwise (·.1 < ·.1)) : (s.onFire f).Bounded :=
  ⟨h.orders, h.reports, h.orderRun, h.localRun, h.calls, h.pushes, h.queue, h.trips, hdet⟩

end State.Bounded

/-! ## Rising order of index -/

section
variable {α : Type}

theorem pairwise_fst_iff {t : Table α} : t.Pairwise (·.1 < ·.1) ↔ (t.map Prod.fst).Pairwise (· < ·) :=
  List.pairwise_map.symm

theorem nodup_of_rising {t : Table α} (h : t.Pairwise (·.1 < ·.1)) : (t.map Prod.fst).Nodup :=
  (pairwise_fst_iff.mp h).imp fun hlt => Nat.ne_of_lt hlt

theorem mem_tput {t : Table α} {i : Nat} {v : α} {e : Nat × α} (h : e ∈ tput t i v) : e = (i, v) ∨ e ∈ t := by
  induction t with
  | nil => exact .inl (by simpa [tput] using h)
  | cons a t ih =>
    obtain ⟨k, w⟩ := a
    simp only [tput] at h
    split at h
    · simpa using h
    · split at h
      · rcases List.mem_cons.mp h with h | h
        · exact .inl h
        · exact .inr (List.mem_cons_of_mem _ h)
      · rcases List.mem_cons.mp h with h | h
        · exact .inr (h ▸ List.mem_cons_self)
        · exact (ih h).imp id (List.mem_cons_of_mem _)

/-- A write keeps the table in rising order of index. -/
theorem tput_rising {t : Table α} (h : t.Pairwise (·.1 < ·.1)) (i : Nat) (v : α) :
    (tput t i v).Pairwise (·.1 < ·.1) := by
  induction t with
  | nil => simp [tput]
  | cons a t ih =>
    obtain ⟨k, w⟩ := a
    obtain ⟨hhead, htail⟩ := List.pairwise_cons.mp h
    simp only [tput]
    split
    next hlt =>
      refine List.pairwise_cons.mpr ⟨fun e he => ?_, h⟩
      rcases List.mem_cons.mp he with rfl | he
      · exact hlt
      · exact Nat.lt_trans hlt (hhead e he)
    next hge =>
      split
      next heq => exact List.pairwise_cons.mpr ⟨fun e he => by subst heq; exact hhead e he, htail⟩
      next hne =>
        refine List.pairwise_cons.mpr ⟨fun e he => ?_, ih htail⟩
        rcases mem_tput he with rfl | he
        · change k < i
          omega
        · exact hhead e he

theorem tdel_sublist (t : Table α) (i : Nat) : (tdel t i).Sublist t := by
  induction t with
  | nil => exact .slnil
  | cons a t ih =>
    obtain ⟨k, w⟩ := a
    simp only [tdel]
    split <;> [exact ih.cons _; exact ih.cons_cons _]

theorem tdel_rising {t : Table α} (h : t.Pairwise (·.1 < ·.1)) (i : Nat) : (tdel t i).Pairwise (·.1 < ·.1) :=
  h.sublist (tdel_sublist t i)

end

/-! ## The commands -/

theorem State.Bounded.line_of (h : s.Bounded) : s.line.Bounded := ⟨h.orders, h.reports, h.orderRun, h.localRun⟩
theorem State.Bounded.call_of (h : s.Bounded) : s.call.Bounded := ⟨h.calls, h.pushes, h.queue⟩

theorem State.Kept.bounded (h : s.Kept t) (hb : s.Bounded) : t.Bounded := by
  obtain ⟨horders, hreports, horderRun, hlocalRun⟩ := h.line hb.line_of
  obtain ⟨hcalls, hpushes, hqueue⟩ := h.call.bounded hb.call_of
  exact ⟨horders, hreports, horderRun, hlocalRun, hcalls, hpushes, hqueue, h.pat.trips hb.trips,
    pairwise_fst_iff.mpr (h.fire.indices ▸ pairwise_fst_iff.mp hb.detectors)⟩

theorem settle_bounded (hb : s.Bounded) (b : State) : (settle b s).Bounded := by
  obtain ⟨m, h⟩ := settle_kept (.refl s) b
  exact (h.bounded hb).congr rfl rfl rfl rfl rfl

theorem writeTable_bounded (hb : s.Bounded) (k : TableId) (i : Nat) (d : List Byte) :
    (writeTable k i d s).state.Bounded := by
  have hok : ∀ l ok, ok.Bounded → (checked s l ok).state.Bounded := fun l ok hok => checked_state_of hb hok l
  have hsame : ∀ t : State, t.line = s.line → t.pat.trips = s.pat.trips → t.fire.detectors = s.fire.detectors →
      t.call.calls = s.call.calls → t.call.queue = s.call.queue → t.Bounded := fun t => hb.congr
  cases k with
  | detector => exact hok _ _ (hb.withDetectors (tput_rising hb.detectors _ _))
  | boardLayout =>
    change (writeCell i d s).state.Bounded
    unfold writeCell
    split <;> [exact hb; exact hok _ _ (hsame _ rfl rfl rfl rfl rfl)]
  | closing =>
    change (writeStep i d s).state.Bounded
    unfold writeStep
    dsimp only
    split <;> [exact hb; exact hok _ _ (hsame _ rfl rfl rfl rfl rfl)]
  | chime =>
    change (writeChime i d s).state.Bounded
    unfold writeChime
    dsimp only
    split <;> exact hok _ _ (hsame _ rfl rfl rfl rfl rfl)
  | _ => exact hok _ _ (hsame _ rfl rfl rfl rfl rfl)

theorem deleteTable_bounded (hb : s.Bounded) (k : TableId) (i : Nat) : (deleteTable k i s).state.Bounded := by
  have hok : ∀ l ok, ok.Bounded → (checked s l ok).state.Bounded := fun l ok hok => checked_state_of hb hok l
  have hsame : ∀ t : State, t.line = s.line → t.pat.trips = s.pat.trips → t.fire.detectors = s.fire.detectors →
      t.call.calls = s.call.calls → t.call.queue = s.call.queue → t.Bounded := fun t => hb.congr
  cases k with
  | detector =>
    exact hb.withDetectors (f := fun u => { u with detectors := tdel u.detectors i }) (tdel_rising hb.detectors i)
  | lineSettings | geometry | callPoint | fireSettings | boardLayout | day => exact hsame _ rfl rfl rfl rfl rfl
  | _ => exact hok _ _ (hsame _ rfl rfl rfl rfl rfl)

theorem rearmed_bounded (hb : s.Bounded) (hline : t.line = s.line) (htrips : t.pat.trips = [])
    (hdet : t.fire.detectors.map Prod.fst = s.fire.detectors.map Prod.fst) (hcalls : t.call.calls = [])
    (hqueue : t.call.queue = []) : t.Bounded where
  orders := hline ▸ hb.orders
  reports := hline ▸ hb.reports
  orderRun := hline ▸ hb.orderRun
  localRun := hline ▸ hb.localRun
  calls := by simp [hcalls]
  pushes := by simp [hcalls]
  queue := by simp [hqueue]
  trips := by simp [htrips]
  detectors := pairwise_fst_iff.mpr (hdet ▸ pairwise_fst_iff.mp hb.detectors)

theorem armPart_bounded (hb : s.Bounded) : (armPart s).Bounded := by
  refine rearmed_bounded hb rfl rfl ?_ rfl rfl
  exact tmap_map_fst s.fire.detectors fun _ d => d.rearm (s.missing d.station)

theorem disarmPart_bounded (hb : s.Bounded) : (disarmPart s).Bounded :=
  rearmed_bounded hb rfl rfl (disarmPart_indices s) rfl rfl

theorem releaseChain_bounded (hb : s.Bounded) : (releaseChain s).Bounded :=
  ⟨hb.orders, hb.reports, hb.orderRun, hb.localRun, hb.calls, hb.pushes, hb.queue, Nat.zero_le _, hb.detectors⟩

theorem requestBody_bounded (hb : s.Bounded) (c : Instr) : (requestBody c s).state.Bounded := by
  cases hspecial : special c with
  | false => exact (requestBody_kept (.refl s) hspecial).bounded hb
  | true =>
    cases c with
    | writeEntry a b k i d =>
      change (writeEntryResult _ _ d s).state.Bounded
      unfold writeEntryResult
      (repeat' split) <;> first | exact hb | exact writeTable_bounded hb ..
    | deleteEntry a b k i =>
      change (deleteEntryResult _ _ s).state.Bounded
      unfold deleteEntryResult
      (repeat' split) <;> first | exact hb | exact deleteTable_bounded hb ..
    | arm => exact (armResult_state s).elim (fun h => h.symm ▸ hb) fun h => h.symm ▸ armPart_bounded hb
    | disarm => exact (disarmResult_state s).elim (fun h => h.symm ▸ hb) fun h => h.1.symm ▸ disarmPart_bounded hb
    | releasePaternoster =>
      exact (releaseResult_state s).elim (fun h => h.symm ▸ hb) fun h => h.symm ▸ releaseChain_bounded hb
    | resetZone a b z =>
      rcases resetZone_kept z.toNat s with h | h
      · exact h.bounded hb
      · exact h.bounded (hb.congr rfl rfl rfl rfl rfl)
    | _ => cases hspecial

theorem effect_bounded (hb : s.Bounded) (c : Instr) : (effect c s).Bounded := by
  rcases effect_kept c s with hkept | ⟨-, src, tag, code, -, hbody⟩
  · exact hkept.bounded hb
  · exact hbody.bounded (requestBody_bounded ((panelHeard_kept (.refl s) src).bounded hb) c)

theorem afresh_bounded (cause : StartCause) (queue : List Instr) :
    ({ State.afresh cause with pending := queue } : State).Bounded :=
  ⟨Nat.zero_le _, Nat.zero_le _, Nat.zero_le _, Nat.zero_le _, Nat.zero_le _, .nil, Nat.zero_le _, Nat.zero_le _, .nil⟩

theorem exec_bounded {c : Instr} (hb : s.Bounded) (h : exec c s = .next t) : t.Bounded := by
  by_cases hpower : c = .powerOn
  · subst hpower; cases h; exact afresh_bounded ..
  by_cases hpin : c = .resetPinReset
  · subst hpin; cases h; exact afresh_bounded ..
  exact exec_eq_next hpower hpin h ▸ settle_bounded (effect_bounded hb c) s

/-- The passing of time changes no collection; it counts the window of an outstanding poll. -/
theorem tick_bounded (hb : s.Bounded) : (tick s).Bounded :=
  ⟨hb.orders, hb.reports, hb.orderRun, hb.localRun, hb.calls, hb.pushes, hb.queue, hb.trips, hb.detectors⟩

/-- A property that every command and the passing of time keep, and that does not read the command queue, is kept by
every step. -/
theorem step_keeps {p : State → Prop} (hexec : ∀ c s t, p s → exec c s = .next t → p t)
    (htick : ∀ s, p s → p (tick s)) (hpending : ∀ s rest, p s → p { s with pending := rest })
    (hs : p s) (h : step s = .next t) : p t := by
  unfold step at h
  split at h
  · exact hexec _ _ _ (hpending s _ hs) h
  · split at h
    · exact hexec _ _ _ hs h
    · cases h; exact htick s hs

/-- Settles O5: the operations of the part keep the capacities, a table access keeps the detector table in rising
order, and Arm and Disarm empty the call list and the queue. -/
theorem boundsKept : Obligations.BoundsKept := fun _ _ =>
  step_keeps (p := State.Bounded) (fun _ _ _ => exec_bounded) (fun _ => tick_bounded)
    fun _ _ hb => hb.congr rfl rfl rfl rfl rfl

end Sys2Proof.Machine
end

section
/-! SUPPORT. What commands do to the two ports, which pending marks they leave, and how the lamp image and the call
states follow the records. -/

namespace Sys2Proof.Machine

variable {s t : State}

/-! ## The ports -/

/-- No command's effect but a completed transmission changes what Port A sends, and none but the end of the event
begins an order's transmission on Port B. -/
structure LineUnit.PortsKept (a b : LineUnit) : Prop where
  portA : b.portA = a.portA
  portB : ∀ o, b.portB = .sending o → a.portB = .sending o

@[refl] theorem LineUnit.PortsKept.refl (a : LineUnit) : a.PortsKept a := ⟨rfl, fun _ => id⟩

theorem LineUnit.PortsKept.trans {a b c : LineUnit} (h : a.PortsKept b) (h' : b.PortsKept c) : a.PortsKept c :=
  ⟨h'.portA.trans h.portA, fun o ho => h.portB o (h'.portB o ho)⟩

theorem portsKept_of_eq (h : t.line = s.line) : s.line.PortsKept t.line := h ▸ .refl _

theorem forwardReport_ports (h : Hdr) (r : Report) (s : State) : s.line.PortsKept (forwardReport h r s).line := by
  unfold forwardReport
  split
  · rfl
  · dsimp only [State.onLine]
    split <;> exact ⟨rfl, fun _ => id⟩

theorem freePortB_ports (s : State) : s.line.PortsKept (freePortB s).line := ⟨rfl, fun _ h => by cases h⟩

theorem outstandingMissed_ports (s : State) : s.line.PortsKept (outstandingMissed s).line := by
  unfold outstandingMissed
  split
  · exact (freePortB_ports s).trans (portsKept_of_eq (by simp))
  · rfl

theorem strangerArrives_ports (h : Hdr) (r : Option Report) (s : State) :
    s.line.PortsKept (strangerArrives h r s).line := by
  have hnoted : s.line.PortsKept (s.onLine fun l => { l with stranger := some h.src.toNat }).line := ⟨rfl, fun _ => id⟩
  unfold strangerArrives
  dsimp only
  split
  · exact hnoted
  · split
    · rfl
    · split
      · exact hnoted
      · exact hnoted.trans (forwardReport_ports ..)

theorem frameDuringPoll_ports (polled : Nat) (h : Hdr) (r : Option Report) (s : State) :
    s.line.PortsKept (frameDuringPoll polled h r s).line := by
  have hmissed : s.line.PortsKept (pollMissed polled s).line := portsKept_of_eq (by simp)
  unfold frameDuringPoll
  dsimp only
  split
  · exact hmissed.trans (strangerArrives_ports ..)
  · split
    · exact hmissed
    · split
      · exact hmissed
      · split
        · exact (portsKept_of_eq (by simp)).trans (forwardReport_ports ..)
        · split
          · exact (portsKept_of_eq (by simp)).trans (forwardReport_ports ..)
          · exact hmissed

theorem receiveB_ports (h : Hdr) (r : Option Report) (s : State) : s.line.PortsKept (receiveB h r s).line := by
  unfold receiveB
  split
  · split
    · exact outstandingMissed_ports s
    · exact (freePortB_ports s).trans (frameDuringPoll_ports ..)
  · rfl

theorem passOrder_ports (o : Order) (s : State) : s.line.PortsKept (passOrder o s).line := by
  unfold passOrder
  split
  · dsimp only
    split
    · exact ⟨by simp, fun _ h => by simpa using h⟩
    · exact ⟨rfl, fun _ => id⟩
  · exact ⟨rfl, fun _ => id⟩

theorem orderArrives_ports (h : Hdr) (b : OrderBody) (s : State) : s.line.PortsKept (orderArrives h b s).line := by
  have hheard : s.line.PortsKept (panelHeard h.src s).line := portsKept_of_eq (by simp)
  unfold orderArrives
  split
  · rfl
  · split
    · dsimp only
      split
      · refine hheard.trans ?_
        unfold filterOrder
        split
        · exact passOrder_ports ..
        · exact ⟨rfl, fun _ => id⟩
        · exact portsKept_of_eq (by simp)
      · exact hheard
    · rfl

theorem moment_ports {c : Instr} (hc : c ≠ .portATransmissionComplete) (s : State) :
    s.line.PortsKept (moment c s).line := by
  cases c with
  | portATransmissionComplete => exact absurd rfl hc
  | garbledFrame | unusableFrame | answerWindowExpiry => exact outstandingMissed_ports s
  | portAFrameDropped frame =>
    change s.line.PortsKept (droppedOnA frame s).line
    unfold droppedOnA
    refine portsKept_of_eq ?_
    (repeat' split) <;> simp
  | orderTransmissionComplete =>
    change s.line.PortsKept (orderSent s).line
    unfold orderSent
    split <;> [exact freePortB_ports s; rfl]
  | pollTransmissionComplete =>
    change s.line.PortsKept (pollSent s).line
    unfold pollSent
    split <;> [exact ⟨rfl, fun _ h => by cases h⟩; rfl]
  | _ => exact portsKept_of_eq (by simp [moment])

/-! ### Requests -/

theorem line_blind (s : State) : TableBlind State.line s :=
  ⟨fun _ _ _ => rfl, fun _ => rfl, fun _ => rfl, fun _ => rfl, fun _ => rfl, fun _ => rfl, fun _ => rfl⟩

theorem whenArmed_state_of {p : State → Prop} (hs : p s) {r : Result} (hr : p r.state) : p (whenArmed s r).state := by
  unfold whenArmed
  split <;> [exact hr; exact hs]

theorem zoneRequest_state_of {p : State → Prop} (hs : p s) {z : Nat} {f : Zone → Result} (hf : ∀ e, p (f e).state) :
    p (zoneRequest z s f).state := by
  refine whenArmed_state_of hs ?_
  split <;> [exact hs; exact hf _]

theorem shutterRequest_state_of {p : State → Prop} (hs : p s) {i : Nat} {f : Shutter → Result}
    (hf : ∀ e, p (f e).state) : p (shutterRequest i s f).state := by
  refine whenArmed_state_of hs ?_
  split <;> [exact hs; exact hf _]

theorem retryShutter_line (i : Nat) (e : Shutter) (s : State) : (retryShutter i e s).line = s.line := by
  unfold retryShutter
  dsimp only
  (repeat' split) <;> simp

theorem setBoardMode_line (m : Nat) (s : State) : (setBoardMode m s).state.line = s.line := by
  unfold setBoardMode refuse accept
  (repeat' split) <;> simp

theorem evacuate_line (zones : ZoneSet) (s : State) : (evacuate zones s).state.line = s.line := by
  unfold evacuate whenArmed refuse accept
  (repeat' split) <;> simp

/-- No request's body but a Read Status changes the Line Unit. -/
theorem requestBody_line {c : Instr} (hc : ∀ a b, c ≠ .readStatus a b) (s : State) :
    (requestBody c s).state.line = s.line := by
  cases c with
  | readStatus a b => exact absurd rfl (hc a b)
  | readEntry => exact congrArg State.line (readEntryResult_state ..)
  | readRecord => exact congrArg State.line (readRecordResult_state ..)
  | writeEntry => exact writeEntryResult_blind (line_blind s) ..
  | deleteEntry => exact deleteEntryResult_blind (line_blind s) ..
  | arm => exact (armResult_state s).elim (congrArg State.line) (congrArg State.line)
  | disarm => exact (disarmResult_state s).elim (congrArg State.line) fun h => (congrArg State.line h.1).trans rfl
  | releasePaternoster => exact (releaseResult_state s).elim (congrArg State.line) (congrArg State.line)
  | setClock =>
    change (setClockResult _ _ s).state.line = s.line
    unfold setClockResult refuse accept
    split <;> simp
  | acknowledgeZone | isolateZone | restoreZone =>
    refine zoneRequest_state_of (p := fun u => u.line = s.line) rfl fun e => ?_
    split <;> rfl
  | cancelZone =>
    refine zoneRequest_state_of (p := fun u => u.line = s.line) rfl fun e => ?_
    (repeat' split) <;> rfl
  | resetZone =>
    refine zoneRequest_state_of (p := fun u => u.line = s.line) rfl fun e => ?_
    (repeat' split) <;> simp [accept, refuse]
  | evacuate a b zones =>
    change (evacuateResult zones s).state.line = s.line
    unfold evacuateResult
    dsimp only
    split <;> exact evacuate_line zones s
  | silence =>
    refine whenArmed_state_of (p := fun u => u.line = s.line) rfl ?_
    (repeat' split) <;> simp [accept, refuse]
  | resound =>
    refine whenArmed_state_of (p := fun u => u.line = s.line) rfl ?_
    (repeat' split) <;> simp [accept, refuse]
  | raiseShutter =>
    refine shutterRequest_state_of (p := fun u => u.line = s.line) rfl fun e => ?_
    (repeat' split) <;> rfl
  | retryShutter =>
    refine shutterRequest_state_of (p := fun u => u.line = s.line) rfl fun e => ?_
    (repeat' split) <;> simp [accept, refuse, retryShutter_line]
  | clearCall =>
    refine whenArmed_state_of (p := fun u => u.line = s.line) rfl ?_
    (repeat' split) <;> simp [accept, refuse]
  | beginClosing =>
    refine whenArmed_state_of (p := fun u => u.line = s.line) rfl ?_
    (repeat' split) <;> simp [accept, refuse]
  | abortClosing =>
    refine whenArmed_state_of (p := fun u => u.line = s.line) rfl ?_
    (repeat' split) <;> simp [accept, refuse]
  | boardMode a b m =>
    change (boardModeResult _ s).state.line = s.line
    unfold boardModeResult
    dsimp only
    split <;> exact setBoardMode_line _ s
  | _ => rfl

theorem requestBody_ports (c : Instr) (s : State) : s.line.PortsKept (requestBody c s).state.line := by
  by_cases h : ∃ a b, c = .readStatus a b
  · obtain ⟨a, b, rfl⟩ := h
    exact ⟨rfl, fun _ => id⟩
  · exact portsKept_of_eq (requestBody_line (fun a b hc => h ⟨a, b, hc⟩) s)

theorem effect_ports {c : Instr} (hc : c ≠ .portATransmissionComplete) (s : State) :
    s.line.PortsKept (effect c s).line := by
  unfold effect
  split
  · split
    · unfold requestArrives
      split
      · have hheard : ∀ src, s.line.PortsKept (panelHeard src s).line := fun src => portsKept_of_eq (by simp)
        dsimp only
        split
        · exact (hheard _).trans ⟨rfl, fun _ => id⟩
        · exact ((hheard _).trans (requestBody_ports c _)).trans ⟨rfl, fun _ => id⟩
      · rfl
    · rfl
  · exact orderArrives_ports ..
  · exact receiveB_ports ..
  · exact moment_ports hc s

end Sys2Proof.Machine
end

section
/-! SUPPORT. How the lamp image and the call states follow the records, which marks an event leaves, and the statement
about both. -/

namespace Sys2Proof.Machine

variable {s t : State}

/-! ## What the lamp image reads -/

/-- Two states that agree in all that the lamp image reads have the same image (R124 to R126). -/
theorem imageOf_congr (hlayout : t.board.layout = s.board.layout) (hcalls : t.call.calls = s.call.calls)
    (hfull : t.call.listFull = s.call.listFull)
    (hzones : ∀ i, (tget t.fire.zones i).map (fun z => (z.state, z.fault)) =
      (tget s.fire.zones i).map fun z => (z.state, z.fault))
    (hshut : ∀ i, (tget t.shut i).map (fun e => e.state) = (tget s.shut i).map fun e => e.state)
    (hpat : t.pat.state = s.pat.state) (hlost : t.reg.panelLost = s.reg.panelLost)
    (hstations : tany t.reg.stations (fun e => e.presence == .missing) =
      tany s.reg.stations fun e => e.presence == .missing)
    (hclosing : t.ann.closing = s.ann.closing) : imageOf t = imageOf s := by
  have hzone : ∀ i, zoneMode t i = zoneMode s i := by
    intro i
    have := hzones i
    unfold zoneMode
    cases ht : tget t.fire.zones i <;> cases hs : tget s.fire.zones i <;> simp_all
  have hshutter : ∀ i, shutterMode t i = shutterMode s i := by
    intro i
    have := hshut i
    unfold shutterMode
    cases ht : tget t.shut i <;> cases hs : tget s.shut i <;> simp_all
  have hfixed : ∀ f, fixedHolds t f = fixedHolds s f := by
    intro f
    cases f with
    | paternosterLocked => simp only [fixedHolds, hpat]
    | listFull => exact hfull
    | panelLost => exact hlost
    | stationMissing => exact hstations
    | closing => simp only [fixedHolds, hclosing]
  have hassigned : ∀ a, assignedMode t a = assignedMode s a := by
    intro a
    cases a with
    | none => rfl
    | push i => simp only [assignedMode, pushMode, hcalls]
    | zone i => exact hzone i
    | shutter i => exact hshutter i
    | fixed f => simp only [assignedMode, hfixed]
  unfold imageOf
  refine List.map_congr_left fun k _ => ?_
  unfold cellMode
  rw [hlayout]
  split <;> [rfl; exact hassigned _]

/-- What reads the records alone agrees on states of the same records. -/
theorem eq_of_records {β : Type} {p : State → β} (hp : ∀ u : State, p u.records = p u) (h : t.records = s.records) :
    p t = p s := by
  rw [← hp t, h, hp s]

/-- The image depends on the records and the calls alone. -/
theorem imageOf_of_records (h : t.records = s.records) (hcalls : t.call.calls = s.call.calls) :
    imageOf t = imageOf s := by
  have hzones : ∀ i, (tget t.records.fire.zones i).map (fun z => (z.state, z.fault)) =
      (tget s.records.fire.zones i).map fun z => (z.state, z.fault) := fun i => by rw [h]
  have hshut : ∀ i, (tget t.records.shut i).map (fun e => e.state) =
      (tget s.records.shut i).map fun e => e.state := fun i => by rw [h]
  have hstations : tany t.records.reg.stations (fun e => e.presence == .missing) =
      tany s.records.reg.stations fun e => e.presence == .missing := by rw [h]
  refine imageOf_congr (eq_of_records (p := fun u => u.board.layout) (fun _ => rfl) h) hcalls
    (eq_of_records (p := fun u => u.call.listFull) (fun _ => rfl) h) (fun i => ?_) (fun i => ?_)
    (eq_of_records (p := fun u => u.pat.state) (fun _ => rfl) h) (eq_of_records (p := fun u => u.reg.panelLost) (fun _ => rfl) h) ?_
    (eq_of_records (p := fun u => u.ann.closing) (fun _ => rfl) h)
  · simpa [State.records, Function.comp_def] using hzones i
  · simpa [State.records, Function.comp_def] using hshut i
  · simpa [State.records] using hstations

/-! ## The end of an event -/

/-- The state once the records have their marks and the lamp image follows them, before a waiting board wakes and the
Port A arbiter decides. -/
def marked (b s : State) : State :=
  refreshImage (markChanges b ((arbiterB 128 s).onCall CallUnit.refresh))

theorem settle_eq (b s : State) : settle b s = arbiterA ((marked b s).onBoard
    (Board.wake ((marked b s).board.image != b.board.image || (marked b s).board.lit != b.board.lit))) := rfl

@[simp] theorem startScan_image (b : Board) : b.startScan.image = b.image := by
  unfold Board.startScan
  split
  · rfl
  · dsimp only
    split <;> rfl

@[simp] theorem wake_image (c : Bool) (b : Board) : (b.wake c).image = b.image := by
  unfold Board.wake
  split <;> simp

theorem takeNotice_shown {f : Frame} (h : takeNotice s = some (f, t)) :
    t.call.calls = s.call.calls ∧ t.board.image = s.board.image := by
  unfold takeNotice at h
  (repeat' split at h) <;> first
    | (cases h; done)
    | (cases h; exact ⟨rfl, rfl⟩)

/-- The Port A arbiter changes neither the calls nor the lamp image. -/
theorem arbiterA_shown (s : State) :
    (arbiterA s).call.calls = s.call.calls ∧ (arbiterA s).board.image = s.board.image := by
  have hlocal : ∀ t, takeLocal s = some t → t.call.calls = s.call.calls ∧ t.board.image = s.board.image := by
    intro t h
    unfold takeLocal at h
    dsimp only at h
    split at h
    · cases h; exact ⟨rfl, rfl⟩
    · obtain ⟨⟨f, u⟩, hu, rfl⟩ := Option.map_eq_some_iff.mp h
      exact takeNotice_shown (f := f) (t := u) hu
  unfold arbiterA
  split
  · exact ⟨rfl, rfl⟩
  · split
    · cases h : takeLocal s with
      | none => exact ⟨rfl, rfl⟩
      | some t => exact hlocal t h
    · split
      · exact ⟨rfl, rfl⟩
      · split
        next t h => exact hlocal t h
        next => exact ⟨rfl, rfl⟩

theorem marked_imageInStep (b s : State) : (marked b s).imageInStep := by
  show _ = imageOf (marked b s)
  exact (imageOf_of_records rfl rfl).symm

theorem settle_imageInStep (b s : State) : (settle b s).imageInStep := by
  rw [settle_eq]
  obtain ⟨hcalls, himage⟩ := arbiterA_shown ((marked b s).onBoard
    (Board.wake ((marked b s).board.image != b.board.image || (marked b s).board.lit != b.board.lit)))
  unfold State.imageInStep
  rw [himage, imageOf_of_records ((arbiterA_records _).trans (wake_records _ _)) hcalls, State.onBoard_board, wake_image]
  exact marked_imageInStep b s

/-- The calls' states depend on the calls, the queue and the level alone (R100). -/
theorem callsInStep_congr (hcalls : t.call.calls = s.call.calls) (hqueue : t.call.queue = s.call.queue)
    (hlevel : t.call.level = s.call.level) (h : s.callsInStep) : t.callsInStep := by
  intro c hc
  rw [hcalls] at hc
  rw [h c hc]
  unfold CallUnit.stateOf
  rw [hqueue, hlevel]

theorem refresh_callsInStep (s : State) : (s.onCall CallUnit.refresh).callsInStep := by
  intro c hc
  obtain ⟨d, -, rfl⟩ := List.mem_map.mp hc
  rfl

theorem settle_callsInStep (b s : State) : (settle b s).callsInStep := by
  have hrec := (settle_records b s).trans (refresh_records (arbiterB 128 s)).symm
  rw [settle_eq] at hrec ⊢
  refine callsInStep_congr (s := (arbiterB 128 s).onCall CallUnit.refresh) (arbiterA_shown _).1 (eq_of_records (p := fun u => u.call.queue) (fun _ => rfl) hrec) ?_
    (refresh_callsInStep (arbiterB 128 s))
  exact eq_of_records (p := fun u => u.call.level) (fun _ => rfl) hrec

theorem tick_imageInStep (h : s.imageInStep) : (tick s).imageInStep := by
  refine Eq.trans h (imageOf_congr (t := tick s) (s := s) rfl rfl rfl (fun i => ?_) (fun i => ?_) rfl rfl rfl rfl).symm
  · simp [tick, Function.comp_def]
  · simp [tick, Function.comp_def]

theorem afresh_inStep (cause : StartCause) (queue : List Instr) :
    ({ State.afresh cause with pending := queue } : State).imageInStep ∧
      ({ State.afresh cause with pending := queue } : State).callsInStep :=
  ⟨Eq.trans (b := imageOf (State.afresh cause)) (by cases cause <;> exact resetMeetsInvariants.1)
    (imageOf_of_records rfl rfl).symm, fun c hc => absurd hc (List.not_mem_nil)⟩

theorem exec_inStep {c : Instr} (h : exec c s = .next t) : t.imageInStep ∧ t.callsInStep := by
  by_cases hpower : c = .powerOn
  · subst hpower; cases h; exact afresh_inStep ..
  by_cases hpin : c = .resetPinReset
  · subst hpin; cases h; exact afresh_inStep ..
  rw [exec_eq_next hpower hpin h]
  exact ⟨settle_imageInStep s _, settle_callsInStep s _⟩

theorem step_inStep (himage : s.imageInStep) (hcalls : s.callsInStep) (h : step s = .next t) :
    t.imageInStep ∧ t.callsInStep :=
  step_keeps (p := fun u => u.imageInStep ∧ u.callsInStep) (fun _ _ _ _ => exec_inStep)
    (fun _ hu => ⟨tick_imageInStep hu.1, hu.2⟩) (fun _ _ hu => hu) ⟨himage, hcalls⟩ h

/-! ## The marks an event leaves while Port A is busy -/

theorem arbiterA_busy (h : s.line.portA.isSome = true) : arbiterA s = s := by
  obtain ⟨f, hf⟩ := Option.isSome_iff_exists.mp h
  simp [arbiterA, hf]

theorem arbiterB_portA (n : Nat) (s : State) : (arbiterB n s).line.portA = s.line.portA :=
  congrArg (fun l => l.2.2.1) (arbiterB_portASide n s)

/-- While Port A is busy, an event ends with the records marked and a waiting board awake. -/
theorem settle_of_busy (h : s.line.portA.isSome = true) (b : State) :
    ∃ w, settle b s = (marked b s).onBoard (Board.wake w) := by
  have hbusy : (marked b s).line.portA.isSome = true := by
    change (arbiterB 128 s).line.portA.isSome = true
    rw [arbiterB_portA, h]
  exact ⟨_, (settle_eq b s).trans (arbiterA_busy hbusy)⟩

/-! ### What each unit's change marks -/

theorem mark_of_patChanged {p q : Paternoster} (h : (q.mark || patChanged p q) = false) :
    (p.state, p.causes, p.fireStop, p.removed, p.revs, p.remembered, p.stop.bind fun r => r.target,
      p.chain.motion, p.chain.fault) =
    (q.state, q.causes, q.fireStop, q.removed, q.revs, q.remembered, q.stop.bind fun r => r.target,
      q.chain.motion, q.chain.fault) ∧ landingChanged p.landings q.landings = false := by
  simp only [patChanged, Bool.or_eq_false_iff, bne_eq_false_iff_eq] at h
  obtain ⟨-, ⟨⟨⟨⟨⟨⟨⟨⟨hstate, hcauses⟩, hfire⟩, hremoved⟩, hrevs⟩, hrem⟩, htarget⟩, hmotion⟩, hfault⟩, hlanding⟩ := h
  exact ⟨by rw [hstate, hcauses, hfire, hremoved, hrevs, hrem, htarget, hmotion, hfault], hlanding⟩

theorem landing_eq_of_not_changed {a b : Table Landing} (h : landingChanged a b = false) {f : Nat} {l m : Landing}
    (hl : tget a f = some l) (hm : tget b f = some m) : (l.tripped, l.stopSwitch) = (m.tripped, m.stopSwitch) := by
  have := List.any_eq_false.mp h (f, m) (mem_of_tget hm)
  simpa [hl] using this

theorem detector_eq_of_not_changed {a b : Table Detector} {z : Nat} (h : detectorChanged z a b = false) {i : Nat}
    {d g : Detector} (hd : tget a i = some d) (hg : tget b i = some g) (hdz : d.zone = z) (hgz : g.zone = z) :
    (d.active, d.fault) = (g.active, g.fault) := by
  have := List.any_eq_false.mp h (i, g) (mem_of_tget hg)
  simpa [hd, hdz, hgz] using this

theorem callPoint_eq_of_not_changed {a b : Table CallPoint} {z : Nat} (h : callPointChanged z a b = false) {i : Nat}
    {d g : CallPoint} (hd : tget a i = some d) (hg : tget b i = some g) (hdz : d.zone = z) (hgz : g.zone = z) :
    (d.operated, d.fault) = (g.operated, g.fault) := by
  have := List.any_eq_false.mp h (i, g) (mem_of_tget hg)
  simpa [hd, hdz, hgz] using this

/-- An entry of a table whose entries are marked by what `changed` says. -/
theorem tget_marked {α : Type} {t : Table α} {g : Nat → α → α} {i : Nat} {f : α} (hf : tget (tmap t g) i = some f) :
    ∃ e, tget t i = some e ∧ g i e = f := by
  rw [tget_tmap] at hf
  exact Option.map_eq_some_iff.mp hf

/-- What a zone without a mark after an event has kept (R66). -/
theorem zone_eq_of_unmarked {b u : FireUnit} {z : Nat} {e g : Zone} (he : tget b.zones z = some e)
    (h : (g.mark || zoneChanged b u z g) = false) :
    (e.state, e.acked, e.confirmers, e.fault) = (g.state, g.acked, g.confirmers, g.fault) ∧
    detectorChanged z b.detectors u.detectors = false ∧ callPointChanged z b.callPoints u.callPoints = false ∧
    (g.state = .fullAlarm → b.silence = u.silence) := by
  simp only [zoneChanged, he, Bool.or_eq_false_iff, bne_eq_false_iff_eq] at h
  obtain ⟨-, ⟨⟨⟨⟨⟨hstate, hacked⟩, hconf⟩, hfault⟩, hdet⟩, hpoint⟩, hsilence⟩ := h
  exact ⟨by rw [hstate, hacked, hconf, hfault], hdet, hpoint, fun hfull => by simpa [hfull] using hsilence⟩

theorem shutter_eq_of_unmarked {e g : Shutter} (h : (g.mark || shutterChanged e g) = false) :
    (e.state, e.reason, e.obstruction, e.fault, e.attempts, e.last) =
      (g.state, g.reason, g.obstruction, g.fault, g.attempts, g.last) := by
  simp only [shutterChanged, Bool.or_eq_false_iff, bne_eq_false_iff_eq] at h
  obtain ⟨-, ⟨⟨⟨⟨hstate, hreason⟩, hobst⟩, hfault⟩, hatt⟩, hlast⟩ := h
  rw [hstate, hreason, hobst, hfault, hatt, hlast]

/-- What an unmarked call list has kept (R120). -/
theorem calls_eq_of_unmarked {b u : CallUnit} (h : (u.mark || callsChanged b u) = false) :
    (b.calls.map Call.watched, b.queue.length, b.listFull, max b.closingLevel b.fireLevel, b.lastIgnored) =
      (u.calls.map Call.watched, u.queue.length, u.listFull, max u.closingLevel u.fireLevel, u.lastIgnored) := by
  simp only [callsChanged, CallUnit.level, Bool.or_eq_false_iff, bne_eq_false_iff_eq] at h
  obtain ⟨-, ⟨⟨⟨hcalls, hqueue⟩, hfull⟩, hlevel⟩, hignored⟩ := h
  rw [hcalls, hqueue, hfull, hlevel, hignored]

/-! ### The panel's mark -/

theorem panel_blind (s : State) : TableBlind (fun u => (u.reg.panelLost, u.reg.panelMark)) s :=
  ⟨fun _ _ _ => rfl, fun _ => rfl, fun _ => rfl, fun _ => rfl, fun _ => rfl, fun _ => rfl, fun _ => rfl⟩

theorem armPart_reg (s : State) : (armPart s).reg = s.reg := rfl

theorem disarmPart_reg (s : State) : (disarmPart s).reg = s.reg := rfl

/-- After a command's effect the panel is lost as before, or its mark is set. -/
theorem effect_panel (c : Instr) (hlost : s.reg.panelLost = true) :
    (effect c s).reg.panelLost = true ∨ (effect c s).reg.panelMark = true := by
  rcases effect_kept c s with hkept | ⟨hspecial, src, tag, code, hc, hbody⟩
  · exact hkept.reg.lost hlost
  have hheard : (panelHeard src s).reg.panelLost = true ∨ (panelHeard src s).reg.panelMark = true :=
    (panelHeard_kept (.refl s) src).reg.lost hlost
  suffices h : ((requestBody c (panelHeard src s)).state.reg.panelLost = true ∨
      (requestBody c (panelHeard src s)).state.reg.panelMark = true) from
    h.elim hbody.reg.lost (.inr ∘ hbody.reg.mark)
  have hsame : ∀ {u : State}, (u.reg.panelLost, u.reg.panelMark) =
      ((panelHeard src s).reg.panelLost, (panelHeard src s).reg.panelMark) →
      u.reg.panelLost = true ∨ u.reg.panelMark = true := by
    intro u hu
    rw [Prod.mk.injEq] at hu
    rwa [hu.1, hu.2]
  cases c with
  | writeEntry => exact hsame (writeEntryResult_blind (panel_blind _) ..)
  | deleteEntry => exact hsame (deleteEntryResult_blind (panel_blind _) ..)
  | arm => rcases armResult_state (panelHeard src s) with h | h <;> exact hsame (by simp only [requestBody, h, armPart_reg])
  | disarm =>
    rcases disarmResult_state (panelHeard src s) with h | ⟨h, -⟩ <;> exact hsame (by simp only [requestBody, h, disarmPart_reg])
  | releasePaternoster =>
    rcases releaseResult_state (panelHeard src s) with h | h <;> exact hsame (by simp only [requestBody, h, releaseChain_keeps])
  | resetZone a b z =>
    rcases resetZone_kept z.toNat (panelHeard src s) with h | h <;>
      exact hheard.elim h.reg.lost (.inr ∘ h.reg.mark)
  | _ => cases hspecial

/-- Settles O4: the call states and the image are recomputed at the end of every event and the Port A arbiter changes
nothing that they read; while Port A is busy the marks are those of `markChanges`. -/
theorem imageAndCallStatesKept : Obligations.ImageAndCallStatesKept := by
  refine ⟨fun s t => step_inStep, fun c s t hpower hpin hsent hbusy hexec => ?_⟩
  have hbusy' : (effect c s).line.portA.isSome = true := (effect_ports hsent s).portA ▸ hbusy
  obtain ⟨w, hsettle⟩ := settle_of_busy hbusy' s
  rw [exec_eq_next hpower hpin hexec, hsettle, marked]
  clear hexec hsettle
  have hpanel : s.reg.panelLost = true →
      (arbiterB 128 (effect c s)).reg.panelLost = true ∨ (arbiterB 128 (effect c s)).reg.panelMark = true :=
    fun hlost => (effect_panel c hlost).elim (arbiterB_kept (.refl _) 128).reg.lost
      (.inr ∘ (arbiterB_kept (.refl _) 128).reg.mark)
  have hlanding := fun h => (mark_of_patChanged (p := s.pat) (q := (arbiterB 128 (effect c s)).pat) h).2
  generalize arbiterB 128 (effect c s) = u at hpanel hlanding
  refine ⟨?pat, ?landing, ?zone, ?shutter, ?station, ?panel, ?calls⟩
  case pat =>
    intro hne
    by_contra hmark
    exact hne (mark_of_patChanged (q := u.pat) (eq_false_of_ne_true hmark)).1
  case landing =>
    intro f l m hl hm hne
    by_contra hmark
    exact hne (landing_eq_of_not_changed (hlanding (eq_false_of_ne_true hmark)) hl hm)
  case zone =>
    intro z e f he hf
    obtain ⟨g, hg, rfl⟩ := tget_marked hf
    have hkept := fun hmark => zone_eq_of_unmarked he (u := u.fire) (g := g) hmark
    refine ⟨fun hne => ?_, fun hfull hne => ?_, fun i d g' hd hg' hdz hgz hne => ?_,
      fun i d g' hd hg' hdz hgz hne => ?_⟩ <;> by_contra hmark <;>
      obtain ⟨hzone, hdet, hpoint, hsilence⟩ := hkept (eq_false_of_ne_true hmark)
    · exact hne hzone
    · exact hne (hsilence hfull)
    · exact hne (detector_eq_of_not_changed hdet hd hg' hdz hgz)
    · exact hne (callPoint_eq_of_not_changed hpoint hd hg' hdz hgz)
  case shutter =>
    intro i e f he hf hne
    obtain ⟨g, hg, rfl⟩ := tget_marked hf
    by_contra hmark
    refine hne (shutter_eq_of_unmarked (e := e) (g := g) ?_)
    simpa [he] using hmark
  case station =>
    intro a e f he hf hne
    obtain ⟨g, hg, rfl⟩ := tget_marked hf
    simp [he, hne]
  case panel =>
    intro hlost hback
    exact (hpanel hlost).resolve_left (by rw [show u.reg.panelLost = false from hback]; simp)
  case calls =>
    intro hne
    by_contra hmark
    exact hne (calls_eq_of_unmarked (u := u.call.refresh) (eq_false_of_ne_true hmark))

end Sys2Proof.Machine
end

section
/-! SUPPORT. What an order that the Port B arbiter sends has been judged by, and the statement that it is safe. -/

namespace Sys2Proof.Machine

variable {s t : State}

/-! ## Entries found by a predicate -/

theorem mem_of_tkeys_head {α : Type} {t : Table α} {p : α → Bool} {i : Nat} (h : (tkeys t p).head? = some i) :
    ∃ e, (i, e) ∈ t ∧ p e = true := by
  have hmem : i ∈ tkeys t p := List.mem_of_mem_head? h
  obtain ⟨⟨k, e⟩, he, rfl⟩ := List.mem_map.mp hmem
  exact ⟨e, (List.mem_filter.mp he).1, (List.mem_filter.mp he).2⟩

theorem shutterAt_mem {a i : Nat} (h : shutterAt s a = some i) : ∃ e, (i, e) ∈ s.shut ∧ e.station = a := by
  obtain ⟨e, he, hp⟩ := mem_of_tkeys_head h
  exact ⟨e, he, by simpa using hp⟩

/-- With no index and no station twice, the shutter of a shutter's own station is that shutter. -/
theorem shutterAt_unique (hkeys : (s.shut.map Prod.fst).Nodup) (hstations : (s.shut.map fun e => e.2.station).Nodup)
    {a i j : Nat} {d e : Shutter} (hd : tget s.shut i = some d) (ha : d.station = a)
    (hj : shutterAt s a = some j) (he : tget s.shut j = some e) : e = d := by
  obtain ⟨f, hf, hfa⟩ := shutterAt_mem hj
  have heq : (j, f) = (i, d) :=
    List.inj_on_of_nodup_map hstations hf (mem_of_tget hd) (hfa.trans ha.symm)
  cases heq
  exact Option.some.inj (he.symm.trans (tget_of_mem hkeys hf))

/-! ## An order that is safe in a state -/

/-- Whether the order may be sent in the state (R11, R82, R88). -/
def Order.SafeIn (o : Order) (t : State) : Prop :=
  (o.body = .run → t.armed = true ∧ t.pat.state = .idle ∧ t.pat.start.isSome = true ∧
    t.anyFull = false ∧ t.shaftsOpen = true ∧ t.driveStation.any t.present = true) ∧
  (∀ i e, shutterAt t o.head.dst.toNat = some i → tget t.shut i = some e →
    (o.body = .drop → e.kind = .shaft → t.armed = true ∧ t.pat.judgeShutter e = .clear) ∧
    (o.body = .raise → e.reason = .fire → e.inZone t.zoneAlarm = false))

/-- The premises of SENT_ORDERS_ARE_SAFE about the shutter table. -/
structure ShuttersApart (t : Table Shutter) : Prop where
  keys : (t.map Prod.fst).Nodup
  stations : (t.map fun e => e.2.station).Nodup
  bytes : ∀ e ∈ t, e.2.station < 256

theorem safeIn_of_body {o : Order} (hrun : o.body ≠ .run) (hdrop : o.body ≠ .drop) (hraise : o.body ≠ .raise)
    (t : State) : o.SafeIn t :=
  ⟨fun h => absurd h hrun, fun _ _ _ _ => ⟨fun h => absurd h hdrop, fun h => absurd h hraise⟩⟩

/-- A change of the shutters that keeps what a judgment reads of each keeps which orders are safe. -/
theorem safeIn_congr {o : Order} {f : Nat → Shutter → Shutter} (hshut : t.shut = tmap s.shut f)
    (hfield : ∀ i e, (f i e).loaded = e.loaded ∧ (f i e).reason = e.reason ∧ (f i e).state = e.state)
    (harmed : t.armed = s.armed) (hpat : ∀ e, t.pat.judgeShutter e = s.pat.judgeShutter e)
    (hstate : t.pat.state = s.pat.state) (hstart : t.pat.start = s.pat.start) (hfull : t.anyFull = s.anyFull)
    (hzones : t.zoneAlarm = s.zoneAlarm) (hdrive : t.driveStation.any t.present = s.driveStation.any s.present) :
    o.SafeIn t ↔ o.SafeIn s := by
  have hstation : ∀ i e, (f i e).station = e.station := fun i e => congrArg Prod.fst (hfield i e).1
  have hkind : ∀ i e, (f i e).kind = e.kind := fun i e => congrArg (·.2.2.2.1) (hfield i e).1
  have hlanding : ∀ i e, (f i e).landing = e.landing := fun i e => congrArg (·.2.2.2.2.1) (hfield i e).1
  have hzoneA : ∀ i e, (f i e).zoneA = e.zoneA := fun i e => congrArg (·.2.1) (hfield i e).1
  have hzoneB : ∀ i e, (f i e).zoneB = e.zoneB := fun i e => congrArg (·.2.2.1) (hfield i e).1
  have hat : ∀ a, shutterAt t a = shutterAt s a := by
    intro a
    unfold shutterAt
    rw [hshut, tkeys_tmap _ _ _ fun i v => by rw [hstation]]
  have hopen : t.shaftsOpen = s.shaftsOpen := by
    unfold State.shaftsOpen
    rw [hshut, tmap_eq_map, List.all_map]
    simp only [Function.comp_def, hkind, (hfield _ _).2.2]
  have hentry : ∀ i e, ((o.body = .drop → (f i e).kind = .shaft → t.armed = true ∧ t.pat.judgeShutter (f i e) = .clear) ∧
        (o.body = .raise → (f i e).reason = .fire → (f i e).inZone t.zoneAlarm = false)) ↔
      ((o.body = .drop → e.kind = .shaft → s.armed = true ∧ s.pat.judgeShutter e = .clear) ∧
        (o.body = .raise → e.reason = .fire → e.inZone s.zoneAlarm = false)) := by
    intro i e
    rw [harmed, hpat, Paternoster.judgeShutter, hlanding, hkind, (hfield i e).2.1, Shutter.inZone, hzoneA, hzoneB, hzones]
    rfl
  unfold Order.SafeIn
  rw [hstate, hstart, hfull, hopen, hdrive, hat]
  refine and_congr (by rw [harmed]) ⟨fun h i e hi he => ?_, fun h i e hi he => ?_⟩
  · exact (hentry i e).mp (h i (f i e) hi (by rw [hshut, tget_tmap, he, Option.map_some]))
  · rw [hshut, tget_tmap] at he
    obtain ⟨d, hd, rfl⟩ := Option.map_eq_some_iff.mp he
    exact (hentry i d).mpr (h i d hi hd)

/-! ## The candidates of the arbiter -/

theorem runVeto_none (h : s.runVeto = none) :
    s.armed = true ∧ s.pat.state = .idle ∧ s.anyFull = false ∧ s.shaftsOpen = true ∧
      s.driveStation.any s.present = true := by
  unfold State.runVeto at h
  repeat' split at h
  all_goals simp_all

theorem runVetoAtSending_none (h : s.runVetoAtSending = none) :
    s.armed = true ∧ s.pat.state = .idle ∧ s.pat.start.isSome = true ∧ s.anyFull = false ∧ s.shaftsOpen = true ∧
      s.driveStation.any s.present = true := by
  unfold State.runVetoAtSending at h
  split at h
  · cases h
  next hveto =>
    obtain ⟨harmed, hidle, hfull, hopen, hdrive⟩ := runVeto_none hveto
    refine ⟨harmed, hidle, ?_, hfull, hopen, hdrive⟩
    cases hstart : s.pat.start with
    | none => rw [hstart] at h; cases h
    | some => rfl

theorem shaftDropVeto_none {e : Shutter} (h : shaftDropVeto s e = none) :
    s.armed = true ∧ s.pat.judgeShutter e = .clear := by
  unfold shaftDropVeto at h
  repeat' split at h
  all_goals simp_all

/-- A freshly sent order is the one put on the line. -/
theorem sending_of_sendOrder {o o' : Order} (h : (sendOrder o' s).line.portB = .sending o) : o' = o :=
  PortB.sending.inj h

theorem tget_of_firstSlot {α β : Type} {slot : α → Option β} {t : Table α} {i : Nat} {e : α} {o : β}
    (h : firstSlot slot t = some (i, e, o)) : (i, e) ∈ t ∧ slot e = some o := by
  induction t with
  | nil => cases h
  | cons a t ih =>
    obtain ⟨k, w⟩ := a
    unfold firstSlot at h
    split at h
    next o' ho => cases h; exact ⟨List.mem_cons_self, ho⟩
    next => exact (ih h).imp (List.mem_cons_of_mem _) id

section
variable {o : Order} (hfree : s.line.portB = .free)
include hfree

theorem takeDrive_safe {a : Nat} {d : DriveOrder} (h : (takeDrive a d s).line.portB = .sending o) :
    o.SafeIn (takeDrive a d s) := by
  unfold takeDrive at h ⊢
  cases d with
  | run =>
    dsimp only at h ⊢
    split at h
    · exact absurd h (by simp [dropStart, hfree])
    next hveto =>
      obtain rfl := sending_of_sendOrder h
      exact ⟨fun _ => runVetoAtSending_none hveto, fun _ _ _ _ => ⟨fun h => (by cases h), fun h => by cases h⟩⟩
  | halt | cut =>
    obtain rfl := sending_of_sendOrder h
    exact safeIn_of_body (by simp) (by simp) (by simp) _
  | stopAt p =>
    obtain rfl := sending_of_sendOrder h
    exact safeIn_of_body (by simp) (by simp) (by simp) _

omit hfree in
theorem takeAmp_safe {f : Nat} {a : Amp} {d : AmpOrder} (h : (takeAmp f a d s).line.portB = .sending o) :
    o.SafeIn (takeAmp f a d s) := by
  have hsent : ({ head := ownHead a.station, body := d.body } : Order) = o := by
    refine sending_of_sendOrder (s := onAmp s f fun a => { a with slot := none }) ?_
    rw [← h]
    unfold takeAmp
    cases d <;> simp [sendOwn]
  subst hsent
  exact safeIn_of_body (by cases d <;> simp [AmpOrder.body]) (by cases d <;> simp [AmpOrder.body])
    (by cases d <;> simp [AmpOrder.body]) _

theorem takeRinger_safe {i : Nat} {g : Ringer} {d : RingerOrder} (h : (takeRinger i g d s).line.portB = .sending o) :
    o.SafeIn (takeRinger i g d s) := by
  unfold takeRinger at h ⊢
  cases d with
  | ring a b n =>
    dsimp only at h ⊢
    split at h
    · exact absurd h (by simp [hfree])
    · obtain rfl := sending_of_sendOrder h
      exact safeIn_of_body (by simp) (by simp) (by simp) _
  | cancel =>
    obtain rfl := sending_of_sendOrder h
    exact safeIn_of_body (by simp) (by simp) (by simp) _

omit hfree in
/-- A shutter's own order, judged for that shutter, is safe: no other shutter has its station. -/
theorem shutter_sent_safe {i : Nat} {e : Shutter} {b : OrderBody} (hmem : (i, e) ∈ s.shut)
    (hapart : ShuttersApart (sendOwn e.station b (onShutter s i fun e => { e with slot := none })).shut)
    (hrun : b ≠ .run) (hdrop : b = .drop → e.kind = .shaft → s.armed = true ∧ s.pat.judgeShutter e = .clear)
    (hraise : b = .raise → e.reason = .fire → e.inZone s.zoneAlarm = false) :
    Order.SafeIn { head := ownHead e.station, body := b }
      (sendOwn e.station b (onShutter s i fun e => { e with slot := none })) := by
  generalize hv : sendOwn e.station b (onShutter s i fun e => { e with slot := none }) = v at hapart ⊢
  have hshut : v.shut = tmod s.shut i fun e => { e with slot := none } := by rw [← hv]; rfl
  have hget : tget v.shut i = some { e with slot := none } := by
    have hkeys := hapart.keys
    rw [hshut, tmod_map_fst] at hkeys
    rw [hshut, tget_tmod, if_pos rfl, tget_of_mem hkeys hmem, Option.map_some]
  have hbyte : (ownHead e.station).dst.toNat = e.station :=
    Nat.mod_eq_of_lt (hapart.bytes _ (mem_of_tget hget))
  refine ⟨fun h => absurd h hrun, fun j d hj hd => ?_⟩
  rw [hbyte] at hj
  obtain rfl := shutterAt_unique hapart.keys hapart.stations hget rfl hj hd
  rw [← hv]
  exact ⟨fun h hk => hdrop h hk, fun h hr => hraise h hr⟩

theorem takeShutter_safe {i : Nat} {e : Shutter} {d : ShutterOrder} (hmem : (i, e) ∈ s.shut)
    (hapart : ShuttersApart (takeShutter i e d s).shut) (h : (takeShutter i e d s).line.portB = .sending o) :
    o.SafeIn (takeShutter i e d s) := by
  unfold takeShutter at h hapart ⊢
  dsimp only at h hapart ⊢
  split at h
  · obtain rfl := sending_of_sendOrder h
    exact safeIn_of_body (by simp) (by simp) (by simp) _
  next =>
    split at h
    next hkind =>
      simp only [hkind] at hapart ⊢
      obtain rfl := sending_of_sendOrder h
      exact shutter_sent_safe hmem hapart (by simp) (fun _ hshaft => absurd hshaft (by simp [hkind])) (by simp)
    next hkind =>
      simp only [hkind] at hapart ⊢
      split at h
      · exact absurd h (by simp [hfree])
      next hveto =>
        simp only [hveto] at hapart ⊢
        obtain rfl := sending_of_sendOrder h
        exact shutter_sent_safe hmem hapart (by simp) (fun _ _ => shaftDropVeto_none hveto) (by simp)
  next =>
    split at h
    · exact absurd h (by simp [hfree])
    next hheld =>
      simp only [hheld] at hapart ⊢
      obtain rfl := sending_of_sendOrder h
      exact shutter_sent_safe hmem hapart (by simp) (by simp)
        fun _ hfire => by simpa [State.raiseHeld, hfire] using hheld

omit hfree in
theorem sendingVeto_none_drop {i : Nat} {e : Shutter} (hbody : o.body = .drop) (h : sendingVeto o s = none)
    (hi : shutterAt s o.head.dst.toNat = some i) (he : tget s.shut i = some e) (hshaft : e.kind = .shaft) :
    s.armed = true ∧ s.pat.judgeShutter e = .clear := by
  unfold sendingVeto at h
  rw [hbody] at h
  dsimp only at h
  split at h
  · have : s.anyShaft = true := tany_of_tget he (by simp [hshaft])
    rw [if_pos this] at h
    cases h
  · simp only [hi, he, Option.bind_some, hshaft, if_true] at h
    exact shaftDropVeto_none h

omit hfree in
theorem sendingVeto_none_raise {i : Nat} {e : Shutter} (hbody : o.body = .raise) (h : sendingVeto o s = none)
    (hi : shutterAt s o.head.dst.toNat = some i) (he : tget s.shut i = some e) (hfire : e.reason = .fire) :
    e.inZone s.zoneAlarm = false := by
  have hheld : s.raiseHeld e = false := by
    unfold sendingVeto at h
    rw [hbody] at h
    dsimp only at h
    by_contra hraise
    rw [Bool.not_eq_false] at hraise
    split at h
    · have : s.anyRaiseHeld = true := tany_of_tget he hraise
      rw [if_pos this] at h
      cases h
    · simp only [hi, he, Option.bind_some, hraise, if_true] at h
      cases h
  simpa [State.raiseHeld, hfire] using hheld

theorem takeForwarded_safe {o' : Order} {rest : List Order} (h : (takeForwarded o' rest s).line.portB = .sending o) :
    o.SafeIn (takeForwarded o' rest s) := by
  unfold takeForwarded at h ⊢
  dsimp only at h ⊢
  split at h
  · exact absurd h (by simp [fillVeto, hfree])
  next hveto =>
    obtain rfl := sending_of_sendOrder h
    refine ⟨fun hbody => ?_, fun i e hi he => ⟨fun hbody hshaft => ?_, fun hbody hfire => ?_⟩⟩
    · unfold sendingVeto at hveto
      rw [hbody] at hveto
      exact runVetoAtSending_none hveto
    · exact sendingVeto_none_drop hbody hveto hi he hshaft
    · exact sendingVeto_none_raise hbody hveto hi he hfire

theorem takeOrder_safe (ht : takeOrder s = some t) (hapart : ShuttersApart t.shut) (h : t.line.portB = .sending o) :
    o.SafeIn t := by
  unfold takeOrder at ht
  split at ht
  · cases ht; exact takeDrive_safe hfree h
  · split at ht
    next hslot => cases ht; exact takeShutter_safe hfree (tget_of_firstSlot hslot).1 hapart h
    next =>
      split at ht
      · cases ht; exact takeAmp_safe h
      · split at ht
        · cases ht; exact takeRinger_safe hfree h
        · split at ht
          · cases ht; exact takeForwarded_safe hfree h
          · cases ht

omit hfree in
theorem takePoll_not_sending (ht : takePoll s = some t) : t.line.portB ≠ .sending o := by
  unfold takePoll at ht
  split at ht <;> cases ht
  simp

theorem takeB_safe (ht : takeB s = some t) (hapart : ShuttersApart t.shut) (h : t.line.portB = .sending o) :
    o.SafeIn t := by
  unfold takeB at ht
  split at ht
  · exact absurd h (takePoll_not_sending ht)
  · split at ht
    next horder => cases ht; exact takeOrder_safe hfree horder hapart h
    next =>
      split at ht
      · exact absurd h (takePoll_not_sending ht)
      · cases ht

end

/-- An order on the line after the Port B arbiter has decided, and not before, is its last candidate. -/
theorem exists_takeB_of_sending {o : Order} (n : Nat) (hbefore : s.line.portB ≠ .sending o)
    (h : (arbiterB n s).line.portB = .sending o) : ∃ u, u.line.portB = .free ∧ takeB u = some (arbiterB n s) := by
  induction n generalizing s with
  | zero => exact absurd h hbefore
  | succ n ih =>
    by_cases hfree : s.line.portB = .free
    · cases ht : takeB s with
      | none => exact absurd (by simpa only [arbiterB, hfree, if_true, ht] using h) hbefore
      | some t =>
        have harb : arbiterB (n + 1) s = arbiterB n t := by simp only [arbiterB, hfree, if_true, ht]
        rw [harb] at h ⊢
        by_cases hsent : t.line.portB = .sending o
        · rw [arbiterB_busy (by rw [hsent]; simp)]
          exact ⟨s, hfree, ht⟩
        · exact ih hsent h
    · exact absurd (arbiterB_busy hfree (n + 1) ▸ h) hbefore

/-- An order that the Port B arbiter has put on the line is safe. -/
theorem arbiterB_safe {o : Order} (n : Nat) (hbefore : s.line.portB ≠ .sending o)
    (hapart : ShuttersApart (arbiterB n s).shut) (h : (arbiterB n s).line.portB = .sending o) :
    o.SafeIn (arbiterB n s) := by
  obtain ⟨u, hfree, hu⟩ := exists_takeB_of_sending n hbefore h
  exact takeB_safe hfree hu hapart h

/-! ## The obligation -/

theorem effect_portB (c : Instr) {o : Order} (h : (effect c s).line.portB = .sending o) : s.line.portB = .sending o := by
  by_cases hc : c = .portATransmissionComplete
  · subst hc; exact h
  · exact (effect_ports hc s).portB o h

theorem records_present (s : State) : s.records.present = s.present := by
  funext a
  simp [State.present, State.records, Option.any_map]

theorem records_driveStation (s : State) : s.records.driveStation = s.driveStation := by
  simp [State.driveStation, State.records]

theorem safeIn_records {o : Order} (s : State) : o.SafeIn s.records ↔ o.SafeIn s :=
  safeIn_congr (s := s) (t := s.records) (f := fun _ e => { e with mark := false }) rfl (fun _ _ => ⟨rfl, rfl, rfl⟩) rfl (fun _ => rfl) rfl rfl
    (by simp [State.anyFull, State.records])
    (by funext z; simp [State.zoneAlarm, State.records, Option.any_map])
    (by rw [records_driveStation, records_present])

theorem ShuttersApart.of_map {a : Table Shutter} {f : Nat → Shutter → Shutter}
    (hf : ∀ i e, (f i e).station = e.station) : ShuttersApart (tmap a f) ↔ ShuttersApart a := by
  have hstations : (tmap a f).map (fun e => e.2.station) = a.map fun e => e.2.station := by
    rw [tmap_eq_map, List.map_map]
    simp only [Function.comp_def, hf]
  have hbytes : ∀ t : Table Shutter, (∀ e ∈ t, e.2.station < 256) ↔ ∀ n ∈ t.map (fun e => e.2.station), n < 256 :=
    fun _ => (List.forall_mem_map (f := fun e : Nat × Shutter => e.2.station) (P := (· < 256))).symm
  constructor <;> intro ⟨hk, hs, hb⟩
  · exact ⟨tmap_map_fst a f ▸ hk, hstations ▸ hs, (hbytes a).mpr (hstations ▸ (hbytes _).mp hb)⟩
  · exact ⟨(tmap_map_fst a f).symm ▸ hk, hstations.symm ▸ hs, (hbytes _).mpr (hstations.symm ▸ (hbytes _).mp hb)⟩

/-- Settles O8: the Port B arbiter judges an order as it takes it, and the end of the event after it changes nothing
that the judgment reads. -/
theorem sentOrdersAreSafe : Obligations.SentOrdersAreSafe := by
  intro c s t o hexec hsent hbefore hkeys hstations hbytes
  by_cases hpower : c = .powerOn
  · subst hpower; cases hexec; cases hsent
  by_cases hpin : c = .resetPinReset
  · subst hpin; cases hexec; cases hsent
  have hrec : t.records = (arbiterB 128 (effect c s)).records :=
    exec_eq_next hpower hpin hexec ▸ settle_records s (effect c s)
  have hapart : ShuttersApart (arbiterB 128 (effect c s)).shut := by
    have h : ShuttersApart t.records.shut := (ShuttersApart.of_map (f := fun _ e => { e with mark := false }) fun _ _ => rfl).mpr ⟨hkeys, hstations, hbytes⟩
    rw [hrec] at h
    exact (ShuttersApart.of_map (f := fun _ e => { e with mark := false }) fun _ _ => rfl).mp h
  have hsent' : (arbiterB 128 (effect c s)).line.portB = .sending o :=
    (eq_of_records (p := fun u => u.line.portB) (fun _ => rfl) hrec).symm.trans hsent
  have hsafe := arbiterB_safe 128 (fun h => hbefore (effect_portB c h)) hapart hsent'
  rw [← safeIn_records, ← hrec, safeIn_records] at hsafe
  exact hsafe

end Sys2Proof.Machine
end

section
/-! SUPPORT. The stop-target search, and the statement about it. -/

namespace Sys2Proof.Machine

theorem tdel_eq_filter {α : Type} (t : Table α) (i : Nat) : tdel t i = t.filter fun e => e.1 != i := by
  induction t with
  | nil => rfl
  | cons e t ih =>
    obtain ⟨k, w⟩ := e
    simp only [tdel, List.filter_cons, ih]
    split <;> simp_all

/-! ## One round of the search (R35, R37) -/

theorem firstClear_eq_some_iff {g : Geometry} {set : Table Landing} {q t : Nat} :
    firstClear g set q = some t ↔ t < g.pitch ∧ (∀ e ∈ set, landingClear g e.2 (q + t) = true) ∧
      ∀ u < t, ∃ e ∈ set, landingClear g e.2 (q + u) = false := by
  simp only [firstClear, List.find?_range_eq_some, List.all_eq_true, List.mem_range, Bool.not_eq_true',
    List.all_eq_false, Bool.not_eq_true]
  constructor
  · rintro ⟨hclear, hlt, hfirst⟩
    exact ⟨hlt, hclear, hfirst⟩
  · rintro ⟨hlt, hclear, hfirst⟩
    exact ⟨hclear, hlt, hfirst⟩

theorem firstClear_eq_none_iff {g : Geometry} {set : Table Landing} {q : Nat} :
    firstClear g set q = none ↔ ∀ u < g.pitch, ∃ e ∈ set, landingClear g e.2 (q + u) = false := by
  simp [firstClear, List.find?_eq_none]

/-- `a` is removed before or with `b`: the lower rank, and among equal ranks not the lower floor (R37). -/
def RemovedFirst (a b : Nat × Landing) : Prop := a.2.rank < b.2.rank ∨ (a.2.rank = b.2.rank ∧ b.1 ≤ a.1)

theorem removedFirst_of_before {a b : Nat × Landing} (h : removedBefore a b = true) : RemovedFirst a b := by
  simp only [removedBefore, Bool.or_eq_true, decide_eq_true_iff, Bool.and_eq_true, beq_iff_eq] at h
  unfold RemovedFirst
  omega

theorem removedFirst_of_not_before {a b : Nat × Landing} (h : removedBefore a b = false) : RemovedFirst b a := by
  simp only [removedBefore, Bool.or_eq_false_iff, decide_eq_false_iff_not, Bool.and_eq_false_iff, beq_eq_false_iff_ne] at h
  unfold RemovedFirst
  omega

theorem RemovedFirst.trans {a b c : Nat × Landing} (h : RemovedFirst a b) (h' : RemovedFirst b c) :
    RemovedFirst a c := by
  unfold RemovedFirst at *
  omega

theorem nextRemoved_spec {set : Table Landing} {e : Nat × Landing} (h : nextRemoved set = some e) :
    e ∈ set ∧ ∀ x ∈ set, RemovedFirst e x := by
  induction set generalizing e with
  | nil => cases h
  | cons a set ih =>
    have hself : ∀ x : Nat × Landing, RemovedFirst x x := fun _ => .inr ⟨rfl, le_rfl⟩
    simp only [nextRemoved] at h
    cases hnext : nextRemoved set with
    | none =>
      rw [hnext] at h
      cases h
      cases set with
      | nil => exact ⟨List.mem_cons_self, by simpa using hself _⟩
      | cons b set => simp only [nextRemoved] at hnext; split at hnext <;> cases hnext
    | some b =>
      rw [hnext] at h
      obtain ⟨hb, hfirst⟩ := ih hnext
      cases hbefore : removedBefore a b with
      | true =>
        simp only [hbefore, if_true, Option.some.injEq] at h
        subst h
        refine ⟨List.mem_cons_self, fun x hx => ?_⟩
        rcases List.mem_cons.mp hx with rfl | hx
        · exact hself _
        · exact (removedFirst_of_before hbefore).trans (hfirst x hx)
      | false =>
        simp only [hbefore, Bool.false_eq_true, if_false, Option.some.injEq] at h
        subst h
        refine ⟨List.mem_cons_of_mem _ hb, fun x hx => ?_⟩
        rcases List.mem_cons.mp hx with rfl | hx
        · exact removedFirst_of_not_before hbefore
        · exact hfirst x hx

theorem nextRemoved_isSome {set : Table Landing} (h : set ≠ []) : (nextRemoved set).isSome = true := by
  cases set with
  | nil => exact absurd rfl h
  | cons a set => simp only [nextRemoved]; split <;> rfl

/-! ## The search -/

/-- The landings of `set` left when the floors `removed` are out. -/
def leftOf (set : Table Landing) (removed : List Nat) : Table Landing := set.filter fun e => !removed.contains e.1

theorem leftOf_tdel (set : Table Landing) (f : Nat) (removed : List Nat) :
    leftOf (tdel set f) removed = leftOf set (f :: removed) := by
  rw [leftOf, leftOf, tdel_eq_filter, List.filter_filter]
  refine List.filter_congr fun e _ => ?_
  by_cases h : e.1 = f <;> simp [h]

/-- The floors that a search has removed already are in front of those it removes. -/
theorem searchTarget_removed (g : Geometry) (q fuel : Nat) (set : Table Landing) (removed : List Nat) :
    searchTarget g q fuel set removed =
      ((searchTarget g q fuel set []).1, removed ++ (searchTarget g q fuel set []).2) := by
  induction fuel generalizing set removed with
  | zero => simp [searchTarget]
  | succ fuel ih =>
    simp only [searchTarget]
    split
    · simp
    · split
      · simp
      · rw [ih _ (removed ++ _), ih _ ([] ++ _)]
        simp

/-- What a search with enough fuel gives: the least clear place of what is left, and the floors removed one by one. -/
theorem searchTarget_spec {g : Geometry} (hP : 0 < g.pitch) (q : Nat) {fuel : Nat} {set : Table Landing}
    (hfuel : set.length < fuel) :
    firstClear g (leftOf set (searchTarget g q fuel set []).2) q = some (searchTarget g q fuel set []).1 ∧
    ∀ n f, (searchTarget g q fuel set []).2[n]? = some f →
      firstClear g (leftOf set ((searchTarget g q fuel set []).2.take n)) q = none ∧
      ∃ e, nextRemoved (leftOf set ((searchTarget g q fuel set []).2.take n)) = some e ∧ e.1 = f := by
  induction fuel generalizing set with
  | zero => omega
  | succ fuel ih =>
    have hnil : leftOf set [] = set := List.filter_eq_self.mpr fun _ _ => rfl
    cases hclear : firstClear g set q with
    | some t =>
      have hsearch : searchTarget g q (fuel + 1) set [] = (t, []) := by simp only [searchTarget, hclear]
      rw [hsearch]
      exact ⟨by rw [hnil, hclear], fun n f hf => by simp at hf⟩
    | none =>
      have hne : set ≠ [] := by
        rintro rfl
        exact absurd (firstClear_eq_none_iff.mp hclear 0 hP) (by simp)
      obtain ⟨e, he⟩ := Option.isSome_iff_exists.mp (nextRemoved_isSome hne)
      have hsearch : searchTarget g q (fuel + 1) set [] =
          ((searchTarget g q fuel (tdel set e.1) []).1, e.1 :: (searchTarget g q fuel (tdel set e.1) []).2) := by
        conv_lhs => simp only [searchTarget, hclear, he]
        rw [searchTarget_removed]
        simp
      have hlength : (tdel set e.1).length < fuel := by
        have hlt : (tdel set e.1).length < set.length := by
          rw [tdel_eq_filter]
          exact List.length_filter_lt_length_iff_exists.mpr ⟨e, (nextRemoved_spec he).1, by simp⟩
        omega
      obtain ⟨htarget, hremoved⟩ := ih hlength
      rw [hsearch]
      refine ⟨by rw [← leftOf_tdel]; exact htarget, fun n f hf => ?_⟩
      cases n with
      | zero =>
        simp only [List.getElem?_cons_zero, Option.some.injEq] at hf
        simp only [List.take_zero, hnil]
        exact ⟨hclear, e, he, hf⟩
      | succ n =>
        simp only [List.getElem?_cons_succ] at hf
        simp only [List.take_succ_cons, ← leftOf_tdel]
        exact hremoved n f hf

/-- Settles O10: the search's rounds, each of which ends it or removes one floor. -/
theorem stopTargetSearch : Obligations.StopTargetSearch := by
  intro g p k hP q set r left
  obtain ⟨htarget, hremoved⟩ := searchTarget_spec hP q (Nat.lt_succ_self set.length)
  have hr : r.2 = (searchTarget g q (set.length + 1) set []).2 := rfl
  have hleft : ∀ n, left n = leftOf set (r.2.take n) := fun _ => rfl
  rw [← hr] at htarget
  refine ⟨?_, fun n f hf => ?_⟩
  · refine ⟨_, (firstClear_eq_some_iff.mp htarget).1, rfl, ?_⟩
    rw [hleft, List.take_length]
    exact (firstClear_eq_some_iff.mp htarget).2
  · obtain ⟨hnone, e, he, rfl⟩ := hremoved n f hf
    obtain ⟨hmem, hfirst⟩ := nextRemoved_spec he
    exact ⟨firstClear_eq_none_iff.mp hnone, e, hmem, rfl, hfirst⟩

end Sys2Proof.Machine
end

section
/-! SUPPORT. The line's bytes: the check, the quantities read back from their bytes, the line check of a frame with its
own check, and the statement about reports and orders. -/

namespace Sys2Proof.Machine

/-! ## The check (R193) -/

/-- The register's own first bit shifts it. -/
theorem crcBit_msb (c : BitVec 16) : crcBit c c.msb = c <<< 1 := by simp [crcBit]

/-- A register shifted `k` times takes its own next bit. -/
theorem crcBit_shiftLeft (c : BitVec 16) {k : Nat} (hk : k < 16) :
    crcBit (c <<< k) (c.getLsbD (15 - k)) = c <<< (k + 1) := by
  have hmsb : (c <<< k).msb = c.getLsbD (15 - k) := by
    rw [BitVec.msb_eq_getLsbD_last, BitVec.getLsbD_shiftLeft]
    simp only [Nat.add_one_sub_one]
    have : ¬ (15 < k) := by omega
    simp [this]
  rw [← hmsb, crcBit_msb, BitVec.shiftLeft_add]

theorem crcByte_high (c : BitVec 16) : crcByte c ((c >>> 8).setWidth 8) = c <<< 8 := by
  have h0 : crcBit c (c.getLsbD 15) = c <<< 1 := by simpa using crcBit_shiftLeft c (k := 0) (by omega)
  have h := fun k (hk : k < 16) => crcBit_shiftLeft c hk
  simp only [crcByte, byteBits, List.map_cons, List.map_nil, List.foldl_cons, List.foldl_nil,
    BitVec.getLsbD_setWidth, BitVec.getLsbD_ushiftRight, Nat.reduceLT, decide_true, Bool.true_and, Nat.reduceAdd,
    h0, h 1 (by omega), h 2 (by omega), h 3 (by omega), h 4 (by omega), h 5 (by omega), h 6 (by omega), h 7 (by omega)]

theorem crcByte_low (c : BitVec 16) : crcByte (c <<< 8) (c.setWidth 8) = 0 := by
  have h := fun k (hk : k < 16) => crcBit_shiftLeft c hk
  simp only [crcByte, byteBits, List.map_cons, List.map_nil, List.foldl_cons, List.foldl_nil,
    BitVec.getLsbD_setWidth, Nat.reduceLT, decide_true, Bool.true_and, h 8 (by omega), h 9 (by omega),
    h 10 (by omega), h 11 (by omega), h 12 (by omega), h 13 (by omega), h 14 (by omega), h 15 (by omega)]
  exact BitVec.shiftLeft_eq_zero (by omega)

/-- The check over bytes followed by their own check finds 0. -/
theorem crc_append_checkBytes (l : List Byte) : crc (l ++ checkBytes (crc l)) = 0 := by
  have happend : crc (l ++ checkBytes (crc l)) =
      crcByte (crcByte (crc l) ((crc l >>> 8).setWidth 8)) ((crc l).setWidth 8) := List.foldl_append
  rw [happend, crcByte_high, crcByte_low]

theorem crc_bytes (f : Frame) : crc f.bytes = 0 := crc_append_checkBytes f.head

/-! ## The line check of a frame (R170) -/

theorem checkBytes_length (c : BitVec 16) : (checkBytes c).length = 2 := rfl

/-- A frame whose kind admits its length passes the line check as itself. -/
theorem lineCheck_bytes {f : Frame} (hdst : f.dst ≠ 0) (hsrc : f.src ≠ 0) (hlen : f.payload.length < 256)
    {lengths : List Nat} (hkind : kindLengths f.kind = some lengths) (hmem : f.payload.length ∈ lengths) :
    lineCheck f.bytes = .valid f := by
  have hbytes : f.bytes = f.dst :: f.src :: f.kind :: f.tag :: byteOf f.payload.length ::
      (f.payload ++ checkBytes (crc f.head)) := rfl
  have hcrc := crc_bytes f
  rw [hbytes] at hcrc ⊢
  have hlength : (byteOf f.payload.length).toNat = f.payload.length := Nat.mod_eq_of_lt hlen
  simp only [lineCheck, hcrc, hdst, hsrc, hkind, List.length_append, checkBytes_length, Nat.add_sub_cancel,
    List.take_left', hlength, ne_eq, not_true_eq_false, false_or, or_false]
  simp [hmem]

/-! ## Quantities (R194) -/

theorem byteOf_toNat {n : Nat} (h : n < 256) : (byteOf n).toNat = n := Nat.mod_eq_of_lt h

theorem byteOf_of_toNat (b : Byte) : byteOf b.toNat = b := BitVec.ofNat_toNat 8 b |>.trans (BitVec.setWidth_eq b)

theorem quantity_one {n : Nat} (h : n < 256) : quantity 1 n = [byteOf n] := by
  simp [quantity, beBytes, h]

theorem quantity_two {n : Nat} (h : n < 65536) : quantity 2 n = [byteOf (n / 256), byteOf n] := by
  simp [quantity, beBytes, h]

/-- The two bytes of a quantity, read back. -/
theorem word_of_bytes {n : Nat} (h : n < 65536) : (byteOf (n / 256)).toNat * 256 + (byteOf n).toNat = n := by
  rw [byteOf_toNat (by omega), show (byteOf n).toNat = n % 256 from rfl]
  omega

theorem wordAt_quantity {n : Nat} (h : n < 65536) (rest : List Byte) : wordAt (quantity 2 n ++ rest) 0 = n := by
  rw [quantity_two h]
  exact word_of_bytes h

/-! ## Reports and orders -/

theorem Hdr.ne_zero {h : Hdr} (hwf : h.wf = true) : h.dst ≠ 0 ∧ h.src ≠ 0 := by
  simpa [Hdr.wf] using hwf

theorem quantity_length (n v : Nat) : (quantity n v).length = n := by
  have hbe : ∀ n v, (beBytes n v).length = n := by
    intro n
    induction n with
    | zero => intro v; rfl
    | succ n ih => intro v; simp [beBytes, ih]
  unfold quantity
  split <;> exact hbe ..

/-- A report's length is the one its kind admits. -/
theorem kindLengths_report (h : Hdr) (r : Report) :
    kindLengths (reportFrame h r).kind = some [(reportFrame h r).payload.length] := by
  cases r <;> simp [reportFrame, reportCode, reportPayload, kindLengths, byteOf, quantity_length]

theorem report_length (h : Hdr) (r : Report) : (reportFrame h r).payload.length ≤ 4 := by
  cases r <;> simp [reportFrame, reportPayload, quantity_length]

theorem reportOf_reportFrame (h : Hdr) (r : Report) : reportOf (reportFrame h r) = some r := by
  cases r with
  | chain p m c =>
    have hword := wordAt_quantity p.isLt [m, c]
    have hbytes := quantity_two p.isLt
    simp [reportOf, reportFrame, reportCode, reportPayload, byteOf, Frame.byte, hword]
    rw [hbytes]
    exact ⟨rfl, rfl⟩
  | _ => simp [reportOf, reportFrame, reportCode, reportPayload, byteOf, Frame.byte]

theorem frameClass_report (h : Hdr) (r : Report) : frameClass (reportFrame h r).kind = some .report := by
  cases r <;> simp [reportFrame, reportCode, frameClass, byteOf]

/-- An order's length is the one its kind admits. -/
theorem kindLengths_order (o : Order) : kindLengths o.frame.kind = some [o.frame.payload.length] := by
  obtain ⟨h, b⟩ := o
  cases b <;> simp [Order.frame, OrderBody.kindByte, OrderBody.code, OrderBody.payload, kindLengths, byteOf,
    quantity_length]

theorem order_length (o : Order) : o.frame.payload.length ≤ 3 := by
  obtain ⟨h, b⟩ := o
  cases b <;> simp [Order.frame, OrderBody.payload, quantity_length]

theorem frameClass_order (o : Order) : frameClass o.frame.kind = some .order := by
  obtain ⟨h, b⟩ := o
  cases b <;> simp [Order.frame, OrderBody.kindByte, OrderBody.code, frameClass, byteOf]

theorem orderCommand_frame {c : Instr} {o : Order} (h : orderParts c = some o) : orderCommand o.frame = some c := by
  cases c with
  | stopAtOrder h t =>
    cases h
    have hword := wordAt_quantity t.isLt []
    rw [List.append_nil] at hword
    simp [orderCommand, Order.frame, OrderBody.kindByte, OrderBody.code, OrderBody.payload, byteOf, Frame.hdr,
      hword]
  | _ => cases h <;> simp [orderCommand, Order.frame, OrderBody.kindByte, OrderBody.code, OrderBody.payload, byteOf, Frame.byte, Frame.hdr]

/-- Settles O13: a frame's own check makes the check over its bytes 0, and a report's and an order's kind admits its
length. -/
theorem framesReadBack : Obligations.FramesReadBack := by
  refine ⟨fun f _ => crc_bytes f, fun h r hwf => ?_, fun c o hc hwf => ?_⟩
  · obtain ⟨hdst, hsrc⟩ := Hdr.ne_zero hwf
    have hlen := report_length h r
    exact ⟨lineCheck_bytes hdst hsrc (by omega) (kindLengths_report h r) List.mem_cons_self,
      frameClass_report h r, reportOf_reportFrame h r⟩
  · obtain ⟨hdst, hsrc⟩ := Hdr.ne_zero hwf
    have hlen := order_length o
    exact ⟨lineCheck_bytes hdst hsrc (by omega) (kindLengths_order o) List.mem_cons_self,
      frameClass_order o, orderCommand_frame hc⟩

end Sys2Proof.Machine
end

section
/-! SUPPORT. Table accesses: which tables, indices and data a request can name, the order of the checks, and the
statements about Read Entry and Write Entry. -/

namespace Sys2Proof.Machine

/-! ## Read Entry (R184, R185) -/

/-- What Read Entry answers for a part of a present entry with the data `d`. -/
def readPart (d : List Byte) (index : Nat) (s : State) : Option Nat → Result
  | none | some 0 => { state := s, code := .ok, data := d }
  | some 1 =>
    match chimeTail index s with
    | some d => { state := s, code := .ok, data := d }
    | none => refuse s .badIndex
  | some _ => refuse s .badValue

theorem readEntryResult_of_entry {t : TableId} {table index : Nat} {part : Option Nat} {s : State}
    (ht : tableOf table = some t) (hindex : t.indexOk index = true) (hpart : part.isSome = (t == .chime))
    {d : List Byte} (hd : entryData t index s = some d) :
    readEntryResult table index part s = readPart d index s part := by
  simp only [readEntryResult, ht, hindex, hpart, hd, Bool.not_true, Bool.false_eq_true, if_false, bne_self_eq_false]
  rfl

/-- Settles O16, check by check in the order of R185. -/
theorem readEntryAnswers : Obligations.ReadEntryAnswers := by
  intro src tag table index part s htakes u answer
  have hanswer : ∀ c d, readEntryResult table.toNat index.toNat (part.map BitVec.toNat) u =
      { state := u, code := c, data := d } → answer c d :=
    fun _ _ hbody => answersAs_exec rfl rfl htakes hbody
  refine ⟨fun hnone => hanswer _ _ ?_, fun t ht => ⟨fun hindex => hanswer _ _ ?_, fun hindex =>
    ⟨fun hpart => hanswer _ _ ?_, fun hpart => ⟨fun habsent => hanswer _ _ ?_, fun d hd => ?_⟩⟩⟩⟩
  · simp [readEntryResult, hnone, refuse]
  · simp [readEntryResult, ht, hindex, refuse]
  · simp [readEntryResult, ht, hindex, hpart, refuse]
  · simp [readEntryResult, ht, hindex, hpart, habsent, refuse]
  have hpart' : (part.map BitVec.toNat).isSome = (t == .chime) := by rw [Option.isSome_map, hpart]
  have hentry := readEntryResult_of_entry ht hindex hpart' hd
  refine ⟨fun hp => hanswer _ _ ?_, fun hp => hanswer _ _ ?_, fun p hp hne0 hne1 => hanswer _ _ ?_⟩
  · rw [hentry]
    rcases hp with rfl | rfl <;> rfl
  · rw [hentry, hp]
    cases htail : chimeTail index.toNat u <;> simp [readPart, htail, refuse]
  · have h0 : p.toNat ≠ 0 := fun h => hne0 (BitVec.eq_of_toNat_eq h)
    have h1 : p.toNat ≠ 1 := fun h => hne1 (BitVec.eq_of_toNat_eq h)
    rw [hentry, hp, Option.map_some]
    unfold readPart
    split <;> simp_all [refuse]

/-! ## The tables (R195) -/

theorem tableOf_eq_some_iff {n : Nat} {t : TableId} : tableOf n = some t ↔ n = t.code := by
  constructor
  · intro h
    have hpos : n ≠ 0 := fun h0 => by simp [tableOf, h0] at h
    have hlt : n ≤ 18 := by
      by_contra hbig
      simp [tableOf, hpos, tableIds, show 18 ≤ n - 1 by omega] at h
    interval_cases n <;> first | exact absurd rfl hpos | (cases h; rfl)
  · rintro rfl
    cases t <;> rfl

theorem tableOf_bounds {n : Nat} {t : TableId} (h : tableOf n = some t) : 1 ≤ n ∧ n ≤ 18 := by
  obtain rfl := tableOf_eq_some_iff.mp h
  cases t <;> decide

theorem tableOf_eq (n : Nat) : tableOf n = match n with
    | 1 => some .station | 2 => some .lineSettings | 3 => some .geometry | 4 => some .landing | 5 => some .detector
    | 6 => some .callPoint | 7 => some .zone | 8 => some .fireSettings | 9 => some .shutter | 10 => some .push
    | 11 => some .pattern | 12 => some .ringer | 13 => some .boardLayout | 14 => some .onTimes | 15 => some .day
    | 16 => some .closing | 17 => some .chime | 18 => some .amplifier | _ => none := by
  by_cases hn : n ≤ 18
  · interval_cases n <;> rfl
  · have hnone : tableOf n = none := by
      cases h : tableOf n with
      | none => rfl
      | some t => exact absurd (tableOf_bounds h).2 hn
    rw [hnone]
    split <;> first | rfl | omega

/-- The safety tables and the index ranges (R185, R195). -/
theorem indexOk_iff (n : Nat) (t : TableId) (i : Nat) : tableOf n = some t →
    (t.safety = true ↔ n ≤ 9) ∧
    (t.indexOk i = true ↔ match n with
      | 1 => 1 ≤ i ∧ i ≤ 223
      | 4 | 18 => i ≤ 7
      | 5 => i ≤ 47
      | 6 => i ≤ 23
      | 7 | 11 | 12 | 17 => i ≤ 15
      | 9 | 16 => i ≤ 31
      | 10 | 13 => i ≤ 63
      | 15 => i ≤ 6
      | _ => i = 0) := by
  intro h
  obtain ⟨hlo, hhi⟩ := tableOf_bounds h
  interval_cases n <;> cases h <;>
    simp [TableId.safety, TableId.indexOk, outside, Nat.one_le_iff_ne_zero, Nat.lt_succ_iff]

/-! ## The layouts (R195) -/

theorem stepBytesOk_iff (d : List Byte) : stepBytesOk d = true ↔
    (byteAt d 2 = 5 ∨ byteAt d 2 = 6 → byteAt d 3 = 0) ∧
    (byteAt d 2 = 0 ∨ byteAt d 2 = 1 ∨ byteAt d 2 = 5 → byteAt d 4 = 0) ∧
    (byteAt d 2 = 3 ∨ byteAt d 2 = 4 ∨ byteAt d 2 = 6 → byteAt d 4 = 0 ∧ byteAt d 5 = 0) := by
  have hword : wordAt d 4 = 0 ↔ byteAt d 4 = 0 ∧ byteAt d 5 = 0 := by
    have : wordAt d 4 = byteAt d 4 * 256 + byteAt d 5 := rfl
    omega
  unfold stepBytesOk
  split <;> simp_all

theorem restOk_iff (a b c e : Byte) : restOk [a, b, c, e] = true ↔ (b = 4 → a = 0) := by
  have hb : byteAt [a, b, c, e] 1 = 4 ↔ b = 4 := BitVec.toNat_inj (y := 4#8)
  have ha : byteAt [a, b, c, e] 0 = 0 ↔ a = 0 := BitVec.toNat_inj (y := 0#8)
  rw [restOk, Bool.or_eq_true, Bool.not_eq_true', beq_eq_false_iff_ne, beq_iff_eq, ne_eq, hb, ha]
  tauto

/-- Every REST note of whole notes has divider 0. -/
theorem rests_iff (l : List Byte) : ∀ m, l.length = 4 * m →
    ((noteBytes l).all restOk = true ↔ ∀ k, l[4 * k + 1]? = some 4 → l[4 * k]? = some 0) := by
  induction l using noteBytes.induct with
  | case1 a b c e rest ih =>
    intro m hm
    simp only [List.length_cons] at hm
    have hrest := ih (m - 1) (by omega)
    simp only [noteBytes, List.all_cons, Bool.and_eq_true, restOk_iff, hrest]
    constructor
    · rintro ⟨hfirst, hothers⟩ k
      cases k with
      | zero => simpa using hfirst
      | succ k => simpa [Nat.mul_succ] using hothers k
    · intro h
      exact ⟨by simpa using h 0, fun k => by simpa [Nat.mul_succ] using h (k + 1)⟩
  | case2 l hshort =>
    intro m hm
    have hnil : l = [] := by
      match l, hm with
      | [], _ => rfl
      | [_], h => simp at h; omega
      | [_, _], h => simp at h; omega
      | [_, _, _], h => simp at h; omega
      | a :: b :: c :: e :: rest, _ => exact absurd rfl (hshort a b c e rest)
    simp [hnil, noteBytes]

theorem wholeNotes_iff (l : List Byte) :
    ([4, 8, 12, 16].contains l.length && (noteBytes l).all restOk) = true ↔
      (l.length = 4 ∨ l.length = 8 ∨ l.length = 12 ∨ l.length = 16) ∧
      ∀ k, l[4 * k + 1]? = some 4 → l[4 * k]? = some 0 := by
  rw [Bool.and_eq_true]
  have hcontains : [4, 8, 12, 16].contains l.length = true ↔
      (l.length = 4 ∨ l.length = 8 ∨ l.length = 12 ∨ l.length = 16) := by simp
  rw [hcontains]
  refine and_congr_right fun hlen => rests_iff l (l.length / 4) (by omega)

theorem chimeBytesOk_iff (d : List Byte) : chimeBytesOk d = true ↔
    (d[0]? = some 0 ∧ ([4, 8, 12, 16].contains (d.drop 2).length && (noteBytes (d.drop 2)).all restOk) = true) ∨
    (d[0]? = some 1 ∧ ([4, 8, 12, 16].contains (d.drop 1).length && (noteBytes (d.drop 1)).all restOk) = true) := by
  have hfirst : ∀ (a : Byte) (l : List Byte) (n : Nat) (hn : n < 256), byteAt (a :: l) 0 = n ↔ a = BitVec.ofNat 8 n := by
    intro a l n hn
    rw [← BitVec.toNat_inj, BitVec.toNat_ofNat, Nat.mod_eq_of_lt hn]
    rfl
  match d with
  | [] => simp [chimeBytesOk]
  | [a] =>
    unfold chimeBytesOk
    by_cases h1 : a = 1
    · simp [h1, byteAt]
    · have : byteAt [a] 0 ≠ 1 := fun h => h1 ((hfirst a [] 1 (by omega)).mp h)
      split <;> simp_all
  | a :: b :: l =>
    by_cases h0 : a = 0
    · simp [chimeBytesOk, h0, byteAt]
    · by_cases h1 : a = 1
      · simp [chimeBytesOk, h1, byteAt]
      · have hne0 : byteAt (a :: b :: l) 0 ≠ 0 := fun h => h0 ((hfirst a _ 0 (by omega)).mp h)
        have hne1 : byteAt (a :: b :: l) 0 ≠ 1 := fun h => h1 ((hfirst a _ 1 (by omega)).mp h)
        unfold chimeBytesOk
        split <;> simp_all

/-- The layouts of the entry data (R195). -/
theorem dataOk_iff (n : Nat) (t : TableId) (d : List Byte) : tableOf n = some t →
    let b := fun k => (d[k]?.getD 0).toNat
    let notes := fun (l : List Byte) => (l.length = 4 ∨ l.length = 8 ∨ l.length = 12 ∨ l.length = 16) ∧
      ∀ k, l[4 * k + 1]? = some 4 → l[4 * k]? = some 0
    (t.dataOk d = true ↔ match n with
      | 1 | 8 => d.length = 4
      | 2 | 14 => d.length = 3
      | 3 => d.length = 14
      | 4 => d.length = 7
      | 5 => d.length = 5
      | 6 | 12 | 15 | 18 => d.length = 2
      | 7 | 11 => d.length = 6
      | 9 => d.length = 9
      | 10 => d.length = 8
      | 13 => d.length = 2 ∧ (b 0 = 0 → b 1 = 0)
      | 16 => d.length = 6 ∧ (b 2 = 5 ∨ b 2 = 6 → b 3 = 0) ∧
          (b 2 = 0 ∨ b 2 = 1 ∨ b 2 = 5 → b 4 = 0) ∧ (b 2 = 3 ∨ b 2 = 4 ∨ b 2 = 6 → b 4 = 0 ∧ b 5 = 0)
      | _ => (d[0]? = some 0 ∧ notes (d.drop 2)) ∨ (d[0]? = some 1 ∧ notes (d.drop 1))) := by
  intro h b notes
  obtain rfl := tableOf_eq_some_iff.mp h
  cases t with
  | boardLayout =>
    have hcell : TableId.boardLayout.dataOk d = true ↔ d.length = 2 ∧ (byteAt d 0 = 0 → byteAt d 1 = 0) := by
      simp [TableId.dataOk, Decidable.imp_iff_not_or]
    exact hcell
  | closing =>
    have hstep : TableId.closing.dataOk d = true ↔ d.length = 6 ∧ stepBytesOk d = true := by simp [TableId.dataOk]
    rw [hstep, stepBytesOk_iff]
    rfl
  | chime =>
    have hchime := chimeBytesOk_iff d
    rw [wholeNotes_iff, wholeNotes_iff] at hchime
    exact hchime
  | _ => exact beq_iff_eq

/-! ## Write Entry (R185) -/

theorem checked_data (s : State) (l : List (Bool × Code)) (ok : State) : (checked s l ok).data = [] := by
  unfold checked
  split <;> rfl

/-- The reply to a Write Entry carries no data. -/
theorem writeTable_data (t : TableId) (i : Nat) (d : List Byte) (s : State) : (writeTable t i d s).data = [] := by
  cases t with
  | boardLayout => unfold writeTable writeCell; dsimp only; split <;> [rfl; exact checked_data ..]
  | closing => unfold writeTable writeStep; dsimp only; split <;> [rfl; exact checked_data ..]
  | chime => unfold writeTable writeChime; dsimp only; split <;> exact checked_data ..
  | _ => exact checked_data ..

/-- Settles O18: the tables, index ranges and layouts by table, and the checks in the order of R185. -/
theorem writeEntryAnswers : Obligations.WriteEntryAnswers := by
  refine ⟨tableOf_eq, indexOk_iff, dataOk_iff, ?_⟩
  intro src tag table index data s htakes u o answer
  refine ⟨fun hlen => ?_, fun hlo hhi => ?_⟩
  · have hbad : outside 1 22 data.length = true := by simpa [outside] using hlen
    have hexec : o = finish s s := by simp only [o, exec, execWriteEntry, hbad, if_true]
    exact hexec ▸ endsAs_finish s s
  have hok : lengthOk (.writeEntry src tag table index data) = true := by
    have : outside 1 22 data.length = false := by
      simp only [outside, Bool.or_eq_false_iff, decide_eq_false_iff_not]
      omega
    simp only [lengthOk, this, Bool.not_false]
  have hanswer : ∀ c v, writeEntryResult table.toNat index.toNat data u = { state := v, code := c, data := [] } →
      answer c v := fun _ _ hbody => answersAs_exec rfl hok htakes hbody
  refine ⟨fun hnone => hanswer _ _ ?_, fun t ht => ⟨fun hsafe harmed => hanswer _ _ ?_, fun hfree =>
    ⟨fun hindex => hanswer _ _ ?_, fun hindex => ⟨fun hdata => hanswer _ _ ?_, fun hdata => hanswer _ _ ?_⟩⟩⟩⟩
  · simp [writeEntryResult, hnone, refuse]
  · simp [writeEntryResult, ht, hsafe, harmed, refuse]
  · simp [writeEntryResult, ht, hfree, hindex, refuse]
  · simp [writeEntryResult, ht, hfree, hindex, hdata, refuse]
  · simp only [writeEntryResult, ht, hfree, hindex, hdata, Bool.not_true, Bool.false_eq_true, if_false]
    rw [← writeTable_data t index.toNat data u]

end Sys2Proof.Machine
end

section
/-! SUPPORT. What a change of one entry of one table leaves: every other entry of every table as it was. -/

namespace Sys2Proof.Machine

variable {s s' : State} {t : TableId} {i : Nat}

/-! ## One entry changed -/

/-- Two tables agree at every index but `i`. -/
def AgreeBut {α : Type} (i : Nat) (x y : Table α) : Prop := ∀ j, j ≠ i → tget x j = tget y j

theorem agreeBut_tput {α : Type} (x : Table α) (i : Nat) (v : α) : AgreeBut i (tput x i v) x :=
  fun j hj => by rw [tget_tput, if_neg (Ne.symm hj)]

theorem agreeBut_tdel {α : Type} (x : Table α) (i : Nat) : AgreeBut i (tdel x i) x :=
  fun j hj => by rw [tget_tdel, if_neg (Ne.symm hj)]

theorem agreeBut_tmod {α : Type} (x : Table α) (i : Nat) (f : α → α) : AgreeBut i (tmod x i f) x :=
  fun j hj => by rw [tget_tmod, if_neg (Ne.symm hj)]

/-- The state `s'` differs from `s` in the entry at index `i` of table `t` alone, and for the line settings in the
panel timer. -/
inductive TableChange (s : State) (i : Nat) : TableId → State → Prop
  | station (x) (h : AgreeBut i x s.reg.stations) :
      TableChange s i .station (s.onReg fun r => { r with stations := x })
  | lineSettings (x n) : TableChange s i .lineSettings (s.onReg fun r => { r with settings := x, panelTimer := n })
  | geometry (x) : TableChange s i .geometry (s.onPat fun p => { p with geometry := x })
  | landing (x) (h : AgreeBut i x s.pat.landings) :
      TableChange s i .landing (s.onPat fun p => { p with landings := x })
  | detector (x) (h : AgreeBut i x s.fire.detectors) :
      TableChange s i .detector (s.onFire fun u => { u with detectors := x })
  | callPoint (x) (h : AgreeBut i x s.fire.callPoints) :
      TableChange s i .callPoint (s.onFire fun u => { u with callPoints := x })
  | zone (x) (h : AgreeBut i x s.fire.zones) : TableChange s i .zone (s.onFire fun u => { u with zones := x })
  | fireSettings (x) : TableChange s i .fireSettings (s.onFire fun u => { u with settings := x })
  | shutter (x) (h : AgreeBut i x s.shut) : TableChange s i .shutter (s.onShut fun _ => x)
  | push (x) (h : AgreeBut i x s.call.pushes) : TableChange s i .push (s.onCall fun u => { u with pushes := x })
  | pattern (x) (h : AgreeBut i x s.call.patterns) :
      TableChange s i .pattern (s.onCall fun u => { u with patterns := x })
  | ringer (x) (h : AgreeBut i x s.call.ringers) :
      TableChange s i .ringer (s.onCall fun u => { u with ringers := x })
  | boardLayout (x) (h : AgreeBut i x s.board.layout) :
      TableChange s i .boardLayout (s.onBoard fun b => { b with layout := x })
  | onTimes (x) : TableChange s i .onTimes (s.onBoard fun b => { b with settings := x })
  | day (x) (h : AgreeBut i x s.ann.days) : TableChange s i .day (s.onAnn fun u => { u with days := x })
  | closing (x) (h : AgreeBut i x s.ann.programme) :
      TableChange s i .closing (s.onAnn fun u => { u with programme := x })
  | chime (x) (h : AgreeBut i x s.ann.chimes) : TableChange s i .chime (s.onAnn fun u => { u with chimes := x })
  | amplifier (x) (h : AgreeBut i x s.ann.amps) : TableChange s i .amplifier (s.onAnn fun u => { u with amps := x })

/-- Every other entry of every table reads as it did. -/
theorem TableChange.entryData (h : TableChange s i t s') (hi : t.indexOk i = true) {u : TableId} {j : Nat}
    (hj : u.indexOk j = true) (hne : (u, j) ≠ (t, i)) : entryData u j s' = Machine.entryData u j s := by
  have hother : u = t → j ≠ i := fun hut hji => hne (by rw [hut, hji])
  cases h with
  | station x h => cases u with
    | station => exact congrArg (Option.map _) (h j (hother rfl))
    | _ => rfl
  | lineSettings x n => cases u with
    | lineSettings => exact absurd ((beq_iff_eq.mp hj).trans (beq_iff_eq.mp hi).symm) (hother rfl)
    | _ => rfl
  | geometry x => cases u with
    | geometry => exact absurd ((beq_iff_eq.mp hj).trans (beq_iff_eq.mp hi).symm) (hother rfl)
    | _ => rfl
  | landing x h => cases u with
    | landing => exact congrArg (Option.map _) (h j (hother rfl))
    | _ => rfl
  | detector x h => cases u with
    | detector => exact congrArg (Option.map _) (h j (hother rfl))
    | _ => rfl
  | callPoint x h => cases u with
    | callPoint => exact congrArg (Option.map _) (h j (hother rfl))
    | _ => rfl
  | zone x h => cases u with
    | zone => exact congrArg (Option.map _) (h j (hother rfl))
    | _ => rfl
  | fireSettings x => cases u with
    | fireSettings => exact absurd ((beq_iff_eq.mp hj).trans (beq_iff_eq.mp hi).symm) (hother rfl)
    | _ => rfl
  | shutter x h => cases u with
    | shutter => exact congrArg (Option.map _) (h j (hother rfl))
    | _ => rfl
  | push x h => cases u with
    | push => exact congrArg (Option.map _) (h j (hother rfl))
    | _ => rfl
  | pattern x h => cases u with
    | pattern => exact congrArg (Option.map _) (h j (hother rfl))
    | _ => rfl
  | ringer x h => cases u with
    | ringer => exact congrArg (Option.map _) (h j (hother rfl))
    | _ => rfl
  | boardLayout x h => cases u with
    | boardLayout => exact congrArg (Option.map _) (h j (hother rfl))
    | _ => rfl
  | onTimes x => cases u with
    | onTimes => exact absurd ((beq_iff_eq.mp hj).trans (beq_iff_eq.mp hi).symm) (hother rfl)
    | _ => rfl
  | day x h => cases u with
    | day => exact congrArg (Option.map _) (h j (hother rfl))
    | _ => rfl
  | closing x h => cases u with
    | closing => exact congrArg (Option.map _) (h j (hother rfl))
    | _ => rfl
  | chime x h => cases u with
    | chime => exact congrArg (Option.map _) (h j (hother rfl))
    | _ => rfl
  | amplifier x h => cases u with
    | amplifier => exact congrArg (Option.map _) (h j (hother rfl))
    | _ => rfl

/-- The second parts of the other chimes read as they did. -/
theorem TableChange.chimeTail (h : TableChange s i t s') {j : Nat} (hne : t ≠ .chime ∨ j ≠ i) :
    chimeTail j s' = Machine.chimeTail j s := by
  cases h with
  | chime x h =>
    have hget : tget x j = tget s.ann.chimes j := h j (hne.resolve_left fun h => h rfl)
    unfold Machine.chimeTail
    rw [State.onAnn_ann, hget]
  | _ => rfl

/-! ## Checks in order (R185) -/

/-- The code of a list of checks: that of the first that fails, and OK when none does. -/
def checkCode (l : List (Bool × Code)) : Code := ((l.find? fun c => c.1).map fun c => c.2).getD .ok

theorem firstFailure_eq (l : List (Bool × Code)) : firstFailure l = (l.find? fun c => c.1).map fun c => c.2 := by
  induction l with
  | nil => rfl
  | cons a l ih =>
    obtain ⟨b, c⟩ := a
    cases b <;> simp [firstFailure, ih]

theorem checked_code (s : State) (l : List (Bool × Code)) (ok : State) : (checked s l ok).code = checkCode l := by
  unfold checked checkCode
  rw [firstFailure_eq]
  split
  next h => rw [h]; rfl
  next h => rw [h]; rfl

/-- When no check has the code OK, a check list is passed exactly when no check fails. -/
theorem checkCode_eq_ok_iff {l : List (Bool × Code)} (hl : ∀ c ∈ l, c.2 ≠ .ok) :
    checkCode l = .ok ↔ ∀ c ∈ l, c.1 = false := by
  induction l with
  | nil => simp [checkCode]
  | cons a l ih =>
    obtain ⟨b, c⟩ := a
    have hc : c ≠ .ok := hl (b, c) List.mem_cons_self
    have htail := ih fun x hx => hl x (List.mem_cons_of_mem _ hx)
    cases b with
    | true => simp [checkCode, hc]
    | false =>
      have hskip : checkCode ((false, c) :: l) = checkCode l := rfl
      rw [hskip, htail]
      simp

theorem checked_state_of_ok {s : State} {l : List (Bool × Code)} {ok : State} (h : (checked s l ok).code = .ok)
    (hl : ∀ c ∈ l, c.2 ≠ .ok) : (checked s l ok).state = ok := by
  rw [checked_code, checkCode_eq_ok_iff hl] at h
  have hnone : firstFailure l = none := by
    rw [firstFailure_eq, Option.map_eq_none_iff, List.find?_eq_none]
    exact fun c hc => by simp [h c hc]
  rw [checked, hnone]
  rfl

theorem checked_state_of_refused {s : State} {l : List (Bool × Code)} {ok : State} (h : (checked s l ok).code ≠ .ok) :
    (checked s l ok).state = s := by
  unfold checked at h ⊢
  split
  · rfl
  next hnone => rw [hnone] at h; exact absurd rfl h

end Sys2Proof.Machine
end

section
/-! SUPPORT. Delete Entry: its checks, the state it leaves, and the statement about it. -/

namespace Sys2Proof.Machine

/-- The table's own checks at a Delete Entry (R185 check 6). -/
def deleteChecks (t : TableId) (i : Nat) (s : State) : List (Bool × Code) :=
  match t with
  | .station => [(stationNamed s i, .inUse)]
  | .landing => [(tany s.shut (fun e => e.landing == some i), .inUse)]
  | .zone => [(zoneNamed s i, .inUse)]
  | .shutter => [(cellNames s (.shutter i), .inUse)]
  | .push => [(cellNames s (.push i) || s.call.hasCall i, .inUse)]
  | .pattern => [(patternNamed s i, .inUse)]
  | .ringer => [(ringerBusy s i, .busy), (ringerNamed s i, .inUse)]
  | .onTimes => [(s.board.mode != .dark, .busy)]
  | .closing => [(s.ann.closing == .running, .wrongState)]
  | .chime => [(chimeNamed s i, .inUse), (chimePlaying s i, .busy)]
  | .amplifier => [(ampBusy s i, .busy)]
  | .lineSettings | .geometry | .detector | .callPoint | .fireSettings | .boardLayout | .day => []

/-- The state with the entry at index `i` of table `t` absent; the panel timer goes with the line settings (R167). -/
def deleted (t : TableId) (i : Nat) (s : State) : State :=
  match t with
  | .station => s.onReg fun k => { k with stations := tdel k.stations i }
  | .lineSettings => s.onReg fun k => { k with settings := none, panelTimer := none }
  | .geometry => s.onPat fun k => { k with geometry := none }
  | .landing => s.onPat fun k => { k with landings := tdel k.landings i }
  | .detector => s.onFire fun k => { k with detectors := tdel k.detectors i }
  | .callPoint => s.onFire fun k => { k with callPoints := tdel k.callPoints i }
  | .zone => s.onFire fun k => { k with zones := tdel k.zones i }
  | .fireSettings => s.onFire fun k => { k with settings := none }
  | .shutter => s.onShut fun k => tdel k i
  | .push => s.onCall fun k => { k with pushes := tdel k.pushes i }
  | .pattern => s.onCall fun k => { k with patterns := tdel k.patterns i }
  | .ringer => s.onCall fun k => { k with ringers := tdel k.ringers i }
  | .boardLayout => s.onBoard fun k => { k with layout := tdel k.layout i }
  | .onTimes => s.onBoard fun k => { k with settings := none }
  | .day => s.onAnn fun k => { k with days := tdel k.days i }
  | .closing => s.onAnn fun k => { k with programme := tdel k.programme i }
  | .chime => s.onAnn fun k => { k with chimes := tdel k.chimes i }
  | .amplifier => s.onAnn fun k => { k with amps := tdel k.amps i }

section
variable (t : TableId) (i : Nat) (s : State)

theorem deleteTable_eq : deleteTable t i s = checked s (deleteChecks t i s) (deleted t i s) := by
  cases t <;> rfl

theorem deleteChecks_not_ok : ∀ c ∈ deleteChecks t i s, c.2 ≠ .ok := by
  cases t <;> simp [deleteChecks]

theorem deleted_change : TableChange s i t (deleted t i s) := by
  cases t with
  | station => exact .station _ (agreeBut_tdel _ _)
  | lineSettings => exact .lineSettings none none
  | geometry => exact .geometry none
  | landing => exact .landing _ (agreeBut_tdel _ _)
  | detector => exact .detector _ (agreeBut_tdel _ _)
  | callPoint => exact .callPoint _ (agreeBut_tdel _ _)
  | zone => exact .zone _ (agreeBut_tdel _ _)
  | fireSettings => exact .fireSettings none
  | shutter => exact .shutter _ (agreeBut_tdel _ _)
  | push => exact .push _ (agreeBut_tdel _ _)
  | pattern => exact .pattern _ (agreeBut_tdel _ _)
  | ringer => exact .ringer _ (agreeBut_tdel _ _)
  | boardLayout => exact .boardLayout _ (agreeBut_tdel _ _)
  | onTimes => exact .onTimes none
  | day => exact .day _ (agreeBut_tdel _ _)
  | closing => exact .closing _ (agreeBut_tdel _ _)
  | chime => exact .chime _ (agreeBut_tdel _ _)
  | amplifier => exact .amplifier _ (agreeBut_tdel _ _)

theorem entryData_deleted : entryData t i (deleted t i s) = none := by
  cases t <;> simp [entryData, deleted]

theorem chimeTail_deleted : chimeTail i (deleted .chime i s) = none := by
  simp [chimeTail, deleted]

theorem optAny_eq (o : Option Nat) (n : Nat) : (o.any fun k => k == n) = (o == some n) := by
  cases o <;> rfl

/-- What names a zone (R46). -/
theorem zoneNamed_eq : zoneNamed s i =
    ((s.fire.detectors.any fun e => e.2.zone == i) || (s.fire.callPoints.any fun e => e.2.zone == i) ||
      (s.shut.any fun e => e.2.zoneA == i || e.2.zoneB == some i) || s.board.layout.any fun e => e.2 == .zone i) := by
  simp only [zoneNamed, tany, Shutter.inZone, optAny_eq, cellNames]

end

/-- Settles O20: a deletion is its table's checks and the state without the entry. -/
theorem deleteEntryAnswers : Obligations.DeleteEntryAnswers := by
  intro src tag table index s htakes u answer
  have hanswer : ∀ c v, deleteEntryResult table.toNat index.toNat u = { state := v, code := c, data := [] } →
      answer c v := fun _ _ hbody => answersAs_exec rfl rfl htakes hbody
  refine ⟨fun hnone => hanswer _ _ ?_, fun t ht => ⟨fun hsafe harmed => hanswer _ _ ?_, fun hfree =>
    ⟨fun hindex => hanswer _ _ ?_, fun hindex => ⟨fun habsent => hanswer _ _ ?_, fun hpresent => ?_⟩⟩⟩⟩
  · simp [deleteEntryResult, hnone, refuse]
  · simp [deleteEntryResult, ht, hsafe, harmed, refuse]
  · simp [deleteEntryResult, ht, hfree, hindex, refuse]
  · simp [deleteEntryResult, ht, hfree, hindex, habsent, refuse]
  intro r i first shown
  have hr : r = checked u (deleteChecks t i u) (deleted t i u) := deleteTable_eq t i u
  have hstate : r.code = .ok → r.state = deleted t i u :=
    fun h => hr ▸ checked_state_of_ok (hr ▸ h) (deleteChecks_not_ok t i u)
  refine ⟨hanswer _ _ ?_, fun h => hr ▸ checked_state_of_refused (hr ▸ h), fun hok => ?_,
    fun x j => ⟨by simp, fun hne => by simp [Ne.symm hne]⟩, ?_⟩
  · have hdata : r.data = [] := hr ▸ checked_data ..
    have hsome : (entryData t i u).isNone = false := by
      rw [Option.isNone_eq_false_iff, hpresent]
    simp only [deleteEntryResult, ht, hfree, hindex, Bool.not_true, Bool.false_eq_true, if_false]
    rw [if_neg (by rw [hsome]; simp), ← hdata]
  · have hchange := deleted_change t i u
    rw [hstate hok]
    refine ⟨entryData_deleted t i u, fun x j hj hne => hchange.entryData hindex hj hne, ?_,
      fun j hj => hchange.chimeTail hj, ?_⟩
    · rintro rfl
      exact chimeTail_deleted i u
    · cases t <;> rfl
  · have hcode : r.code = checkCode (deleteChecks t i u) := hr ▸ checked_code ..
    rw [hcode]
    cases t with
    | zone => simp only [deleteChecks, zoneNamed_eq]; rfl
    | _ => rfl

end Sys2Proof.Machine
end

section
/-! SUPPORT. Write Entry: the entry that each table's layout gives, its table's checks, its bytes read back, and the
statement about it. -/

namespace Sys2Proof.Machine

/-! ## Fields read back from their bytes (R194, R195) -/

theorem quantity_word (a b : Byte) : quantity 2 (a.toNat * 256 + b.toNat) = [a, b] := by
  have ha := a.isLt
  have hb := b.isLt
  rw [quantity_two (by omega), show (a.toNat * 256 + b.toNat) / 256 = a.toNat by omega, byteOf_of_toNat]
  congr 2
  refine BitVec.eq_of_toNat_eq ?_
  change (a.toNat * 256 + b.toNat) % 2 ^ 8 = b.toNat
  omega

theorem flagByte_eq {a : Byte} (h : a.toNat ≤ 1) : flagByte (a.toNat == 1) = a := by
  have hcases : a = 0 ∨ a = 1 := by
    rcases Nat.le_one_iff_eq_zero_or_eq_one.mp h with h | h
    · exact .inl (BitVec.eq_of_toNat_eq h)
    · exact .inr (BitVec.eq_of_toNat_eq h)
  rcases hcases with rfl | rfl <;> rfl

theorem optQuantity_one (a : Byte) : optQuantity 1 (if a.toNat = 255 then none else some a.toNat) = [a] := by
  split
  next h => rw [show a = 255 from BitVec.eq_of_toNat_eq h]; rfl
  next => rw [optQuantity, quantity_one a.isLt, byteOf_of_toNat]

theorem named_valueOf {α : Type} [BEq α] [LawfulBEq α] {l : List α} (hl : l.Nodup) {a : Byte} (h : a.toNat < l.length)
    (x : α) : named l ((valueOf l a.toNat).getD x) = a := by
  have hget : valueOf l a.toNat = some l[a.toNat] := List.getElem?_eq_getElem h
  rw [hget, Option.getD_some, named, hl.idxOf_getElem, byteOf_of_toNat]

/-! ## The entries that a layout gives -/

section
variable (i : Nat) (d : List Byte) (s : State)

/-- R158, R159. -/
def stationEntry : Station :=
  let old := tget s.reg.stations i
  { role := (valueOf roles (byteAt d 0)).getD .detector, floor := byteAt d 1,
    cls := (valueOf pollClasses (byteAt d 2)).getD .fast, missLimit := byteAt d 3,
    presence := (old.map fun o => o.presence).getD .unseen, miss := 0,
    mark := (old.map fun o => o.mark).getD false }

/-- R160. -/
def lineSettingsEntry : LineSettings := { panel := byteAt d 0, window := byteAt d 1, timeout := byteAt d 2 }

/-- R2. -/
def landingEntry : Landing :=
  { (tget s.pat.landings i).getD
      { up := 0, down := 0, station := 0, restClear := false, rank := 0, tripped := false, stopSwitch := false,
        upBeam := Beam.start, downBeam := Beam.start } with
    up := wordAt d 0, down := wordAt d 2, station := byteAt d 4, restClear := byteAt d 5 == 1, rank := byteAt d 6 }

/-- R44. -/
def detectorEntry : Detector :=
  { (tget s.fire.detectors i).getD
      { station := 0, zone := 0, alarm := 0, restore := 0, confirm := 0, level := 0, run := 0, active := false,
        fault := false } with
    station := byteAt d 0, zone := byteAt d 1, alarm := byteAt d 2, restore := byteAt d 3, confirm := byteAt d 4 }

/-- R45. -/
def callPointEntry : CallPoint :=
  { (tget s.fire.callPoints i).getD { station := 0, zone := 0, operated := false, fault := false } with
    station := byteAt d 0, zone := byteAt d 1 }

/-- R46. -/
def zoneEntry : Zone :=
  { (tget s.fire.zones i).getD
      { ackTime := 0, investTime := 0, coincidence := false, evacFloors := 0, tableIsolated := false,
        state := .quiet, timer := none, acked := false, confirmers := 0, fault := false, mark := false } with
    ackTime := byteAt d 0, investTime := wordAt d 1, coincidence := byteAt d 3 == 1, evacFloors := d[4]?.getD 0,
    tableIsolated := byteAt d 5 == 1 }

/-- R47. -/
def fireSettingsEntry : FireSettings :=
  { evacPhrase := byteAt d 0, alertPhrase := byteAt d 1, pattern := byteAt d 2, gap := byteAt d 3 }

/-- R68. -/
def shutterEntry : Shutter := shutterOf ((tget s.shut i).getD Shutter.blank) d

/-- R96. -/
def pushEntry : Push :=
  { station := byteAt d 0, key := byteAt d 1, floor := byteAt d 2, priority := byteAt d 3, pattern := byteAt d 4,
    ringer := byteAt d 5, escalation := (optAt d 6).bind fun r => (optAt d 7).map fun p => (r, p) }

/-- R97. -/
def patternEntry : Pattern :=
  { strokes := byteAt d 0, spacing := byteAt d 1,
    repeating := if byteAt d 2 = 1 then (optWordAt d 3).bind fun n => (optAt d 5).map fun l => (n, l) else none }

/-- R98. -/
def ringerEntry : Ringer :=
  { (tget s.call.ringers i).getD
      { station := 0, floor := 0, ring := none, number := none, timer := none, slot := none } with
    station := byteAt d 0, floor := byteAt d 1 }

/-- R122. -/
def cellEntry : Assignment := (assignmentOf d).getD .none

/-- R123. -/
def onTimesEntry : OnTimes := { n1 := byteAt d 0, n2 := byteAt d 1, limit := byteAt d 2 }

/-- R138. -/
def stepEntry : Step := { offset := wordAt d 0, kind := (stepKindOf d).getD .finish }

/-- R149: the chime table with part 0 or part 1 of a chime written. -/
def chimesWritten (x : Table Chime) : Table Chime :=
  if byteAt d 0 = 0 then tput x i { notes := (noteBytes (d.drop 2)).map noteOf, repeats := byteAt d 1 }
  else tmod x i fun c => { c with notes := c.notes ++ (noteBytes (d.drop 1)).map noteOf }

/-- R146. -/
def ampEntry : Amp :=
  { (tget s.ann.amps i).getD
      { station := 0, floor := 0, state := .idle, origin := none, phrase := none, number := none, phraseTimer := none,
        gen := none, gapTimer := none, owed := false, slot := none } with
    station := byteAt d 0, floor := byteAt d 1 }

end

/-- The state with the entry written (R185). -/
def written (t : TableId) (i : Nat) (d : List Byte) (s : State) : State :=
  match t with
  | .station => s.onReg fun k => { k with stations := tput k.stations i (stationEntry i d s) }
  | .lineSettings =>
    s.onReg fun k => { k with settings := some (lineSettingsEntry d), panelTimer := some (secs (byteAt d 2)) }
  | .geometry => s.onPat fun k => { k with geometry := some (geometryOf d) }
  | .landing => s.onPat fun k => { k with landings := tput k.landings i (landingEntry i d s) }
  | .detector => s.onFire fun k => { k with detectors := tput k.detectors i (detectorEntry i d s) }
  | .callPoint => s.onFire fun k => { k with callPoints := tput k.callPoints i (callPointEntry i d s) }
  | .zone => s.onFire fun k => { k with zones := tput k.zones i (zoneEntry i d s) }
  | .fireSettings => s.onFire fun k => { k with settings := some (fireSettingsEntry d) }
  | .shutter => s.onShut fun k => tput k i (shutterEntry i d s)
  | .push => s.onCall fun k => { k with pushes := tput k.pushes i (pushEntry d) }
  | .pattern => s.onCall fun k => { k with patterns := tput k.patterns i (patternEntry d) }
  | .ringer => s.onCall fun k => { k with ringers := tput k.ringers i (ringerEntry i d s) }
  | .boardLayout => s.onBoard fun k => { k with layout := tput k.layout i (cellEntry d) }
  | .onTimes => s.onBoard fun k => { k with settings := some (onTimesEntry d) }
  | .day => s.onAnn fun k => { k with days := tput k.days i (wordAt d 0) }
  | .closing => s.onAnn fun k => { k with programme := tput k.programme i (stepEntry d) }
  | .chime => s.onAnn fun k => { k with chimes := chimesWritten i d k.chimes }
  | .amplifier => s.onAnn fun k => { k with amps := tput k.amps i (ampEntry i d s) }

/-- The table's own checks at a Write Entry (R185 check 6). -/
def writeChecks (t : TableId) (i : Nat) (d : List Byte) (s : State) : List (Bool × Code) :=
  let b := byteAt d
  match t with
  | .station =>
    [((tget s.reg.stations i).isNone && decide (s.reg.stations.length ≥ Config.stationTable), .badIndex),
     (outside 0 8 (b 0) || outside 0 7 (b 1) || outside 0 1 (b 2) || outside 1 8 (b 3), .badValue)]
  | .lineSettings => [(outside 224 239 (b 0) || outside 5 100 (b 1) || outside 5 120 (b 2), .badValue)]
  | .geometry => [(geometryBad (geometryOf d), .badValue)]
  | .landing =>
    [(outside 0 31999 (wordAt d 0) || outside 0 31999 (wordAt d 2) || outside 1 223 (b 4) || outside 0 1 (b 5) ||
       outside 0 7 (b 6), .badValue)]
  | .detector =>
    [(outside 1 223 (b 0) || outside 0 15 (b 1) || b 2 == 0 || decide (b 2 ≤ b 3) || outside 1 8 (b 4), .badValue),
     ((tget s.fire.zones (b 1)).isNone, .badIndex),
     (anyOther s.fire.detectors i (fun o => o.station == b 0), .inUse)]
  | .callPoint =>
    [(outside 1 223 (b 0) || outside 0 15 (b 1), .badValue), ((tget s.fire.zones (b 1)).isNone, .badIndex),
     (anyOther s.fire.callPoints i (fun o => o.station == b 0), .inUse)]
  | .zone =>
    [(outside 10 120 (b 0) || outside 30 600 (wordAt d 1) || outside 0 1 (b 3) || outside 0 1 (b 5), .badValue)]
  | .fireSettings =>
    [(outside 0 15 (b 2) || outside 1 30 (b 3), .badValue), ((tget s.call.patterns (b 2)).isNone, .badIndex)]
  | .shutter =>
    let e := shutterEntry i d s
    [(outside 1 223 (b 0) || outside 0 15 (b 1) || optAbove 15 (optAt d 2) || outside 0 1 (b 3) ||
       optAbove 7 (optAt d 4) || outside 0 7 (b 5) || outside 0 60 (b 6) || outside 5 120 (b 7) || outside 0 1 (b 8) ||
       (e.kind == .shaft && e.landing.isNone) || (e.kind == .department && e.landing.isSome) ||
       (e.kind == .shaft && e.landing.any (· != b 5)) || optAt d 2 == some (b 1), .badValue),
     ((tget s.fire.zones (b 1)).isNone || optMissing s.fire.zones (optAt d 2) ||
       optMissing s.pat.landings (optAt d 4), .badIndex),
     (anyOther s.shut i (fun o => o.station == b 0), .inUse)]
  | .push =>
    [(outside 1 223 (b 0) || outside 0 7 (b 1) || outside 0 7 (b 2) || outside 0 6 (b 3) || outside 0 15 (b 4) ||
       outside 0 15 (b 5) || optAbove 15 (optAt d 6) || optAbove 15 (optAt d 7) ||
       (optAt d 6).isSome != (optAt d 7).isSome || (pushEntry d).escalation == some (b 5, b 4), .badValue),
     ((tget s.call.patterns (b 4)).isNone || (tget s.call.ringers (b 5)).isNone ||
       optMissing s.call.ringers (optAt d 6) || optMissing s.call.patterns (optAt d 7) || roleLacking s (b 0) .push,
       .badIndex),
     (anyOther s.call.pushes i (fun o => o.station == b 0 && o.key == b 1), .inUse)]
  | .pattern =>
    [(outside 1 15 (b 0) || outside 1 20 (b 1) || outside 0 1 (b 2) || (optWordAt d 3).any (outside 5 600) ||
       optAbove 15 (optAt d 5) || (b 2 == 0 && ((optWordAt d 3).isSome || (optAt d 5).isSome)) ||
       (b 2 == 1 && ((optWordAt d 3).isNone || (optAt d 5).isNone)), .badValue)]
  | .ringer =>
    [(outside 1 223 (b 0) || outside 0 7 (b 1), .badValue), (roleLacking s (b 0) .ringer, .badIndex),
     (ringerBusy s i, .busy)]
  | .boardLayout =>
    [((assignmentOf d).isNone, .badValue), (assignmentDangling s (cellEntry d), .badIndex),
     (assignmentTaken s i (cellEntry d), .inUse)]
  | .onTimes => [(decide (b 1 < b 0) || outside 5 40 (b 2), .badValue)]
  | .day => [(outside 0 1439 (wordAt d 0), .badValue)]
  | .closing =>
    [((stepKindOf d).isNone || outside 0 3600 (wordAt d 0), .badValue), (stepDangling s (stepEntry d).kind, .badIndex),
     (offsetOut s.ann.programme i (wordAt d 0), .badValue), (s.ann.closing == .running, .wrongState)]
  | .chime =>
    if b 0 = 0 then
      [(outside 1 4 (b 1) || (noteBytes (d.drop 2)).any noteBad, .badValue), (chimePlaying s i, .busy)]
    else
      [((noteBytes (d.drop 1)).any noteBad, .badValue), (chimePlaying s i, .busy),
       ((tget s.ann.chimes i).isNone, .badIndex),
       ((tget s.ann.chimes i).any fun c => c.notes.length != 4, .wrongState)]
  | .amplifier =>
    [(outside 1 223 (b 0) || b 1 != i, .badValue), (roleLacking s (b 0) .amplifier, .badIndex),
     (anyOther s.ann.amps i (fun o => o.station == b 0), .inUse), (ampBusy s i, .busy)]

@[simp] theorem outside_zero (hi n : Nat) : outside 0 hi n = decide (n > hi) := by simp [outside]

theorem decide_lt_one (n : Nat) : decide (n < 1) = (n == 0) := by
  cases n <;> simp

section
variable (t : TableId) (i : Nat) (d : List Byte) (s : State)

/-- A write is its table's checks and the state with the entry. -/
theorem writeTable_eq : writeTable t i d s = checked s (writeChecks t i d s) (written t i d s) := by
  cases t with
  | detector =>
    simp only [writeChecks, outside_zero, ← decide_lt_one]
    rfl
  | boardLayout =>
    unfold writeTable writeCell writeChecks written cellEntry
    dsimp only
    split
    next h => simp [h, checked, firstFailure]
    next a h => simp [h, checked, firstFailure]
  | closing =>
    unfold writeTable writeStep writeChecks written stepEntry
    dsimp only
    split
    next h => simp [h, checked, firstFailure]
    next k h => simp [h]
  | chime =>
    unfold writeTable writeChime writeChecks written chimesWritten
    dsimp only
    split <;> rfl
  | _ => simp only [writeChecks, outside_zero]; rfl

theorem writeChecks_not_ok : ∀ c ∈ writeChecks t i d s, c.2 ≠ .ok := by
  cases t with
  | chime => unfold writeChecks; dsimp only; split <;> simp
  | _ => simp [writeChecks]

theorem chimesWritten_agree (i : Nat) (d : List Byte) (x : Table Chime) : AgreeBut i (chimesWritten i d x) x := by
  unfold chimesWritten
  split <;> [exact agreeBut_tput _ _ _; exact agreeBut_tmod _ _ _]

theorem written_change : TableChange s i t (written t i d s) := by
  cases t with
  | station => exact .station _ (agreeBut_tput _ _ _)
  | lineSettings => exact .lineSettings (some _) (some _)
  | geometry => exact .geometry (some _)
  | landing => exact .landing _ (agreeBut_tput _ _ _)
  | detector => exact .detector _ (agreeBut_tput _ _ _)
  | callPoint => exact .callPoint _ (agreeBut_tput _ _ _)
  | zone => exact .zone _ (agreeBut_tput _ _ _)
  | fireSettings => exact .fireSettings (some _)
  | shutter => exact .shutter _ (agreeBut_tput _ _ _)
  | push => exact .push _ (agreeBut_tput _ _ _)
  | pattern => exact .pattern _ (agreeBut_tput _ _ _)
  | ringer => exact .ringer _ (agreeBut_tput _ _ _)
  | boardLayout => exact .boardLayout _ (agreeBut_tput _ _ _)
  | onTimes => exact .onTimes (some _)
  | day => exact .day _ (agreeBut_tput _ _ _)
  | closing => exact .closing _ (agreeBut_tput _ _ _)
  | chime =>
    exact .chime _ (chimesWritten_agree i d s.ann.chimes)
  | amplifier => exact .amplifier _ (agreeBut_tput _ _ _)

end

/-! ## Read back byte for byte -/

section
variable {i : Nat} {d : List Byte} {s : State}

/-- The checks that a list of them passes, one by one. -/
theorem passed_cons {b : Bool} {c : Code} {l : List (Bool × Code)} :
    (∀ x ∈ (b, c) :: l, x.1 = false) ↔ b = false ∧ ∀ x ∈ l, x.1 = false := by
  simp

theorem outside_eq_false_iff {lo hi n : Nat} : outside lo hi n = false ↔ lo ≤ n ∧ n ≤ hi := by
  simp [outside]

theorem readBack_station (hd : d.length = 4) (h : ∀ c ∈ writeChecks .station i d s, c.1 = false) :
    entryData .station i (written .station i d s) = some d := by
  match d, hd with
  | [a, b, c, e], _ =>
    simp only [writeChecks, passed_cons, Bool.or_eq_false_iff, outside_eq_false_iff] at h
    obtain ⟨-, ⟨⟨⟨hrole, -⟩, hcls⟩, -⟩, -⟩ := h
    have hr : a.toNat < roles.length := Nat.lt_succ_of_le hrole.2
    have hc : c.toNat < pollClasses.length := Nat.lt_succ_of_le hcls.2
    simp only [entryData, written, State.onReg_reg, tget_tput, if_true, Option.map_some, stationEntry, byteAt,
      List.getElem?_cons_zero, List.getElem?_cons_succ, Option.getD_some, byteOf_of_toNat,
      named_valueOf (by decide) hr, named_valueOf (by decide) hc]

theorem readBack_lineSettings (hd : d.length = 3) :
    entryData .lineSettings i (written .lineSettings i d s) = some d := by
  match d, hd with
  | [a, b, c], _ => simp [entryData, written, lineSettingsEntry, byteAt, byteOf_of_toNat]

theorem eq_seven {l : List Byte} (h : l.length = 7) : ∃ a b c e f g k, l = [a, b, c, e, f, g, k] :=
  match l, h with
  | [_, _, _, _, _, _, _], _ => ⟨_, _, _, _, _, _, _, rfl⟩

theorem readBack_geometry (hd : d.length = 14) : entryData .geometry i (written .geometry i d s) = some d := by
  obtain ⟨a0, a1, a2, a3, a4, a5, a6, hfirst⟩ := eq_seven (l := d.take 7) (by simp [hd])
  obtain ⟨a7, a8, a9, a10, a11, a12, a13, hlast⟩ := eq_seven (l := d.drop 7) (by simp [hd])
  obtain rfl : d = [a0, a1, a2, a3, a4, a5, a6] ++ [a7, a8, a9, a10, a11, a12, a13] := by
    rw [← hfirst, ← hlast, List.take_append_drop]
  have hfields : geometryData (geometryOf ([a0, a1, a2, a3, a4, a5, a6] ++ [a7, a8, a9, a10, a11, a12, a13])) =
      quantity 2 (a0.toNat * 256 + a1.toNat) ++ [byteOf a2.toNat] ++ quantity 2 (a3.toNat * 256 + a4.toNat) ++
        [byteOf a5.toNat] ++ quantity 2 (a6.toNat * 256 + a7.toNat) ++
        [byteOf a8.toNat, byteOf a9.toNat, byteOf a10.toNat, byteOf a11.toNat] ++
        quantity 2 (a12.toNat * 256 + a13.toNat) := rfl
  change some (geometryData (geometryOf _)) = _
  rw [hfields]
  simp only [quantity_word, byteOf_of_toNat]
  rfl

theorem readBack_landing (hd : d.length = 7) (h : ∀ c ∈ writeChecks .landing i d s, c.1 = false) :
    entryData .landing i (written .landing i d s) = some d := by
  obtain ⟨a0, a1, a2, a3, a4, a5, a6, rfl⟩ := eq_seven hd
  simp only [writeChecks, passed_cons, Bool.or_eq_false_iff, outside_eq_false_iff] at h
  obtain ⟨⟨⟨-, hflag⟩, -⟩, -⟩ := h
  have hf : a5.toNat ≤ 1 := hflag.2
  simp [entryData, written, landingEntry, wordAt, byteAt, byteOf_of_toNat, quantity_word, flagByte_eq hf]

theorem readBack_detector (hd : d.length = 5) : entryData .detector i (written .detector i d s) = some d := by
  match d, hd with
  | [a0, a1, a2, a3, a4], _ => simp [entryData, written, detectorEntry, byteAt, byteOf_of_toNat]

theorem readBack_callPoint (hd : d.length = 2) : entryData .callPoint i (written .callPoint i d s) = some d := by
  match d, hd with
  | [a0, a1], _ => simp [entryData, written, callPointEntry, byteAt, byteOf_of_toNat]

theorem readBack_zone (hd : d.length = 6) (h : ∀ c ∈ writeChecks .zone i d s, c.1 = false) :
    entryData .zone i (written .zone i d s) = some d := by
  match d, hd with
  | [a0, a1, a2, a3, a4, a5], _ =>
    simp only [writeChecks, passed_cons, Bool.or_eq_false_iff, outside_eq_false_iff] at h
    obtain ⟨⟨⟨-, hcoincidence⟩, hisolated⟩, -⟩ := h
    have h3 : a3.toNat ≤ 1 := hcoincidence.2
    have h5 : a5.toNat ≤ 1 := hisolated.2
    simp [entryData, written, zoneEntry, wordAt, byteAt, byteOf_of_toNat, quantity_word, flagByte_eq h3, flagByte_eq h5]

theorem readBack_fireSettings (hd : d.length = 4) :
    entryData .fireSettings i (written .fireSettings i d s) = some d := by
  match d, hd with
  | [a0, a1, a2, a3], _ => simp [entryData, written, fireSettingsEntry, byteAt, byteOf_of_toNat]

theorem named_kind {a : Byte} (h : a.toNat ≤ 1) :
    named shutterKinds (if a.toNat = 1 then ShutterKind.shaft else .department) = a := by
  refine Eq.trans ?_ (flagByte_eq h)
  by_cases h1 : a.toNat = 1
  · rw [if_pos h1, h1]; rfl
  · rw [if_neg h1, beq_eq_false_iff_ne.mpr h1]; rfl

theorem readBack_shutter (hd : d.length = 9) (h : ∀ c ∈ writeChecks .shutter i d s, c.1 = false) :
    entryData .shutter i (written .shutter i d s) = some d := by
  match d, hd with
  | [a0, a1, a2, a3, a4, a5, a6, a7, a8], _ =>
    simp only [writeChecks, passed_cons, Bool.or_eq_false_iff, outside_eq_false_iff] at h
    obtain ⟨⟨⟨⟨⟨⟨⟨⟨⟨⟨⟨-, hkind⟩, -⟩, -⟩, -⟩, -⟩, hnight⟩, -⟩, -⟩, -⟩, -⟩, -⟩ := h
    have h3 : a3.toNat ≤ 1 := hkind.2
    have h8 : a8.toNat ≤ 1 := hnight.2
    simp [entryData, written, shutterEntry, shutterOf, shutterData, optAt, byteAt, byteOf_of_toNat, optQuantity_one,
      flagByte_eq h8, named_kind h3]

theorem readBack_push (hd : d.length = 8) (h : ∀ c ∈ writeChecks .push i d s, c.1 = false) :
    entryData .push i (written .push i d s) = some d := by
  match d, hd with
  | [a0, a1, a2, a3, a4, a5, a6, a7], _ =>
    simp only [writeChecks, passed_cons, Bool.or_eq_false_iff] at h
    obtain ⟨⟨⟨-, hboth⟩, -⟩, -⟩ := h
    have hdata : entryData .push i (written .push i [a0, a1, a2, a3, a4, a5, a6, a7] s) =
        some ([byteOf a0.toNat, byteOf a1.toNat, byteOf a2.toNat, byteOf a3.toNat, byteOf a4.toNat, byteOf a5.toNat] ++
          optQuantity 1 ((pushEntry [a0, a1, a2, a3, a4, a5, a6, a7]).escalation.map Prod.fst) ++
          optQuantity 1 ((pushEntry [a0, a1, a2, a3, a4, a5, a6, a7]).escalation.map Prod.snd)) := by
      simp [entryData, written, pushEntry, byteAt]
    have h6 := optQuantity_one a6
    have h7 := optQuantity_one a7
    simp only [bne_eq_false_iff_eq, optAt, byteAt, List.getElem?_cons_zero, List.getElem?_cons_succ,
      Option.getD_some] at hboth
    rw [hdata]
    simp only [pushEntry, optAt, byteAt, List.getElem?_cons_zero, List.getElem?_cons_succ, Option.getD_some]
    by_cases h6' : a6.toNat = 255 <;> by_cases h7' : a7.toNat = 255 <;>
      simp_all [byteOf_of_toNat]

theorem readBack_pattern (hd : d.length = 6) (h : ∀ c ∈ writeChecks .pattern i d s, c.1 = false) :
    entryData .pattern i (written .pattern i d s) = some d := by
  match d, hd with
  | [a0, a1, a2, a3, a4, a5], _ =>
    simp only [writeChecks, passed_cons, Bool.or_eq_false_iff, outside_eq_false_iff] at h
    obtain ⟨⟨⟨⟨⟨⟨-, hflag⟩, -⟩, -⟩, hnormal⟩, hrepeat⟩, -⟩ := h
    have h2 : a2.toNat ≤ 1 := hflag.2
    have hdata : entryData .pattern i (written .pattern i [a0, a1, a2, a3, a4, a5] s) =
        some (patternData (patternEntry [a0, a1, a2, a3, a4, a5])) := by
      simp [entryData, written]
    rw [hdata]
    have hword : wordAt [a0, a1, a2, a3, a4, a5] 3 = a3.toNat * 256 + a4.toNat := rfl
    have hkind : byteAt [a0, a1, a2, a3, a4, a5] 2 = a2.toNat := rfl
    have hlimit : byteAt [a0, a1, a2, a3, a4, a5] 5 = a5.toNat := rfl
    simp only [optWordAt, optAt, hword, hkind, hlimit] at hnormal hrepeat
    have hall : ∀ {a : Byte}, a.toNat = 255 → a = 255 := fun h => BitVec.eq_of_toNat_eq h
    have hl3 := a3.isLt
    have hl4 := a4.isLt
    rcases Nat.le_one_iff_eq_zero_or_eq_one.mp h2 with hzero | hone
    · obtain rfl : a2 = 0 := BitVec.eq_of_toNat_eq hzero
      simp at hnormal
      obtain rfl : a3 = 255 := hall (by omega)
      obtain rfl : a4 = 255 := hall (by have := hnormal.1; simp at this; omega)
      obtain rfl : a5 = 255 := hall hnormal.2
      simp [patternEntry, patternData, byteAt, byteOf_of_toNat, absent, List.replicate]
    · obtain rfl : a2 = 1 := BitVec.eq_of_toNat_eq hone
      simp at hrepeat
      have hentry : patternEntry [a0, a1, 1, a3, a4, a5] =
          { strokes := a0.toNat, spacing := a1.toNat,
            repeating := some (a3.toNat * 256 + a4.toNat, a5.toNat) } := by
        unfold patternEntry optWordAt optAt
        rw [hword, hkind, hlimit, if_pos hone, if_neg hrepeat.1, if_neg hrepeat.2]
        rfl
      rw [hentry]
      simp [patternData, quantity_word, byteOf_of_toNat]

theorem readBack_ringer (hd : d.length = 2) : entryData .ringer i (written .ringer i d s) = some d := by
  match d, hd with
  | [a0, a1], _ => simp [entryData, written, ringerEntry, byteAt, byteOf_of_toNat]

theorem readBack_onTimes (hd : d.length = 3) : entryData .onTimes i (written .onTimes i d s) = some d := by
  match d, hd with
  | [a0, a1, a2], _ => simp [entryData, written, onTimesEntry, byteAt, byteOf_of_toNat]

theorem readBack_day (hd : d.length = 2) : entryData .day i (written .day i d s) = some d := by
  match d, hd with
  | [a0, a1], _ => simp [entryData, written, wordAt, byteAt, quantity_word]

theorem readBack_amplifier (hd : d.length = 2) : entryData .amplifier i (written .amplifier i d s) = some d := by
  match d, hd with
  | [a0, a1], _ => simp [entryData, written, ampEntry, byteAt, byteOf_of_toNat]

/-- The assignment that a cell's bytes give has these bytes. -/
theorem cellData_of_assignmentOf {a : Assignment} (hd : TableId.dataOk .boardLayout d = true)
    (h : assignmentOf d = some a) : cellData a = d := by
  obtain ⟨hlen, hnone⟩ : d.length = 2 ∧ (byteAt d 0 = 0 → byteAt d 1 = 0) := (dataOk_iff 13 .boardLayout d rfl).mp hd
  match d, hlen with
  | [a0, a1], _ =>
    have hp : byteAt [a0, a1] 1 = a1.toNat := rfl
    unfold assignmentOf at h
    rw [hp] at h hnone
    dsimp only at h
    split at h
    next h0 =>
      obtain rfl : a0 = 0 := BitVec.eq_of_toNat_eq h0
      obtain rfl : a1 = 0 := BitVec.eq_of_toNat_eq (hnone h0)
      cases h
      rfl
    next h0 =>
      obtain rfl : a0 = 1 := BitVec.eq_of_toNat_eq h0
      obtain ⟨-, rfl⟩ := by simpa using h
      simp [cellData, byteOf_of_toNat]
    next h0 =>
      obtain rfl : a0 = 2 := BitVec.eq_of_toNat_eq h0
      obtain ⟨-, rfl⟩ := by simpa using h
      simp [cellData, byteOf_of_toNat]
    next h0 =>
      obtain rfl : a0 = 3 := BitVec.eq_of_toNat_eq h0
      obtain ⟨-, rfl⟩ := by simpa using h
      simp [cellData, byteOf_of_toNat]
    next h0 =>
      obtain rfl : a0 = 4 := BitVec.eq_of_toNat_eq h0
      obtain ⟨f, hf, rfl⟩ := Option.map_eq_some_iff.mp h
      have hlt : a1.toNat < fixedConditions.length := (List.getElem?_eq_some_iff.mp hf).1
      have hnamed := named_valueOf (by decide) hlt f
      rw [hf] at hnamed
      exact congrArg (fun b => [4, b]) hnamed
    next => cases h

theorem readBack_boardLayout (hd : TableId.dataOk .boardLayout d = true)
    (h : ∀ c ∈ writeChecks .boardLayout i d s, c.1 = false) :
    entryData .boardLayout i (written .boardLayout i d s) = some d := by
  simp only [writeChecks, passed_cons] at h
  obtain ⟨hsome, -⟩ := h
  obtain ⟨a, ha⟩ : ∃ a, assignmentOf d = some a := by
    cases hc : assignmentOf d with
    | none => rw [hc] at hsome; cases hsome
    | some a => exact ⟨a, rfl⟩
  simp [entryData, written, cellEntry, ha, cellData_of_assignmentOf hd ha]

theorem setBytes_append (a b : Byte) : setBytes 2 (a ++ b) = [b, a] := by
  have ha := a.isLt
  have hb := b.isLt
  have hnat : (a ++ b).toNat = a.toNat * 256 + b.toNat := by
    rw [BitVec.toNat_append, ← Nat.shiftLeft_add_eq_or_of_lt hb, Nat.shiftLeft_eq]
  have hlow : byteOf ((a ++ b).toNat / 256 ^ 0) = b := BitVec.eq_of_toNat_eq (by
    change (a ++ b).toNat / 1 % 2 ^ 8 = _
    omega)
  have hhigh : byteOf ((a ++ b).toNat / 256 ^ 1) = a := BitVec.eq_of_toNat_eq (by
    change (a ++ b).toNat / 256 % 2 ^ 8 = _
    omega)
  change [byteOf ((a ++ b).toNat / 256 ^ 0), byteOf ((a ++ b).toNat / 256 ^ 1)] = _
  rw [hlow, hhigh]

/-- The step that a layout gives has the bytes of the layout. -/
theorem stepData_of_stepKindOf {k : StepKind} (hd : TableId.dataOk .closing d = true) (h : stepKindOf d = some k) :
    stepData { offset := wordAt d 0, kind := k } = d := by
  obtain ⟨hlen, hbytes⟩ : d.length = 6 ∧ stepBytesOk d = true := by simpa only [TableId.dataOk, Bool.and_eq_true, beq_iff_eq] using hd
  match d, hlen with
  | [a0, a1, a2, a3, a4, a5], _ =>
    obtain ⟨h3, h4, h45⟩ := (stepBytesOk_iff _).mp hbytes
    simp only [byteAt, List.getElem?_cons_zero, List.getElem?_cons_succ, Option.getD_some] at h3 h4 h45
    unfold stepKindOf at h
    dsimp only at h
    have hzero : ∀ {a : Byte}, a.toNat = 0 → a = 0 := fun h => BitVec.eq_of_toNat_eq h
    have hoffset : quantity 2 (wordAt [a0, a1, a2, a3, a4, a5] 0) = [a0, a1] := quantity_word a0 a1
    split at h
    next hk =>
      obtain rfl : a2 = 0 := BitVec.eq_of_toNat_eq hk
      obtain rfl := hzero (h4 (.inl hk))
      simp only [Option.ite_none_right_eq_some, Option.some.injEq] at h
      obtain ⟨-, rfl⟩ := h
      rw [stepData, hoffset]
      simp [byteAt, byteOf_of_toNat]
    next hk =>
      obtain rfl : a2 = 1 := BitVec.eq_of_toNat_eq hk
      obtain rfl := hzero (h4 (.inr (.inl hk)))
      cases h
      rw [stepData, hoffset]
      simp [byteAt, byteOf_of_toNat]
    next hk =>
      obtain rfl : a2 = 2 := BitVec.eq_of_toNat_eq hk
      simp only [Option.ite_none_right_eq_some, Option.some.injEq] at h
      obtain ⟨-, rfl⟩ := h
      rw [stepData, hoffset]
      simp [byteAt, byteOf_of_toNat, setBytes_append]
    next hk =>
      obtain rfl : a2 = 3 := BitVec.eq_of_toNat_eq hk
      obtain ⟨h4, h5⟩ := h45 (.inl hk)
      obtain rfl := hzero h4
      obtain rfl := hzero h5
      simp only [Option.ite_none_right_eq_some, Option.some.injEq] at h
      obtain ⟨-, rfl⟩ := h
      rw [stepData, hoffset]
      simp [byteAt, byteOf_of_toNat]
    next hk =>
      obtain rfl : a2 = 4 := BitVec.eq_of_toNat_eq hk
      obtain ⟨h4, h5⟩ := h45 (.inr (.inl hk))
      obtain rfl := hzero h4
      obtain rfl := hzero h5
      simp only [Option.ite_none_left_eq_some, Option.some.injEq] at h
      obtain ⟨-, rfl⟩ := h
      rw [stepData, hoffset]
      simp [byteAt, byteOf_of_toNat]
    next hk =>
      obtain rfl : a2 = 5 := BitVec.eq_of_toNat_eq hk
      obtain rfl := hzero (h3 (.inl hk))
      obtain rfl := hzero (h4 (.inr (.inr hk)))
      cases h
      rw [stepData, hoffset]
      rfl
    next hk =>
      obtain rfl : a2 = 6 := BitVec.eq_of_toNat_eq hk
      obtain rfl := hzero (h3 (.inr hk))
      obtain ⟨h4, h5⟩ := h45 (.inr (.inr hk))
      obtain rfl := hzero h4
      obtain rfl := hzero h5
      cases h
      rw [stepData, hoffset]
      rfl
    next => cases h

theorem readBack_closing (hd : TableId.dataOk .closing d = true) (h : ∀ c ∈ writeChecks .closing i d s, c.1 = false) :
    entryData .closing i (written .closing i d s) = some d := by
  simp only [writeChecks, passed_cons, Bool.or_eq_false_iff] at h
  obtain ⟨⟨hsome, -⟩, -⟩ := h
  obtain ⟨k, hk⟩ : ∃ k, stepKindOf d = some k := by
    cases hc : stepKindOf d with
    | none => rw [hc] at hsome; cases hsome
    | some k => exact ⟨k, rfl⟩
  simp [entryData, written, stepEntry, hk, stepData_of_stepKindOf hd hk]

/-! ### Chimes, in two parts (R149, R195) -/

theorem noteData_noteOf {a b c e : Byte} (hrest : restOk [a, b, c, e] = true) (hgood : noteBad [a, b, c, e] = false) :
    noteData (noteOf [a, b, c, e]) = [a, b, c, e] := by
  have hb : b.toNat ≤ 4 := by
    simp only [noteBad, Bool.or_eq_false_iff, decide_eq_false_iff_not, not_lt, gt_iff_lt] at hgood
    exact hgood.1
  rcases Nat.lt_or_eq_of_le hb with hlt | heq
  · obtain ⟨x, hget⟩ : ∃ x, valueOf noteClocks b.toNat = some x := ⟨_, List.getElem?_eq_getElem hlt⟩
    have hnamed := named_valueOf (l := noteClocks) (by decide) hlt x
    rw [hget, Option.getD_some] at hnamed
    have hnote : noteOf [a, b, c, e] =
        { pitch := some (a.toNat, x), duration := c.toNat, gap := e.toNat } := by
      change Note.mk ((valueOf noteClocks b.toNat).map fun c => (a.toNat, c)) c.toNat e.toNat = _
      rw [hget]
      rfl
    rw [hnote]
    change [byteOf a.toNat, named noteClocks x, byteOf c.toNat, byteOf e.toNat] = _
    rw [hnamed]
    simp only [byteOf_of_toNat]
  · obtain rfl : b = 4 := BitVec.eq_of_toNat_eq heq
    obtain rfl : a = 0 := (restOk_iff _ _ _ _).mp hrest rfl
    change [0, 4, byteOf c.toNat, byteOf e.toNat] = _
    rw [byteOf_of_toNat, byteOf_of_toNat]

/-- Whole notes read back. -/
theorem notes_readBack (l : List Byte) : ∀ m, l.length = 4 * m → (noteBytes l).all restOk = true →
    (noteBytes l).any noteBad = false → ((noteBytes l).map fun n => noteData (noteOf n)).flatten = l := by
  induction l using noteBytes.induct with
  | case1 a b c e rest ih =>
    intro m hm hrest hgood
    simp only [noteBytes, List.all_cons, Bool.and_eq_true, List.any_cons, Bool.or_eq_false_iff] at hrest hgood
    simp only [List.length_cons] at hm
    rw [noteBytes, List.map_cons, List.flatten_cons, noteData_noteOf hrest.1 hgood.1,
      ih (m - 1) (by omega) hrest.2 hgood.2]
    rfl
  | case2 l hshort =>
    intro m hm _ _
    match l with
    | [] => rfl
    | [_] | [_, _] | [_, _, _] => simp only [List.length_cons, List.length_nil] at hm; omega
    | a :: b :: c :: e :: rest => exact absurd rfl (hshort a b c e rest)

theorem noteBytes_length (l : List Byte) : (noteBytes l).length = l.length / 4 := by
  induction l using noteBytes.induct with
  | case1 a b c e rest ih => simp only [noteBytes, List.length_cons, ih]; omega
  | case2 l hshort =>
    match l with
    | [] | [_] | [_, _] | [_, _, _] => simp [noteBytes]
    | a :: b :: c :: e :: rest => exact absurd rfl (hshort a b c e rest)

/-- One to four whole notes, with divider 0 in every REST note, and each in its ranges. -/
def NotesFit (l : List Byte) : Prop :=
  ([4, 8, 12, 16].contains l.length && (noteBytes l).all restOk) = true ∧ (noteBytes l).any noteBad = false

theorem NotesFit.length_bounds {l : List Byte} (h : NotesFit l) :
    1 ≤ ((noteBytes l).map noteOf).length ∧ ((noteBytes l).map noteOf).length ≤ 4 := by
  have hlen : l.length = 4 ∨ l.length = 8 ∨ l.length = 12 ∨ l.length = 16 := ((wholeNotes_iff l).mp h.1).1
  rw [List.length_map, noteBytes_length]
  omega

theorem NotesFit.readBack {l : List Byte} (h : NotesFit l) :
    (((noteBytes l).map noteOf).map noteData).flatten = l := by
  have hlen : l.length = 4 ∨ l.length = 8 ∨ l.length = 12 ∨ l.length = 16 := ((wholeNotes_iff l).mp h.1).1
  obtain ⟨hwhole, hgood⟩ := h
  have hrest := (Bool.and_eq_true_iff.mp hwhole).2
  rw [List.map_map]
  exact notes_readBack l (l.length / 4) (by omega) hrest hgood

theorem chime_part_zero (hd : TableId.dataOk .chime d = true) (h0 : byteAt d 0 = 0)
    (h : ∀ c ∈ writeChecks .chime i d s, c.1 = false) : ∃ n l, d = 0 :: n :: l ∧ NotesFit l := by
  simp only [writeChecks, h0, if_true, passed_cons, Bool.or_eq_false_iff] at h
  obtain ⟨⟨-, hgood⟩, -⟩ := h
  rcases (chimeBytesOk_iff d).mp hd with ⟨hfirst, hfit⟩ | ⟨hfirst, -⟩
  · match d, hfirst, hfit with
    | [a], _, hfit => simp at hfit
    | a :: n :: l, hfirst, hfit =>
      obtain rfl : a = 0 := by simpa using hfirst
      exact ⟨n, l, rfl, hfit, hgood⟩
  · simp [byteAt, hfirst] at h0

theorem chime_part_one (hd : TableId.dataOk .chime d = true) (h1 : byteAt d 0 = 1)
    (h : ∀ c ∈ writeChecks .chime i d s, c.1 = false) :
    ∃ l c, d = 1 :: l ∧ NotesFit l ∧ tget s.ann.chimes i = some c ∧ c.notes.length = 4 := by
  have hne : ¬byteAt d 0 = 0 := by omega
  simp only [writeChecks, if_neg hne, passed_cons] at h
  obtain ⟨hgood, -, hsome, hfour, -⟩ := h
  rcases (chimeBytesOk_iff d).mp hd with ⟨hfirst, -⟩ | ⟨hfirst, hfit⟩
  · simp [byteAt, hfirst] at h1
  · match d, hfirst, hfit with
    | a :: l, hfirst, hfit =>
      obtain rfl : a = 1 := by simpa using hfirst
      cases hc : tget s.ann.chimes i with
      | none => rw [hc] at hsome; cases hsome
      | some c =>
        rw [hc] at hfour
        exact ⟨l, c, rfl, ⟨hfit, hgood⟩, rfl, by simpa using hfour⟩

theorem readBack_chime_zero (hd : TableId.dataOk .chime d = true) (h0 : byteAt d 0 = 0)
    (h : ∀ c ∈ writeChecks .chime i d s, c.1 = false) :
    entryData .chime i (written .chime i d s) = some d ∧ chimeTail i (written .chime i d s) = none := by
  obtain ⟨n, l, rfl, hfit⟩ := chime_part_zero hd h0 h
  have hlen := hfit.length_bounds
  have hentry : tget (written .chime i (0 :: n :: l) s).ann.chimes i =
      some { notes := (noteBytes l).map noteOf, repeats := n.toNat } := by
    simp only [written, State.onAnn_ann, chimesWritten, h0, if_true, tget_tput]
    rfl
  constructor
  · simp only [entryData, hentry, Option.map_some, List.take_of_length_le hlen.2, hfit.readBack, byteOf_of_toNat]
    rfl
  · simp only [chimeTail, hentry, hlen.2, if_true]

theorem readBack_chime_one (hd : TableId.dataOk .chime d = true) (h1 : byteAt d 0 = 1)
    (h : ∀ c ∈ writeChecks .chime i d s, c.1 = false) :
    chimeTail i (written .chime i d s) = some d ∧
      entryData .chime i (written .chime i d s) = entryData .chime i s := by
  obtain ⟨l, c, rfl, hfit, hc, hfour⟩ := chime_part_one hd h1 h
  have hne : ¬byteAt (1 :: l) 0 = 0 := by omega
  have hlen := hfit.length_bounds
  have hentry : tget (written .chime i (1 :: l) s).ann.chimes i =
      some { c with notes := c.notes ++ (noteBytes l).map noteOf } := by
    simp only [written, State.onAnn_ann, chimesWritten, if_neg hne, tget_tmod, if_true, hc]
    rfl
  constructor
  · have hlong : ¬(c.notes ++ (noteBytes l).map noteOf).length ≤ 4 := by
      rw [List.length_append]
      omega
    simp only [chimeTail, hentry, if_neg hlong, List.drop_left' hfour, hfit.readBack]
  · simp only [entryData, hentry, hc, Option.map_some, List.take_left' hfour, List.take_of_length_le hfour.le]

theorem chimesWritten_isSome (h : ∀ c ∈ writeChecks .chime i d s, c.1 = false) :
    (tget (chimesWritten i d s.ann.chimes) i).isSome = true := by
  unfold chimesWritten
  split
  next => simp
  next h0 =>
    simp only [writeChecks, if_neg h0, passed_cons] at h
    obtain ⟨-, -, hsome, -⟩ := h
    rw [tget_tmod, if_pos rfl, Option.isSome_map, ← Option.not_isNone, hsome]
    rfl

/-- Every accepted write reads back byte for byte. -/
theorem readBack (t : TableId) (ht : t ≠ .chime ∨ byteAt d 0 = 0) (hd : t.dataOk d = true)
    (h : ∀ c ∈ writeChecks t i d s, c.1 = false) : entryData t i (written t i d s) = some d := by
  cases t with
  | station => exact readBack_station (beq_iff_eq.mp hd) h
  | lineSettings => exact readBack_lineSettings (beq_iff_eq.mp hd)
  | geometry => exact readBack_geometry (beq_iff_eq.mp hd)
  | landing => exact readBack_landing (beq_iff_eq.mp hd) h
  | detector => exact readBack_detector (beq_iff_eq.mp hd)
  | callPoint => exact readBack_callPoint (beq_iff_eq.mp hd)
  | zone => exact readBack_zone (beq_iff_eq.mp hd) h
  | fireSettings => exact readBack_fireSettings (beq_iff_eq.mp hd)
  | shutter => exact readBack_shutter (beq_iff_eq.mp hd) h
  | push => exact readBack_push (beq_iff_eq.mp hd) h
  | pattern => exact readBack_pattern (beq_iff_eq.mp hd) h
  | ringer => exact readBack_ringer (beq_iff_eq.mp hd)
  | boardLayout => exact readBack_boardLayout hd h
  | onTimes => exact readBack_onTimes (beq_iff_eq.mp hd)
  | day => exact readBack_day (beq_iff_eq.mp hd)
  | closing => exact readBack_closing hd h
  | chime => exact (readBack_chime_zero hd (ht.resolve_left fun h => h rfl) h).1
  | amplifier => exact readBack_amplifier (beq_iff_eq.mp hd)

/-! ## Each table's own checks, as R185 and the tables' chapters list them -/

theorem outside_eq_not_within (lo hi n : Nat) : outside lo hi n = !(decide (lo ≤ n) && decide (n ≤ hi)) := by
  rw [outside, Bool.not_and, ← decide_not, ← decide_not]
  simp only [not_le, gt_iff_lt]

end

section
variable (i : Nat) (d : List Byte) (s : State)

/-- R1's ranges and relations, by the fields' bytes. -/
theorem geometryBad_eq :
    let b := byteAt d
    let w := wordAt d
    let bad := fun (lo hi n : Nat) => !(decide (lo ≤ n) && decide (n ≤ hi))
    geometryBad (geometryOf d) = (bad 100 1000 (w 0) || bad 2 32 (b 2) || decide (32000 < b 2 * w 0) ||
      bad 40 (w 0 - 1) (w 3) || bad 0 50 (b 5) || decide (w 0 ≤ w 3 + 2 * b 5) || decide (w 0 ≤ w 6) || bad 1 8 (b 8) ||
      bad 1 30 (b 9) || bad 1 60 (b 10) || bad 1 8 (b 11) || bad 10 600 (w 12)) := by
  intro b w bad
  have hpitch : outside 100 1000 (w 0) = false → (decide (w 3 + 2 * b 5 > w 0 - 1) = decide (w 0 ≤ w 3 + 2 * b 5)) ∧
      decide (w 6 > w 0 - 1) = decide (w 0 ≤ w 6) := fun h => by
    have hlo := (outside_eq_false_iff.mp h).1
    constructor <;> rw [decide_eq_decide] <;> omega
  have hfields : geometryBad (geometryOf d) = (outside 100 1000 (w 0) || outside 2 32 (b 2) ||
      decide (b 2 * w 0 > 32000) || outside 40 (w 0 - 1) (w 3) || decide (b 5 > 50) ||
      decide (w 3 + 2 * b 5 > w 0 - 1) || decide (w 6 > w 0 - 1) || outside 1 8 (b 8) || outside 1 30 (b 9) ||
      outside 1 60 (b 10) || outside 1 8 (b 11) || outside 10 600 (w 12)) := rfl
  rw [hfields]
  simp only [bad, ← outside_eq_not_within, outside_zero]
  cases hout : outside 100 1000 (w 0) with
  | true => simp only [Bool.true_or]
  | false => rw [(hpitch hout).1, (hpitch hout).2]


/-- A shutter's landing is given for a SHAFT shutter alone, and is then its floor (R68). -/
theorem shutterKind_checks (a c e f g h : Bool) (k n : Nat) (x : Option Nat) :
    let kind := if k = 1 then ShutterKind.shaft else .department
    (a || outside 0 1 k || c || e || f || g || h || (kind == .shaft && x.isNone) ||
      (kind == .department && x.isSome) || (kind == .shaft && x.any (· != n))) =
    (a || outside 0 1 k || c || e || f || g || h || (k == 1 && x != some n) || (k == 0 && x.isSome)) := by
  intro kind
  rcases lt_or_ge 1 k with hout | hin
  · simp [hout]
  rcases Nat.le_one_iff_eq_zero_or_eq_one.mp hin with rfl | rfl <;> cases x <;>
    simp [kind, show (ShutterKind.shaft == ShutterKind.department) = false from rfl, bne]

theorem push_escalation :
    ((pushEntry d).escalation == some (byteAt d 5, byteAt d 4)) =
      (optAt d 6 == some (byteAt d 5) && optAt d 7 == some (byteAt d 4)) := by
  unfold pushEntry
  dsimp only
  match optAt d 6, optAt d 7 with
  | some _, some _ => rfl
  | none, x | some _, none => simp

/-- R97: the fields of a pattern that repeats stand in their ranges, and those of one that does not are absent. -/
theorem pattern_checks (a : Bool) (k w l : Nat) :
    let int := if w = 65535 then none else some w
    let lim := if l = 255 then none else some l
    (a || outside 0 1 k || int.any (outside 5 600) || optAbove 15 lim || (k == 0 && (int.isSome || lim.isSome)) ||
      (k == 1 && (int.isNone || lim.isNone))) =
    (a || outside 0 1 k || (k == 0 && (w != 65535 || l != 255)) ||
      (k == 1 && (outside 5 600 w || outside 0 15 l))) := by
  intro int lim
  rcases lt_or_ge 1 k with hout | hin
  · simp [hout]
  rcases Nat.le_one_iff_eq_zero_or_eq_one.mp hin with rfl | rfl <;> by_cases hw : w = 65535 <;>
    by_cases hl : l = 255 <;> simp [int, lim, hw, hl, optAbove, outside, Bool.or_assoc]

theorem optAbove_eq (hi : Nat) (x : Option Nat) :
    optAbove hi x = x.any fun n => !(decide (0 ≤ n) && decide (n ≤ hi)) := by
  cases x with
  | none => rfl
  | some n => exact (outside_zero hi n).symm.trans (outside_eq_not_within 0 hi n)

/-- A first check that fails gives the code. -/
theorem checkCode_true {c : Code} {l : List (Bool × Code)} : checkCode ((true, c) :: l) = c := rfl

theorem checkCode_congr {b b' : Bool} {c : Code} {l l' : List (Bool × Code)} (hb : b = b')
    (hl : b' = false → checkCode l = checkCode l') : checkCode ((b, c) :: l) = checkCode ((b', c) :: l') := by
  subst hb
  cases b with
  | true => rfl
  | false => exact hl rfl

/-- R122's checks, by what the cell is assigned. -/
theorem cell_checks :
    let b := byteAt d
    checkCode (writeChecks .boardLayout i d s) = checkCode
      [(outside 0 4 (b 0) || (b 0 == 1 && outside 0 63 (b 1)) || (b 0 == 2 && outside 0 15 (b 1)) ||
         (b 0 == 3 && outside 0 31 (b 1)) || (b 0 == 4 && outside 0 4 (b 1)), .badValue),
       ((b 0 == 1 && (tget s.call.pushes (b 1)).isNone) || (b 0 == 2 && (tget s.fire.zones (b 1)).isNone) ||
         (b 0 == 3 && (tget s.shut (b 1)).isNone), .badIndex),
       (s.board.layout.any fun e => e.1 != i && ((b 0 == 1 && e.2 == .push (b 1)) ||
         (b 0 == 2 && e.2 == .zone (b 1)) || (b 0 == 3 && e.2 == .shutter (b 1))), .inUse)] := by
  intro b
  have hassign : assignmentOf d = match b 0 with
      | 0 => some .none
      | 1 => if b 1 ≤ 63 then some (.push (b 1)) else none
      | 2 => if b 1 ≤ 15 then some (.zone (b 1)) else none
      | 3 => if b 1 ≤ 31 then some (.shutter (b 1)) else none
      | 4 => (valueOf fixedConditions (b 1)).map .fixed
      | _ => none := rfl
  have hfixed : (valueOf fixedConditions (b 1)).isNone = decide (b 1 > 4) := by
    rw [Bool.eq_iff_iff, Option.isNone_iff_eq_none, decide_eq_true_eq]
    exact List.getElem?_eq_none_iff
  simp only [writeChecks, cellEntry, hassign]
  generalize b 0 = k, b 1 = p at hfixed ⊢
  match k with
  | 0 => simp [assignmentDangling, assignmentTaken, checkCode]
  | 1 =>
    rcases le_or_gt p 63 with hp | hp
    · simp [hp, not_lt.mpr hp, assignmentDangling, assignmentTaken, anyOther]
    · simp [hp, not_le.mpr hp, checkCode_true]
  | 2 =>
    rcases le_or_gt p 15 with hp | hp
    · simp [hp, not_lt.mpr hp, assignmentDangling, assignmentTaken, anyOther]
    · simp [hp, not_le.mpr hp, checkCode_true]
  | 3 =>
    rcases le_or_gt p 31 with hp | hp
    · simp [hp, not_lt.mpr hp, assignmentDangling, assignmentTaken, anyOther]
    · simp [hp, not_le.mpr hp, checkCode_true]
  | 4 =>
    refine checkCode_congr (by simpa using hfixed) fun _ => ?_
    cases valueOf fixedConditions p <;> simp [assignmentDangling, assignmentTaken, checkCode]
  | n + 5 => simp [checkCode_true]

/-- R138's checks, by the kind of step. -/
theorem step_checks :
    let b := byteAt d
    let w := wordAt d
    checkCode (writeChecks .closing i d s) = checkCode
      [(outside 0 6 (b 2) || ((b 2 == 0 || b 2 == 2) && outside 0 15 (b 3)) || (b 2 == 3 && outside 0 7 (b 3)) ||
         (b 2 == 4 && outside 1 4 (b 3)) || outside 0 3600 (w 0), .badValue),
       ((b 2 == 0 && (tget s.ann.chimes (b 3)).isNone) || (b 2 == 2 && (tget s.call.patterns (b 3)).isNone), .badIndex),
       (offsetOut s.ann.programme i (w 0), .badValue), (s.ann.closing == .running, .wrongState)] := by
  intro b w
  have hkind : stepKindOf d = match b 2 with
      | 0 => if b 3 ≤ 15 then some (.chime (b 3) (d[5]?.getD 0)) else none
      | 1 => some (.phrase (b 3) (d[5]?.getD 0))
      | 2 => if b 3 ≤ 15 then some (.ring (b 3) (d[5]?.getD 0 ++ d[4]?.getD 0)) else none
      | 3 => if b 3 ≤ 7 then some (.level (b 3)) else none
      | 4 => if outside 1 4 (b 3) then none else some (.runout (b 3))
      | 5 => some (.night (d[5]?.getD 0))
      | 6 => some .finish
      | _ => none := rfl
  simp only [writeChecks, stepEntry, hkind]
  generalize hw : wordAt d 0 = offset
  have hw' : w 0 = offset := hw
  rw [hw']
  generalize b 2 = k, b 3 = p
  match k with
  | 0 =>
    rcases le_or_gt p 15 with hp | hp
    · simp [hp, not_lt.mpr hp, stepDangling]
    · simp [hp, not_le.mpr hp, checkCode_true]
  | 1 => simp [stepDangling]
  | 2 =>
    rcases le_or_gt p 15 with hp | hp
    · simp [hp, not_lt.mpr hp, stepDangling]
    · simp [hp, not_le.mpr hp, checkCode_true]
  | 3 =>
    rcases le_or_gt p 7 with hp | hp
    · simp [hp, not_lt.mpr hp, stepDangling]
    · simp [hp, not_le.mpr hp, checkCode_true]
  | 4 => cases hp : outside 1 4 p <;> simp [stepDangling, checkCode_true]
  | 5 => simp [stepDangling]
  | 6 => simp [stepDangling]
  | n + 7 => simp [checkCode_true]

theorem noteBad_eq : noteBad = fun n => !(decide (0 ≤ byteAt n 1) && decide (byteAt n 1 ≤ 4)) || byteAt n 2 == 0 := by
  funext n
  rw [← outside_eq_not_within, outside_zero, ← decide_lt_one]
  rfl

end

/-- Settles O19: each table's checks, the entry read back, and what a write leaves as it was. -/
theorem writtenEntryReadsBack : Obligations.WrittenEntryReadsBack := by
  intro t i d s hi hd r b w bad opt first noZone noPattern noRinger noRole playing badNotes
  have hr : r = checked s (writeChecks t i d s) (written t i d s) := writeTable_eq t i d s
  have hnotok := writeChecks_not_ok t i d s
  have hrefused : r.code ≠ .ok → r.state = s := fun h => by
    rw [hr] at h ⊢
    exact checked_state_of_refused h
  have hdata : r.data = [] := by rw [hr]; exact checked_data _ _ _
  have hcode : r.code = checkCode (writeChecks t i d s) := by rw [hr]; exact checked_code _ _ _
  refine ⟨hrefused, hdata, fun hok => ?_, fun {α} x j v => ?_, ?_⟩
  · have hpass : ∀ c ∈ writeChecks t i d s, c.1 = false := (checkCode_eq_ok_iff hnotok).mp (hcode.symm.trans hok)
    have hstate : r.state = written t i d s := by
      rw [hr] at hok ⊢
      exact checked_state_of_ok hok hnotok
    have hchange := written_change t i d s
    rw [hstate]
    refine ⟨fun ht => readBack t ht hd hpass, fun ht h0 => ?_, fun ht h1 => ?_,
      fun u j hj hne => hchange.entryData hi hj hne, fun j hj => hchange.chimeTail hj, ?_⟩
    · subst ht; exact (readBack_chime_zero hd h0 hpass).2
    · subst ht; exact readBack_chime_one hd h1 hpass
    · cases t
      case station => exact ⟨stationEntry i d s, rfl, rfl, by simp only [stationEntry]; cases tget s.reg.stations i <;> rfl⟩
      case lineSettings => exact ⟨lineSettingsEntry d, rfl⟩
      case geometry => exact ⟨geometryOf d, rfl⟩
      case landing => exact ⟨landingEntry i d s, rfl, by simp only [landingEntry]; cases tget s.pat.landings i <;> rfl⟩
      case detector =>
        exact ⟨detectorEntry i d s, rfl, by simp only [detectorEntry]; cases tget s.fire.detectors i <;> rfl⟩
      case callPoint =>
        exact ⟨callPointEntry i d s, rfl, by simp only [callPointEntry]; cases tget s.fire.callPoints i <;> rfl⟩
      case zone => exact ⟨zoneEntry i d s, rfl, by simp only [zoneEntry]; cases tget s.fire.zones i <;> rfl⟩
      case fireSettings => exact ⟨fireSettingsEntry d, rfl⟩
      case shutter =>
        exact ⟨shutterEntry i d s, rfl, by simp only [shutterEntry, shutterOf]; cases tget s.shut i <;> rfl⟩
      case push => exact ⟨pushEntry d, rfl⟩
      case pattern => exact ⟨patternEntry d, rfl⟩
      case ringer => exact ⟨ringerEntry i d s, rfl, by simp only [ringerEntry]; cases tget s.call.ringers i <;> rfl⟩
      case boardLayout => exact ⟨cellEntry d, rfl⟩
      case onTimes => exact ⟨onTimesEntry d, rfl⟩
      case day => rfl
      case closing => exact ⟨stepEntry d, rfl⟩
      case chime =>
        refine ⟨chimesWritten i d s.ann.chimes, rfl, ?_, ?_⟩
        · exact chimesWritten_isSome hpass
        · exact chimesWritten_agree i d s.ann.chimes
      case amplifier => exact ⟨ampEntry i d s, rfl, by simp only [ampEntry]; cases tget s.ann.amps i <;> rfl⟩
  · exact ⟨by simp, fun hj => by simp [Ne.symm hj]⟩
  · rw [hcode]
    cases t
    case geometry => exact congrArg (fun c => checkCode [(c, .badValue)]) (geometryBad_eq d)
    case shutter =>
      simp only [writeChecks, shutterEntry, shutterOf]
      rw [shutterKind_checks]
      simp only [outside_eq_not_within, optAbove_eq]
      rfl
    case push =>
      simp only [writeChecks, outside_eq_not_within, optAbove_eq, push_escalation, anyOther, ← Bool.and_assoc]
      rfl
    case pattern =>
      refine congrArg (fun c => checkCode [(c, .badValue)]) ((pattern_checks _ (b 2) (w 3) (b 5)).trans ?_)
      simp only [outside_eq_not_within]
      rfl
    case boardLayout =>
      refine (cell_checks i d s).trans ?_
      simp only [outside_eq_not_within]
      rfl
    case closing =>
      refine (step_checks i d s).trans ?_
      simp only [outside_eq_not_within]
      rfl
    case chime =>
      simp only [writeChecks, outside_eq_not_within, noteBad_eq]
      split <;> rfl
    all_goals
      simp only [writeChecks, outside_eq_not_within]
      rfl

end Sys2Proof.Machine
end

section
/-! SUPPORT. Read Record: which index and part have data, the length of each part, and the layouts of the records and
notices. -/

namespace Sys2Proof.Machine

/-! ## Which index and part have data (R190, R196) -/

theorem bind_onlyPart_isSome {α : Type} (x : Option α) (part : Nat) (f : α → List Byte) :
    (x.bind fun e => onlyPart part (f e)).isSome = true ↔ x.isSome = true ∧ part = 0 := by
  cases x with
  | none => simp
  | some e => by_cases hp : part = 0 <;> simp [onlyPart, hp]

theorem patRecord_isSome (s : State) (part : Nat) : (patRecord s part).isSome = true ↔
    part = 0 ∨ part = 9 ∨ (1 ≤ part ∧ part ≤ 8 ∧ (tget s.pat.landings (part - 1)).isSome = true) := by
  unfold patRecord
  split
  next h0 => simp [h0]
  next h0 =>
    split
    next h8 => simp [h0, h8, Nat.one_le_iff_ne_zero, show part ≠ 9 by omega]
    next h8 => by_cases h9 : part = 9 <;> simp [h0, h8, h9]

theorem closingRecord_isSome (s : State) (part : Nat) : (closingRecord s part).isSome = true ↔
    part = 0 ∨ part = 9 ∨ part = 10 ∨ (1 ≤ part ∧ part ≤ 8 ∧ (tget s.ann.amps (part - 1)).isSome = true) := by
  unfold closingRecord
  split
  next h0 => simp [h0]
  next h0 =>
    split
    next h8 => simp [h0, h8, Nat.one_le_iff_ne_zero, show part ≠ 9 by omega, show part ≠ 10 by omega]
    next h8 => by_cases h9 : part = 9 <;> by_cases h10 : part = 10 <;> simp [h0, h8, h9, h10]

theorem boardRecord_isSome (b : Board) (part : Nat) : (boardRecord b part).isSome = true ↔ part ≤ 1 := by
  match part with
  | 0 | 1 => simp [boardRecord]
  | n + 2 => simp [boardRecord]

theorem recordData_isSome (s : State) (kind index part : Nat) :
    (recordData s kind index part).isSome = true ↔ match kind with
      | 1 => (tget s.fire.zones index).isSome = true ∧ part ≤ 1
      | 2 => (tget s.fire.detectors index).isSome = true ∧ part = 0
      | 3 => (tget s.shut index).isSome = true ∧ part = 0
      | 4 => index = 0 ∧ (part = 0 ∨ part = 9 ∨
          (1 ≤ part ∧ part ≤ 8 ∧ (tget s.pat.landings (part - 1)).isSome = true))
      | 5 => index < s.call.calls.length ∧ part = 0
      | 6 => (tget s.call.ringers index).isSome = true ∧ part = 0
      | 7 => (index = 240 ∨ (tget s.reg.stations index).isSome = true) ∧ part = 0
      | 8 => index = 0 ∧ (part = 0 ∨ part = 9 ∨ part = 10 ∨
          (1 ≤ part ∧ part ≤ 8 ∧ (tget s.ann.amps (part - 1)).isSome = true))
      | 9 => index = 0 ∧ part ≤ 1
      | _ => False := by
  match kind with
  | 1 =>
    cases hz : tget s.fire.zones index with
    | none => simp [recordData, hz]
    | some e =>
      match part with
      | 0 | 1 => simp [recordData, hz]
      | n + 2 => simp [recordData, hz]
  | 2 => exact bind_onlyPart_isSome ..
  | 3 => exact bind_onlyPart_isSome ..
  | 4 => by_cases hi : index = 0 <;> simp [recordData, hi, patRecord_isSome]
  | 5 => exact (bind_onlyPart_isSome ..).trans (by simp)
  | 6 => exact bind_onlyPart_isSome ..
  | 7 =>
    by_cases hi : index = 240
    · by_cases hp : part = 0 <;> simp [recordData, hi, onlyPart, hp]
    · simp [recordData, hi, bind_onlyPart_isSome]
  | 8 => by_cases hi : index = 0 <;> simp [recordData, hi, closingRecord_isSome]
  | 9 => by_cases hi : index = 0 <;> simp [recordData, hi, boardRecord_isSome]
  | 0 => simp [recordData]
  | n + 10 => simp [recordData]

/-! ## Bytes (R194) -/

theorem beBytes_eq (n : Nat) : ∀ v, beBytes n v = (List.range n).map fun k => BitVec.ofNat 8 (v / 256 ^ (n - 1 - k)) := by
  induction n with
  | zero => intro v; rfl
  | succ n ih =>
    intro v
    rw [beBytes, ih, List.range_succ, List.map_append]
    congr 1
    · refine List.map_congr_left fun k hk => ?_
      have hk : k < n := List.mem_range.mp hk
      rw [Nat.div_div_eq_div_mul, ← Nat.pow_succ', show (n - 1 - k).succ = n + 1 - 1 - k by omega]
    · simp [byteOf]

@[simp] theorem length_quantity (n v : Nat) : (quantity n v).length = n := quantity_length n v

@[simp] theorem length_absent (n : Nat) : (absent n).length = n := List.length_replicate

@[simp] theorem length_optQuantity (n : Nat) (v : Option Nat) : (optQuantity n v).length = n := by
  cases v <;> simp [optQuantity]

@[simp] theorem length_setBytes {w : Nat} (n : Nat) (m : BitVec w) : (setBytes n m).length = n := by simp [setBytes]

theorem setBytes_getLsbD (n : Nat) (m : BitVec (8 * n)) {k j : Nat} (hk : k < n) (hj : j < 8) :
    ((setBytes n m)[k]?.getD 0).getLsbD j = m.getLsbD (8 * k + j) := by
  have hbyte : (setBytes n m)[k]? = some (byteOf (m.toNat / 256 ^ k)) := by simp [setBytes, hk]
  rw [hbyte, Option.getD_some, byteOf, BitVec.getLsbD_ofNat, BitVec.getLsbD, show 256 ^ k = 2 ^ (8 * k) from (Nat.pow_mul 2 8 k).symm, Nat.testBit_div_two_pow]
  simp [hj, Nat.add_comm]

/-! ## Lengths (R196) -/

@[simp] theorem length_zonePayload (s : State) (z : Nat) (e : Zone) : (zonePayload s z e).length = 22 := by
  simp [zonePayload]

@[simp] theorem length_shutterRecord (i : Nat) (e : Shutter) : (shutterRecord i e).length = 9 := by
  simp [shutterRecord, shutterPayload]

@[simp] theorem length_patPayload (p : Paternoster) : (patPayload p).length = 21 := by
  simp [patPayload, removedBytes]

@[simp] theorem length_beamRecord (b : Beam) : (beamRecord b).length = 5 := by simp [beamRecord]

@[simp] theorem length_tripRecord (now : Nat) (trips : List Nat) :
    (tripRecord now trips).length = 1 + 2 * trips.length := by
  induction trips with
  | nil => rfl
  | cons t trips ih =>
    simp only [tripRecord, List.length_cons, List.map_cons, List.flatten_cons, List.length_append, length_quantity] at ih ⊢
    omega

@[simp] theorem length_callRecord (c : Call) : (callRecord c).length = 15 := by simp [callRecord]

@[simp] theorem length_ringBytes (r : Option Ring) : (ringBytes r).length = 5 := by
  match r with
  | none => rfl
  | some (.panel a b) => rfl
  | some (.request r) => cases h : r.origin <;> simp [ringBytes, h]

@[simp] theorem length_ringerRecord (s : State) (g : Ringer) : (ringerRecord s g).length = 11 := by
  simp [ringerRecord]

@[simp] theorem length_panelRecord (s : State) : (panelRecord s).length = 10 := by
  unfold panelRecord
  split <;> simp

@[simp] theorem length_genBytes (g : Option Playing) : (genBytes g).length = 2 := by cases g <;> rfl

@[simp] theorem length_closingPayload (s : State) : (closingPayload s).length = 17 := by simp [closingPayload]

@[simp] theorem length_ampRecord (a : Amp) : (ampRecord a).length = 8 := by simp [ampRecord]

@[simp] theorem length_genRecord (g : Option Playing) : (genRecord g).length = 3 := by
  unfold genRecord
  split <;> [rfl; (split <;> rfl)]

@[simp] theorem length_boardPayload (b : Board) : (boardPayload b).length = 12 := by simp [boardPayload]

theorem onlyPart_eq_some {part : Nat} {d e : List Byte} (h : onlyPart part d = some e) : d = e := by
  unfold onlyPart at h
  split at h <;> [exact Option.some.inj h; cases h]

theorem bind_onlyPart_eq_some {α : Type} {x : Option α} {part : Nat} {f : α → List Byte} {d : List Byte}
    (h : (x.bind fun e => onlyPart part (f e)) = some d) : ∃ e, x = some e ∧ f e = d := by
  obtain ⟨e, hx, he⟩ := Option.bind_eq_some_iff.mp h
  exact ⟨e, hx, onlyPart_eq_some he⟩

theorem length_patRecord {s : State} {part : Nat} {d : List Byte} (h : patRecord s part = some d) :
    d.length = if part = 0 then 21 else if part = 9 then 1 + 2 * s.pat.trips.length else 10 := by
  unfold patRecord at h
  split at h
  next h0 => subst h0; cases h; simp
  next h0 =>
    split at h
    next h8 =>
      obtain ⟨l, -, rfl⟩ := Option.map_eq_some_iff.mp h
      simp [h0, show part ≠ 9 by omega]
    next h8 =>
      split at h
      next h9 => subst h9; cases h; simp
      next => cases h

theorem length_closingRecord {s : State} {part : Nat} {d : List Byte} (h : closingRecord s part = some d) :
    d.length = if part = 0 then 17 else if part = 9 ∨ part = 10 then 3 else 8 := by
  unfold closingRecord at h
  split at h
  next h0 => subst h0; cases h; simp
  next h0 =>
    split at h
    next h8 =>
      obtain ⟨a, -, rfl⟩ := Option.map_eq_some_iff.mp h
      simp [h0, show part ≠ 9 by omega, show part ≠ 10 by omega]
    next h8 =>
      split at h
      next h9 => subst h9; cases h; simp
      next =>
        split at h
        next h10 => subst h10; cases h; simp
        next => cases h

theorem length_boardRecord {b : Board} {part : Nat} {d : List Byte} (h : boardRecord b part = some d) :
    d.length = if part = 0 then 13 else 16 := by
  unfold boardRecord at h
  split at h
  next h0 => cases h; simp [h0]
  next h0 =>
    split at h
    next => cases h; simp [h0]
    next => cases h

/-- The length of each part of each record. -/
def recordLength (s : State) (kind index part : Nat) : Nat :=
  match kind, part with
  | 1, 0 => 22
  | 1, _ => 6
  | 2, _ => 4
  | 3, _ => 9
  | 4, 0 => 21
  | 4, 9 => 1 + 2 * s.pat.trips.length
  | 4, _ => 10
  | 5, _ => 15
  | 6, _ => 11
  | 7, _ => if index = 240 then 10 else 7
  | 8, 0 => 17
  | 8, 9 => 3
  | 8, 10 => 3
  | 8, _ => 8
  | 9, 0 => 13
  | _, _ => 16

theorem length_recordData {s : State} {kind index part : Nat} {d : List Byte}
    (h : recordData s kind index part = some d) : d.length = recordLength s kind index part := by
  match kind, h with
  | 1, h =>
    obtain ⟨e, -, h⟩ := Option.bind_eq_some_iff.mp h
    match part, h with
    | 0, h => cases h; exact length_zonePayload ..
    | 1, h => cases h; simp [recordLength]
  | 2, h => obtain ⟨e, -, rfl⟩ := bind_onlyPart_eq_some h; rfl
  | 3, h => obtain ⟨e, -, rfl⟩ := bind_onlyPart_eq_some h; exact length_shutterRecord ..
  | 4, h =>
    have hrecord : patRecord s part = some d := (Option.ite_none_right_eq_some.mp h).2
    rw [length_patRecord hrecord]
    match part with
    | 0 | 9 => rfl
    | 1 | 2 | 3 | 4 | 5 | 6 | 7 | 8 => rfl
    | n + 10 => simp [recordLength]
  | 5, h => obtain ⟨e, -, rfl⟩ := bind_onlyPart_eq_some h; exact length_callRecord ..
  | 6, h => obtain ⟨e, -, rfl⟩ := bind_onlyPart_eq_some h; exact length_ringerRecord ..
  | 7, h =>
    change (if index = 240 then _ else _) = _ at h
    change _ = if index = 240 then 10 else 7
    split at h
    next hi => rw [if_pos hi, ← onlyPart_eq_some h]; exact length_panelRecord s
    next hi => obtain ⟨e, -, rfl⟩ := bind_onlyPart_eq_some h; rw [if_neg hi]; rfl
  | 8, h =>
    have hrecord : closingRecord s part = some d := (Option.ite_none_right_eq_some.mp h).2
    rw [length_closingRecord hrecord]
    match part with
    | 0 | 9 | 10 => rfl
    | 1 | 2 | 3 | 4 | 5 | 6 | 7 | 8 => rfl
    | n + 11 => simp [recordLength]
  | 9, h =>
    have hrecord : boardRecord (refreshImage s).board part = some d := (Option.ite_none_right_eq_some.mp h).2
    rw [length_boardRecord hrecord]
    match part with
    | 0 => rfl
    | n + 1 => rfl

theorem recordLength_le {s : State} (htrips : s.pat.trips.length ≤ 8) (kind index part : Nat) :
    recordLength s kind index part ≤ 23 := by
  unfold recordLength
  split <;> try omega
  split <;> omega

/-! ## Sets of indices -/

/-- The set of the numbers listed, as a number. -/
def indexSet (l : List Nat) : Nat := l.foldl (fun m i => m ||| 2 ^ i) 0

theorem foldl_addBit (n : Nat) (l : List Nat) : ∀ m : Nat,
    l.foldl addBit (BitVec.ofNat n m) = BitVec.ofNat n (l.foldl (fun m i => m ||| 2 ^ i) m) := by
  induction l with
  | nil => intro m; rfl
  | cons i l ih =>
    intro m
    have hadd : addBit (BitVec.ofNat n m) i = BitVec.ofNat n (m ||| 2 ^ i) := by
      rw [addBit, BitVec.ofNat_or]
      congr 1
      exact BitVec.eq_of_toNat_eq (by rw [BitVec.toNat_twoPow, BitVec.toNat_ofNat])
    rw [List.foldl_cons, hadd, ih, List.foldl_cons]

theorem ofMembers_eq (n : Nat) (l : List Nat) : (ofMembers l : BitVec n) = BitVec.ofNat n (indexSet l) :=
  foldl_addBit n l 0

theorem setBytes_ofMembers (n : Nat) (l : List Nat) :
    setBytes n (ofMembers l : BitVec (8 * n)) = (List.range n).map fun k => byteOf (indexSet l / 256 ^ k) := by
  unfold setBytes
  refine List.map_congr_left fun k hk => BitVec.eq_of_toNat_eq ?_
  have hk : k < n := List.mem_range.mp hk
  have hpow : 2 ^ (8 * n) = 256 ^ k * (256 ^ (n - 1 - k) * 256) := by
    rw [Nat.pow_mul, ← Nat.pow_succ, ← Nat.pow_add, show k + (n - 1 - k).succ = n by omega]
  rw [ofMembers_eq, BitVec.toNat_ofNat, hpow]
  change _ / _ % 256 = _ / _ % 256
  rw [Nat.mod_mul_right_div_self, Nat.mod_mul_left_mod]

theorem byteOf_ofMembers (l : List Nat) : byteOf (ofMembers l : BitVec 8).toNat = byteOf (indexSet l) := by
  rw [ofMembers_eq]
  exact BitVec.eq_of_toNat_eq (by simp [byteOf])

/-! ## Settled -/

theorem readRecordResult_of_none {s : State} {kind index part : Nat} (hlo : 1 ≤ kind) (hhi : kind ≤ 9)
    (h : recordData s kind index part = none) : readRecordResult kind index part s = refuse s .badIndex := by
  simp [readRecordResult, outside, not_lt.mpr hlo, not_lt.mpr hhi, h]

theorem readRecordResult_of_some {s : State} {kind index part : Nat} {d : List Byte} (hlo : 1 ≤ kind) (hhi : kind ≤ 9)
    (h : recordData s kind index part = some d) :
    readRecordResult kind index part s = { state := s, code := .ok, data := d } := by
  simp [readRecordResult, outside, not_lt.mpr hlo, not_lt.mpr hhi, h]

theorem outstanding_any_iff (s : State) (a : Nat) :
    (s.outstanding.any fun p => p.1 == a) = true ↔ ∃ w, s.line.portB = .awaiting a w := by
  unfold State.outstanding
  split
  next b w h => simp [h]
  next h => simpa using fun w hw => h a w hw

theorem patRecord_landing (s : State) {f : Nat} (hf : f < 8) : patRecord s (f + 1) =
    (tget s.pat.landings f).map fun l => beamRecord l.upBeam ++ beamRecord l.downBeam := by
  rw [patRecord, if_neg (Nat.succ_ne_zero f), if_pos (Nat.succ_le_of_lt hf), Nat.add_sub_cancel]

theorem closingRecord_amp (s : State) {f : Nat} (hf : f < 8) :
    closingRecord s (f + 1) = (tget s.ann.amps f).map ampRecord := by
  rw [closingRecord, if_neg (Nat.succ_ne_zero f), if_pos (Nat.succ_le_of_lt hf), Nat.add_sub_cancel]

/-- Settles O17: the answers of Read Record, and the layout of each record and notice. -/
theorem readRecordAnswers : Obligations.ReadRecordAnswers := by
  refine ⟨?_, recordData_isSome, fun n v m => ⟨fun h => ?_, length_quantity n v, rfl, rfl, length_setBytes n m,
    fun k j hk hj => setBytes_getLsbD n m hk hj⟩, fun s kind index part d htrips h => ?_, ?_⟩
  · intro src tag kind index part s htakes u answer
    have hanswer : ∀ c d, readRecordResult kind.toNat index.toNat part.toNat u =
        { state := u, code := c, data := d } → answer c d := fun _ _ hbody => answersAs_exec rfl rfl htakes hbody
    refine ⟨fun hkind => hanswer _ _ ?_, fun hlo hhi =>
      ⟨fun h => hanswer _ _ (readRecordResult_of_none hlo hhi h), fun d h => hanswer _ _ (readRecordResult_of_some hlo hhi h)⟩⟩
    have hout : outside 1 9 kind.toNat = true := by simpa [outside] using hkind
    simp [readRecordResult, hout, refuse]
  · rw [quantity, if_pos h, beBytes_eq]
  · have hlen := length_recordData h
    exact ⟨hlen, hlen.trans_le (recordLength_le htrips kind index part)⟩
  · intro s secs indices detectors points floors bits calls beam shutter generator outstanding
    have hbeam : ∀ b, beamRecord b = beam b := fun b => by cases h : b.settling <;> simp [beamRecord, beam, h, flagByte]
    have hnamed : ∀ {α : Type} [BEq α] (l : List α) (x : Option α), optNamed l x = (x.map (named l)).getD 255 :=
      fun l x => by cases x <;> rfl
    have hshutter : ∀ i e, shutterPayload i e = shutter i e := fun i e => by
      rw [shutterPayload, hnamed]
      rfl
    have hactive : ∀ z, setBytes 6 (activeDetectors s z) = bits 6 (detectors z) := fun z => setBytes_ofMembers 6 _
    have hoperated : ∀ z, setBytes 3 (operatedPoints s z) = bits 3 (points z fun c => c.operated) :=
      fun z => setBytes_ofMembers 3 _
    have hfaulty : ∀ z, setBytes 3 (faultyPoints s z) = bits 3 (points z fun c => c.fault) :=
      fun z => setBytes_ofMembers 3 _
    have hfloors : ∀ p, byteOf (landingFloors s.pat.landings p).toNat = byteOf (floors p) := fun p => byteOf_ofMembers _
    have honly : ∀ {α : Type} (x : Option α) (f : α → List Byte), (x.bind fun e => onlyPart 0 (f e)) = x.map f :=
      fun x f => by cases x <;> rfl
    refine ⟨fun z e => ?_, hshutter, ?_, fun a e => rfl, rfl, rfl, rfl, fun v => rfl, ?_, fun i => ⟨?_, ?_⟩, fun i => ?_,
      fun i => ?_, rfl, fun f hf => ?_, rfl, fun i => ?_, fun i => ?_, fun a e ha he waits hwaits => ?_, ?_, rfl,
      fun f hf => ?_, fun g hg => ?_, ?_, rfl⟩
    · rw [zonePayload, hactive, hoperated]
      rfl
    · rw [patPayload, hfloors, hfloors]
      rfl
    · rw [boardPayload, hnamed]
      rfl
    · change ((tget s.fire.zones i).bind fun e => some (zonePayload s i e)) = _
      cases tget s.fire.zones i <;> rfl
    · rw [← hoperated, ← hfaulty]
      change ((tget s.fire.zones i).bind fun e => some _) = _
      cases tget s.fire.zones i <;> rfl
    · exact honly _ _
    · rw [show shutter i = shutterPayload i from funext fun e => (hshutter i e).symm]
      exact honly _ _
    · refine (patRecord_landing s hf).trans ?_
      exact congrArg (Option.map · _) (funext fun l => by rw [hbeam, hbeam])
    · exact honly _ _
    · exact honly _ _
    · have hrecord : recordData s 7 a 0 = some (stationRecord s a e) := by
        simp only [recordData, if_neg ha, he, Option.bind_some]
        rfl
      have hwaits' : (s.outstanding.any fun p => p.1 == a) = waits := by
        rw [Bool.eq_iff_iff, hwaits, outstanding_any_iff]
      rw [hrecord, stationRecord, hwaits']
    · change some (panelRecord s) = _
      rw [panelRecord, State.outstanding]
      cases s.line.portB <;> rfl
    · refine (closingRecord_amp s hf).trans ?_
      exact congrArg (Option.map · _) (funext fun a => by rw [ampRecord, hnamed]; rfl)
    · have hgen : ∀ x, some (genRecord x) = some (match x with
          | none => [255, 255, 0]
          | some p => (match p.sounding with
            | none => [255, 255]
            | some x => [byteOf x.round, byteOf (x.note + 1)]) ++ [byteOf p.gated.toNat]) := fun x => by
        unfold genRecord
        split
        · rfl
        · split <;> simp_all
      match g, hg with
      | 0, _ => exact hgen s.ann.gen0
      | 1, _ => exact hgen s.ann.gen1
    · have hlit : (if s.board.lit then 0 else 1) = flagByte (!s.board.lit) := by cases s.board.lit <;> rfl
      rw [hlit]
      rfl

end Sys2Proof.Machine
end

section
/-! SUPPORT. Arm and Disarm: the Arm checks as R186 lists them, and the records that either leaves; Set Clock and Read
Status. -/

namespace Sys2Proof.Machine

/-! ## The Arm checks (R186) -/

/-- An entry that names a station, from its table, role, index, station and key. -/
def roleEntry (e : TableId × Role × Nat × Nat × Nat) : RoleEntry :=
  { table := e.1, index := e.2.2.1, station := e.2.2.2.1, role := e.2.1, key := e.2.2.2.2 }

/-- The first entry that clashes with one of those seen or with one before it. -/
theorem firstClash_eq (l : List RoleEntry) : ∀ seen, firstClash seen l =
    (List.range l.length).findSome? fun k => l[k]?.bind fun e =>
      if seen.any e.clash || (l.take k).any e.clash then some e else none := by
  induction l with
  | nil => intro seen; rfl
  | cons a l ih =>
    intro seen
    rw [List.length_cons, List.range_succ_eq_map, List.findSome?_cons, List.findSome?_map]
    have hrest : (List.range l.length).findSome? ((fun k => (a :: l)[k]?.bind fun e =>
        if seen.any e.clash || ((a :: l).take k).any e.clash then some e else none) ∘ Nat.succ) =
        firstClash (a :: seen) l := by
      rw [ih]
      congr 1
      funext k
      simp only [Function.comp_apply, Nat.succ_eq_add_one, List.getElem?_cons_succ, List.take_succ_cons, List.any_cons,
        Bool.or_left_comm, Bool.or_assoc]
      rfl
    rw [hrest, firstClash]
    simp only [List.getElem?_cons_zero, Option.bind_some, List.take_zero, List.any_nil, Bool.or_false]
    cases seen.any a.clash <;> rfl

theorem firstClash_map (l : List (TableId × Role × Nat × Nat × Nat)) :
    (firstClash [] (l.map roleEntry)).map (fun e => (2, e.table, e.index)) =
      (List.range l.length).findSome? fun k => l[k]?.bind fun e =>
        if (l.take k).any fun d => (roleEntry e).clash (roleEntry d) then some (2, e.1, e.2.2.1) else none := by
  rw [firstClash_eq, List.length_map, List.map_findSome?]
  congr 1
  funext k
  simp only [Function.comp_apply, List.any_nil, Bool.false_or, List.getElem?_map, ← List.map_take, List.any_map]
  cases hk : l[k]? with
  | none => rfl
  | some e =>
    rw [Option.map_some, Option.bind_some, Option.bind_some]
    by_cases hc : ((l.take k).any fun d => (roleEntry e).clash (roleEntry d)) = true
    · rw [if_pos hc]
      exact congrArg (Option.map _) (if_pos hc)
    · rw [if_neg hc]
      exact congrArg (Option.map _) (if_neg hc)

/-- The entries of the role tables, in their order: table, role, index, station and key. -/
def roleTuples (u : State) : List (TableId × Role × Nat × Nat × Nat) :=
  (u.fire.detectors.map fun e => (.detector, .detector, e.1, e.2.station, 0)) ++
  (u.fire.callPoints.map fun e => (.callPoint, .callPoint, e.1, e.2.station, 0)) ++
  (u.shut.map fun e => (.shutter, .shutter, e.1, e.2.station, 0)) ++
  (u.pat.landings.map fun e => (.landing, .landing, e.1, e.2.station, 0)) ++
  (u.call.pushes.map fun e => (.push, .push, e.1, e.2.station, e.2.key)) ++
  (u.call.ringers.map fun e => (.ringer, .ringer, e.1, e.2.station, 0)) ++
  (u.ann.amps.map fun e => (.amplifier, .amplifier, e.1, e.2.station, 0))

theorem roleEntries_eq (u : State) : roleEntries u = (roleTuples u).map roleEntry := by
  simp only [roleTuples, List.map_append, List.map_map]
  rfl

theorem pushDangling_eq (s : State) (p : Push) : pushDangling s p =
    ((tget s.call.patterns p.pattern).isNone || (tget s.call.ringers p.ringer).isNone ||
      p.escalation.any fun x => (tget s.call.ringers x.1).isNone || (tget s.call.patterns x.2).isNone) := by
  unfold pushDangling optMissing
  cases p.escalation <;> simp [Bool.or_assoc]

theorem firstWhere_map {α β : Type} (t : Table α) (p : α → Bool) (f : Nat → β) :
    (firstWhere t p).map f = (t.find? fun e => p e.2).map fun e => f e.1 := by
  rw [firstWhere_eq_find, Option.map_map]
  rfl

/-! ## The tables and the records after Arm and Disarm (R187, R188) -/

/-- Loaded fields read the same when only run-time fields change. -/
theorem map_tmap_of_eq {α β : Type} (t : Table α) (i : Nat) (f : Nat → α → α) (g : α → β) (h : ∀ i e, g (f i e) = g e) :
    (tget (tmap t f) i).map g = (tget t i).map g := by
  rw [tget_tmap, Option.map_map]
  congr 1
  funext e
  exact h i e

theorem entryData_armPart (u : State) (t : TableId) (i : Nat) : entryData t i (armPart u) = entryData t i u := by
  cases t with
  | landing | detector | callPoint | zone | shutter | ringer | amplifier => exact map_tmap_of_eq _ i _ _ fun _ _ => rfl
  | _ => rfl

theorem entryData_disarmPart (u : State) (t : TableId) (i : Nat) :
    entryData t i (disarmPart u) = entryData t i u := by
  cases t with
  | landing | detector | callPoint | zone | shutter | ringer | amplifier => exact map_tmap_of_eq _ i _ _ fun _ _ => rfl
  | _ => rfl

theorem CallUnit.rearm_eq (u : CallUnit) : u.rearm =
    { pushes := u.pushes, patterns := u.patterns,
      ringers := u.ringers.map fun e => (e.1, { e.2 with ring := none, number := none, timer := none, slot := none }),
      counter := u.counter, calls := [], queue := [], nextSeq := u.nextSeq, closingLevel := 0, fireLevel := 0,
      fireRound := 0, fireTimer := none, listFull := false, lastIgnored := none, mark := true } := by
  rw [CallUnit.rearm, tmap_eq_map]
  rfl

theorem Announce.rearm_eq (u : Announce) : u.rearm =
    { clock := u.clock, days := u.days, programme := u.programme, closing := .waiting, startTime := none,
      nextStep := none, waitGen := false, waitFloors := 0, chimes := u.chimes, gen0 := none, gen1 := none,
      amps := u.amps.map fun e => (e.1, { e.2 with
        state := .idle, origin := none, phrase := none, number := none, phraseTimer := none, gen := none,
        gapTimer := none, owed := false, slot := none }),
      counter := u.counter, mark := true } := by
  rw [Announce.rearm, tmap_eq_map]
  rfl

theorem Paternoster.rearm_eq (p : Paternoster) : p.rearm =
    { geometry := p.geometry,
      landings := p.landings.map fun e => (e.1, { e.2 with
        tripped := false, stopSwitch := false, upBeam := Beam.start, downBeam := Beam.start }),
      state := .unknown, chain := Chain.start, revs := none, remembered := none, start := none, stop := none,
      removed := [], causes := 0, fireStop := 0, trips := [], stopTimer := none, resumeTimer := none, slot := none,
      mark := true } := by
  rw [Paternoster.rearm, tmap_eq_map]
  rfl

theorem tany_tmap_eq {α : Type} (t : Table α) (f : Nat → α → α) (p : α → Bool) :
    tany (tmap t f) p = t.any fun e => p (f e.1 e.2) := by
  rw [tany, tmap_eq_map, List.any_map]
  rfl

/-- Settles O21: the eight Arm checks as R186 lists them, and the records an accepted Arm leaves. -/
theorem armAnswers : Obligations.ArmAnswers := by
  intro src tag s htakes u answer v
  have hanswer : ∀ c d w, armResult u = { state := w, code := c, data := d } → answer c d w :=
    fun _ _ _ hbody => answersAs_exec rfl rfl htakes hbody
  clear_value u
  refine ⟨fun harmed => hanswer _ _ _ ?_, fun hfree => ⟨fun n t i hfail => hanswer _ _ _ ?_, fun hnone => hanswer _ _ _ ?_⟩,
    ?_, rfl, rfl, rfl, rfl, fun t i => ⟨entryData_armPart u t i, rfl⟩, rfl, rfl, tmap_eq_map _ _, tmap_eq_map _ _, ?_,
    Paternoster.rearm_eq _, tmap_eq_map _ _, CallUnit.rearm_eq _, Announce.rearm_eq _⟩
  · simp [armResult, harmed, refuse]
  · simp [armResult, hfree, hfail]
  · simp [armResult, hfree, hnone, accept, v]
  · intro entries named clash drives loop noPattern noRinger
    have hentries : roleEntries u = entries.map roleEntry := roleEntries_eq u
    have hloop : (u.pat.geometry.map Geometry.loop).getD 0 = loop := by
      simp only [loop]
      cases u.pat.geometry <;> rfl
    unfold armFailure armChecks
    dsimp only
    rw [hentries, firstClash_map, hloop, List.find?_map, Option.map_map, firstWhere_map, firstWhere_map, firstWhere_map]
    simp only [pushDangling_eq]
    have hgeometry : (!u.pat.landings.isEmpty && u.pat.geometry.isNone) = true ↔
        u.pat.landings ≠ [] ∧ u.pat.geometry = none := by simp
    have hdrive : (!u.pat.landings.isEmpty && u.driveStation.isNone) = true ↔ u.pat.landings ≠ [] ∧ drives = [] := by
      simp [State.driveStation, tkeys, drives]
    rw [if_congr hgeometry rfl rfl, if_congr hdrive rfl rfl]
    rfl
  · refine (tmap_eq_map _ _).trans (congrArg (List.map · u.fire.zones) (funext fun e => ?_))
    have hdetectors := tany_tmap_eq u.fire.detectors (fun _ d => d.rearm (u.missing d.station))
      fun d => d.zone == e.1 && d.fault
    have hpoints := tany_tmap_eq u.fire.callPoints (fun _ c => c.rearm (u.missing c.station))
      fun c => c.zone == e.1 && c.fault
    rw [FireUnit.entryFault, hdetectors, hpoints]
    rfl

/-- Settles O22: the refusal, and the records an accepted Disarm leaves. -/
theorem disarmAnswers : Obligations.DisarmAnswers := by
  intro src tag s htakes harmed u answer v
  have harmed' : u.armed = true := (panelHeard_armed src s).trans harmed
  have hanswer : ∀ c w, disarmResult u = { state := w, code := c, data := [] } → answer c w :=
    fun _ _ hbody => answersAs_exec rfl rfl htakes hbody
  have hresult : disarmResult u = if tany u.fire.zones fun z => z.state == .preAlarm || z.state == .fullAlarm then
      refuse u .alarmActive else accept (disarmPart u) := whenArmed_of_armed harmed' _
  clear_value u
  refine ⟨fun halarm => hanswer _ _ ?_, fun hquiet => hanswer _ _ ?_, rfl, rfl, rfl,
    fun t i => ⟨entryData_disarmPart u t i, rfl⟩, rfl, rfl, rfl, tmap_eq_map _ _, tmap_eq_map _ _, tmap_eq_map _ _,
    Paternoster.rearm_eq _, tmap_eq_map _ _, CallUnit.rearm_eq _, Announce.rearm_eq _⟩
  · have hany : (tany u.fire.zones fun z => z.state == .preAlarm || z.state == .fullAlarm) = true := by
      obtain ⟨e, he, hstate⟩ := halarm
      exact List.any_eq_true.mpr ⟨e, he, by simpa using hstate⟩
    rw [hresult, if_pos hany]
    rfl
  · have hnone : (tany u.fire.zones fun z => z.state == .preAlarm || z.state == .fullAlarm) = false :=
      List.any_eq_false.mpr fun e he => by simpa using hquiet e he
    rw [hresult, hnone]
    rfl

theorem flagsByte_eq (l : LineUnit) : flagsByte l =
    byteOf ((if l.requestOverrun then 1 else 0) + (if l.forwardOverflow then 2 else 0) +
      (if l.reportOverflow then 4 else 0)) := by
  unfold flagsByte
  cases l.requestOverrun <;> cases l.forwardOverflow <;> cases l.reportOverflow <;> rfl

/-- Settles O23: the clock set, and the status with its flags cleared. -/
theorem setClockAndReadStatusAnswer : Obligations.SetClockAndReadStatusAnswer := by
  refine ⟨?_, ?_, rfl, fun n hn => quantity_one hn⟩
  · intro src tag second weekday s htakes u answer
    have hanswer : ∀ c w, setClockResult second.toNat weekday.toNat u = { state := w, code := c, data := [] } →
        answer c w := fun _ _ hbody => answersAs_exec rfl rfl htakes hbody
    refine ⟨fun hs hw => hanswer _ _ ?_, fun hout => hanswer _ _ (if_pos hout)⟩
    exact if_neg (by omega)
  · intro src tag s htakes u
    refine answersAs_exec rfl rfl htakes ?_
    have hmode : named modes u.mgmt.mode = if u.armed then 1 else 0 := by
      rw [State.armed]
      cases u.mgmt.mode <;> rfl
    have hcause : named startCauses u.mgmt.cause = if u.mgmt.cause = .pin then 1 else 0 := by
      cases u.mgmt.cause <;> rfl
    have hkeys : ∀ {α : Type} (t : Table α) (p : α → Bool), (tkeys t p).length = (t.filter fun e => p e.2).length :=
      fun t p => List.length_map _
    change readStatusResult u = _
    simp only [readStatusResult, statusData, hmode, hcause, hkeys, flagsByte_eq]
    rfl

end Sys2Proof.Machine
end

section
/-! SUPPORT. The ring queue (5.2 to 5.6): every step keeps its order, and the rules of joining, re-offer, dispatch,
preemption and leaving. -/

namespace Sys2Proof.Machine

/-! ## Every step keeps the queue's order (R101) -/

section
variable {s t : State}

theorem TableChange.queue {k : TableId} {i : Nat} (h : TableChange s i k t) : t.call.queue = s.call.queue := by
  cases h <;> rfl

theorem CallUnit.Ordered.of_nil {u : CallUnit} (h : u.queue = []) : u.Ordered := ⟨h ▸ .nil, h ▸ .nil⟩

theorem requestBody_ordered (ho : s.call.Ordered) (c : Instr) : (requestBody c s).state.call.Ordered := by
  cases hspecial : special c with
  | false => exact (requestBody_kept (.refl s) hspecial).call.ordered ho
  | true =>
    cases c with
    | writeEntry a b k i d =>
      change (writeEntryResult _ _ d s).state.call.Ordered
      unfold writeEntryResult
      split
      · exact ho
      · (repeat' split) <;> try exact ho
        rw [writeTable_eq]
        exact checked_state_of (p := fun s => s.call.Ordered) ho (ho.withQueue (written_change ..).queue) _
    | deleteEntry a b k i =>
      change (deleteEntryResult _ _ s).state.call.Ordered
      unfold deleteEntryResult
      split
      · exact ho
      · (repeat' split) <;> try exact ho
        rw [deleteTable_eq]
        exact checked_state_of (p := fun s => s.call.Ordered) ho (ho.withQueue (deleted_change ..).queue) _
    | arm => exact (armResult_state s).elim (fun h => h.symm ▸ ho) fun h => h.symm ▸ .of_nil rfl
    | disarm => exact (disarmResult_state s).elim (fun h => h.symm ▸ ho) fun h => h.1.symm ▸ .of_nil rfl
    | releasePaternoster => exact (releaseResult_state s).elim (fun h => h.symm ▸ ho) fun h => h.symm ▸ ho.withQueue rfl
    | resetZone a b z => exact (resetZone_kept z.toNat s).elim (fun h => h.call.ordered ho) fun h => h.call.ordered ho
    | _ => cases hspecial

theorem effect_ordered (ho : s.call.Ordered) (c : Instr) : (effect c s).call.Ordered := by
  rcases effect_kept c s with hkept | ⟨-, src, tag, code, -, hbody⟩
  · exact hkept.call.ordered ho
  · exact hbody.call.ordered (requestBody_ordered ((panelHeard_kept (.refl s) src).call.ordered ho) c)

theorem exec_ordered {c : Instr} (ho : s.call.Ordered) (h : exec c s = .next t) : t.call.Ordered := by
  by_cases hpower : c = .powerOn
  · subst hpower; cases h; exact .of_nil rfl
  by_cases hpin : c = .resetPinReset
  · subst hpin; cases h; exact .of_nil rfl
  obtain ⟨m, hkept⟩ := settle_kept (.refl (effect c s)) s
  exact exec_eq_next hpower hpin h ▸ hkept.call.ordered (effect_ordered ho c)

theorem step_ordered (ho : s.call.Ordered) (h : step s = .next t) : t.call.Ordered :=
  step_keeps (p := fun s => s.call.Ordered) (fun _ _ _ => exec_ordered) (fun _ ho => ho.withQueue rfl)
    (fun _ _ ho => ho.withQueue rfl) ho h

end

/-! ## Joining (R101, R102) -/

namespace CallUnit

variable (u : CallUnit) (r : Req)

/-- The calls with that of an origin owed its ring. -/
def owing (o : Origin) : List Call :=
  u.calls.map fun c => if o = .call c.push then { c with owed := true } else c

theorem owe_eq : u.owe r = { u with calls := u.owing r.origin } := by
  unfold owe owing
  split
  next p h =>
    rw [h, onCallOf]
    congr 2
    funext c
    by_cases hc : c.push = p <;> simp [hc, Ne.symm, eq_comm]
  next h =>
    have hnone : ∀ c ∈ u.calls, (if r.origin = .call c.push then { c with owed := true } else c) = c :=
      fun c _ => if_neg (h c.push)
    rw [List.map_congr_left hnone, List.map_id']

variable {u r}

theorem join_of_same (h : u.queue.any r.same = true) : u.join r =
    { u with queue := reorder (u.queue.map fun x =>
        if r.same x then { x with priority := max x.priority r.priority } else x) } := by
  rw [join, if_pos h]

theorem join_of_room (h : u.queue.any r.same = false) (hroom : u.queue.length < 24) :
    u.join r = { u with queue := insertReq r u.queue, mark := true } := by
  rw [join, h, if_neg Bool.false_ne_true, if_pos hroom]

theorem join_of_full {l : List Req} {x : Req} (h : u.queue.any r.same = false) (hqueue : u.queue = l ++ [x])
    (hfull : 24 ≤ u.queue.length) : u.join r =
      if x.priority < r.priority then { u with queue := insertReq r l, mark := true, calls := u.owing x.origin }
      else { u with calls := u.owing r.origin } := by
  have hlast : u.queue.getLast? = some x := by rw [hqueue, List.getLast?_concat]
  have hinit : u.queue.dropLast = l := by rw [hqueue, List.dropLast_concat]
  have hfull' : ¬u.queue.length < Config.ringQueue := Nat.not_lt.mpr hfull
  rw [join, h, if_neg Bool.false_ne_true, if_neg hfull', hlast, hinit]
  dsimp only
  split
  · exact owe_eq ..
  · exact owe_eq ..

end CallUnit

theorem join_order {u : CallUnit} {r : Req} (h : u.queue.Pairwise fun a b => b.before a = false) :
    (u.join r).queue.Pairwise fun a b => b.before a = false := by
  unfold CallUnit.join
  split
  · exact reorder_order _
  · split
    · exact insertReq_order h
    · split
      · exact h
      · split <;> rw [CallUnit.owe_queue]
        · exact insertReq_order (h.sublist (List.dropLast_sublist _))
        · exact h

/-! ## What joining, re-offer and dispatch keep (R102, R106) -/

/-- What changes in the Call Unit while requests join and free ringers take them is the queue, the free ringers, the
counters, the mark, and the owed flags. -/
structure CallUnit.Served (a b : CallUnit) : Prop where
  pushes : b.pushes = a.pushes
  patterns : b.patterns = a.patterns
  closingLevel : b.closingLevel = a.closingLevel
  fireLevel : b.fireLevel = a.fireLevel
  fireRound : b.fireRound = a.fireRound
  fireTimer : b.fireTimer = a.fireTimer
  listFull : b.listFull = a.listFull
  lastIgnored : b.lastIgnored = a.lastIgnored
  calls : b.calls.map (fun c => { c with owed := false }) = a.calls.map fun c => { c with owed := false }
  indices : b.ringers.map Prod.fst = a.ringers.map Prod.fst
  ringing : ∀ i g, tget a.ringers i = some g → g.ring.isSome = true → tget b.ringers i = some g

namespace CallUnit.Served

theorem refl (u : CallUnit) : u.Served u := ⟨rfl, rfl, rfl, rfl, rfl, rfl, rfl, rfl, rfl, rfl, fun _ _ h _ => h⟩

theorem trans {a b c : CallUnit} (h : a.Served b) (h' : b.Served c) : a.Served c where
  pushes := h'.pushes.trans h.pushes
  patterns := h'.patterns.trans h.patterns
  closingLevel := h'.closingLevel.trans h.closingLevel
  fireLevel := h'.fireLevel.trans h.fireLevel
  fireRound := h'.fireRound.trans h.fireRound
  fireTimer := h'.fireTimer.trans h.fireTimer
  listFull := h'.listFull.trans h.listFull
  lastIgnored := h'.lastIgnored.trans h.lastIgnored
  calls := h'.calls.trans h.calls
  indices := h'.indices.trans h.indices
  ringing := fun i g hg hring => h'.ringing i g (h.ringing i g hg hring) hring

/-- Owed flags, queue, number of the next request and mark are free. -/
theorem of_calls (u : CallUnit) (q : List Req) (n : Nat) (m : Bool) {l : List Call}
    (h : l.map (fun c => { c with owed := false }) = u.calls.map fun c => { c with owed := false }) :
    u.Served { u with calls := l, queue := q, nextSeq := n, mark := m } :=
  ⟨rfl, rfl, rfl, rfl, rfl, rfl, rfl, rfl, h, rfl, fun _ _ h _ => h⟩

end CallUnit.Served

theorem map_owed_eq {l : List Call} {f : Call → Call} (hf : ∀ c, { f c with owed := false } = { c with owed := false }) :
    (l.map f).map (fun c => { c with owed := false }) = l.map fun c => { c with owed := false } := by
  rw [List.map_map]
  exact List.map_congr_left fun c _ => hf c

theorem CallUnit.owing_served (u : CallUnit) (o : Origin) :
    (u.owing o).map (fun c => { c with owed := false }) = u.calls.map fun c => { c with owed := false } :=
  map_owed_eq fun c => by split <;> rfl

/-- Joining touches the queue, the mark, the number of the next request and owed flags. -/
theorem CallUnit.join_served (u : CallUnit) (r : Req) :
    ∃ q m l, l.map (fun c => { c with owed := false }) = u.calls.map (fun c => { c with owed := false }) ∧
      u.join r = { u with calls := l, queue := q, mark := m } := by
  unfold CallUnit.join
  split
  · exact ⟨_, _, _, rfl, rfl⟩
  · split
    · exact ⟨_, _, _, rfl, rfl⟩
    · split
      · exact ⟨_, _, _, rfl, rfl⟩
      · split <;> rw [CallUnit.owe_eq] <;> exact ⟨_, _, _, CallUnit.owing_served _ _, rfl⟩

theorem joinNew_call (a b c : Nat) (o : Origin) (s : State) :
    ∃ q n m l, l.map (fun c => { c with owed := false }) = s.call.calls.map (fun c => { c with owed := false }) ∧
      joinNew a b c o s = s.onCall fun u => { u with calls := l, queue := q, nextSeq := n, mark := m } := by
  obtain ⟨q, m, l, hl, hjoin⟩ := CallUnit.join_served { s.call with nextSeq := s.call.nextSeq + 1 }
    { ringer := a, pattern := b, priority := c, origin := o, age := s.now, seq := s.call.nextSeq }
  exact ⟨q, _, m, l, hl, congrArg (fun u => { s with call := u }) hjoin⟩

theorem reofferOne_call (s : State) (push : Nat) :
    ∃ q n m l, l.map (fun c => { c with owed := false }) = s.call.calls.map (fun c => { c with owed := false }) ∧
      reofferOne s push = s.onCall fun u => { u with calls := l, queue := q, nextSeq := n, mark := m } := by
  unfold reofferOne
  split
  · have howed : ((s.call.calls.map fun c => if c.push = push then { c with owed := false } else c).map
        fun c => { c with owed := false }) = s.call.calls.map fun c => { c with owed := false } :=
      map_owed_eq fun c => by split <;> rfl
    split
    · dsimp only
      split
      · exact ⟨_, _, _, _, howed, rfl⟩
      next c p _ _ _ _ =>
        obtain ⟨q, n, m, l, hl, hjoin⟩ := joinNew_call p.ringer p.pattern c.priority (.call push)
          (s.onCall fun u => u.onCallOf push fun c => { c with owed := false })
        exact ⟨q, n, m, l, hl.trans howed, hjoin⟩
    · exact ⟨_, _, _, _, rfl, rfl⟩
  · exact ⟨_, _, _, _, rfl, rfl⟩

theorem reofferOne_served (s : State) (push : Nat) : s.call.Served (reofferOne s push).call := by
  obtain ⟨q, n, m, l, hl, h⟩ := reofferOne_call s push
  exact h ▸ .of_calls s.call q n m hl

theorem reofferOne_ringers (s : State) (push : Nat) : (reofferOne s push).call.ringers = s.call.ringers := by
  obtain ⟨q, n, m, l, -, h⟩ := reofferOne_call s push
  rw [h]
  rfl

theorem reofferOne_counter (s : State) (push : Nat) : (reofferOne s push).call.counter = s.call.counter := by
  obtain ⟨q, n, m, l, -, h⟩ := reofferOne_call s push
  rw [h]
  rfl

/-! ## Induction over the re-offers and the rounds -/

section
variable {p : State → Prop}

theorem foldl_of_step {α : Type} {f : State → α → State} (hf : ∀ s a, p s → p (f s a)) (l : List α) {s : State}
    (h : p s) : p (l.foldl f s) := by
  induction l generalizing s with
  | nil => exact h
  | cons a l ih => exact ih (hf s a h)

theorem reoffer_of_step (hre : ∀ s push, p s → p (reofferOne s push)) {s : State} (h : p s) : p (reoffer s) :=
  foldl_of_step hre _ h

theorem dispatchRound_of_step (hre : ∀ s push, p s → p (reofferOne s push)) (hone : ∀ s i, p s → p (dispatchOne i s))
    {s : State} (h : p s) : p (dispatchRound s) := by
  refine foldl_of_step (fun s i h => ?_) _ h
  dsimp only
  split <;> [exact h; exact reoffer_of_step hre (hone s i h)]

theorem dispatch_of_step (hre : ∀ s push, p s → p (reofferOne s push)) (hone : ∀ s i, p s → p (dispatchOne i s))
    {s : State} (h : p s) : p (dispatch s) := by
  have hrounds : ∀ (n : Nat) (s : State), p s → p (dispatchRounds n s) := by
    intro n
    induction n with
    | zero => exact fun _ h => h
    | succ n ih =>
      intro s h
      simp only [dispatchRounds]
      split <;> [exact h; exact ih _ (dispatchRound_of_step hre hone h)]
  exact hrounds 17 s h

end

/-! ## One free ringer (R106) -/

theorem find?_append_of_first {α : Type} {q : α → Bool} {l rest : List α} {r : α} (hl : ∀ x ∈ l, q x = false)
    (hr : q r = true) : (l ++ r :: rest).find? q = some r := by
  rw [List.find?_append, List.find?_eq_none.mpr fun x hx => by simp [hl x hx]]
  simp [hr]

/-- Ringer `i` stands still: nothing it can take is in the queue. -/
theorem dispatchOne_cases (i : Nat) (s : State) : dispatchOne i s = s ∨
    ∃ g r pat, tget s.call.ringers i = some g ∧ g.ring = none ∧ r ∈ s.call.queue ∧
      tget s.call.patterns r.pattern = some pat ∧ dispatchOne i s = takeReq i r pat s := by
  unfold dispatchOne
  split
  · exact .inl rfl
  next g hg =>
    split
    · exact .inl rfl
    next hfree =>
      split
      · exact .inl rfl
      next r hr =>
        split
        · exact .inl rfl
        next pat hpat =>
          have hring : g.ring = none := by
            cases hc : g.ring with
            | none => rfl
            | some x => simp [hc] at hfree
          exact .inr ⟨g, r, pat, hg, hring, List.mem_of_find?_eq_some hr, hpat, rfl⟩

theorem takeReq_served {i : Nat} {r : Req} {pat : Pattern} {s : State} {g : Ringer}
    (hg : tget s.call.ringers i = some g) (hfree : g.ring = none) : s.call.Served (takeReq i r pat s).call := by
  refine ⟨rfl, rfl, rfl, rfl, rfl, rfl, rfl, rfl, rfl, tmod_map_fst .., fun j h hj hring => ?_⟩
  have hne : i ≠ j := by
    rintro rfl
    rw [hg] at hj
    cases hj
    rw [hfree] at hring
    cases hring
  exact (tget_tmod ..).trans ((if_neg hne).trans hj)

theorem dispatchOne_served (i : Nat) (s : State) : s.call.Served (dispatchOne i s).call := by
  rcases dispatchOne_cases i s with h | ⟨g, r, pat, hg, hfree, -, -, h⟩ <;> rw [h]
  · exact .refl _
  · exact takeReq_served hg hfree

theorem reoffer_served (s : State) : s.call.Served (reoffer s).call :=
  reoffer_of_step (p := fun t => s.call.Served t.call) (fun t push h => h.trans (reofferOne_served t push)) (.refl _)

theorem dispatch_served (s : State) : s.call.Served (dispatch s).call :=
  dispatch_of_step (p := fun t => s.call.Served t.call) (fun t push h => h.trans (reofferOne_served t push))
    (fun t i h => h.trans (dispatchOne_served i t)) (.refl _)

theorem reoffer_ringers (s : State) : (reoffer s).call.ringers = s.call.ringers :=
  reoffer_of_step (p := fun t => t.call.ringers = s.call.ringers)
    (fun t push h => (reofferOne_ringers t push).trans h) rfl

theorem reoffer_counter (s : State) : (reoffer s).call.counter = s.call.counter :=
  reoffer_of_step (p := fun t => t.call.counter = s.call.counter)
    (fun t push h => (reofferOne_counter t push).trans h) rfl

/-! ## The rounds end (R106) -/

/-- The number of free ringers. -/
def CallUnit.free (u : CallUnit) : Nat := u.ringers.countP fun e => e.2.ring.isNone

theorem countP_tmod_lt {α : Type} {q : α → Bool} {f : α → α} {i : Nat} {v : α} (hf : ∀ w, q (f w) = false) :
    ∀ {t : Table α}, tget t i = some v → q v = true → (tmod t i f).countP (fun e => q e.2) < t.countP fun e => q e.2 := by
  have hle : ∀ t : Table α, (tmod t i f).countP (fun e => q e.2) ≤ t.countP fun e => q e.2 := by
    intro t
    induction t with
    | nil => exact Nat.le_refl _
    | cons e t ih =>
      obtain ⟨k, w⟩ := e
      simp only [tmod]
      split <;> simp only [List.countP_cons, hf] <;> simp <;> omega
  intro t
  induction t with
  | nil => intro h; cases h
  | cons e t ih =>
    obtain ⟨k, w⟩ := e
    intro h hv
    simp only [tget] at h
    simp only [tmod]
    split at h
    next heq =>
      cases h
      simp only [heq, if_true, List.countP_cons, hf, hv]
      exact Nat.lt_succ_of_le (hle t)
    next hne =>
      simp only [hne, if_false, List.countP_cons]
      exact Nat.add_lt_add_right (ih h hv) _

theorem takeReq_free {i : Nat} {r : Req} {pat : Pattern} {s : State} {g : Ringer}
    (hg : tget s.call.ringers i = some g) (hfree : g.ring = none) : (takeReq i r pat s).call.free < s.call.free :=
  countP_tmod_lt (q := fun g : Ringer => g.ring.isNone) (fun _ => rfl) hg (by rw [hfree]; rfl)

/-- The ring counter after `k` rings, while fewer than 255. -/
theorem nextCounter_iterate (n : Nat) {k : Nat} (hpos : 1 ≤ k) (hk : k < 255) :
    nextCounter^[k] n = if 255 ≤ n then k else if n + k ≤ 255 then n + k else n + k - 255 := by
  induction k with
  | zero => cases hpos
  | succ k ih =>
    rw [Function.iterate_succ_apply']
    by_cases hk0 : k = 0
    · subst hk0
      simp only [Function.iterate_zero, id_eq, nextCounter, ge_iff_le]
      split <;> [rfl; (rw [if_pos (by omega)])]
    · rw [ih (by omega) (by omega), nextCounter]
      (repeat' split) <;> omega

theorem nextCounter_iterate_ne (n : Nat) {k : Nat} (hpos : 1 ≤ k) (hk : k < 255) : nextCounter^[k] n ≠ n := by
  rw [nextCounter_iterate n hpos hk]
  split <;> [skip; split] <;> omega

/-- Ringers of a list look in turn: `k` of them take a request, and with `k = 0` none can. -/
theorem round_counts (l : List Nat) : ∀ s : State, ∃ k,
    let t := l.foldl (fun s i =>
      if (dispatchOne i s).call.counter = s.call.counter then s else reoffer (dispatchOne i s)) s
    t.call.counter = nextCounter^[k] s.call.counter ∧ t.call.free + k ≤ s.call.free ∧
      (k = 0 → t = s ∧ ∀ i ∈ l, dispatchOne i s = s) := by
  induction l with
  | nil => exact fun s => ⟨0, rfl, Nat.le_refl _, fun _ => ⟨rfl, fun _ h => nomatch h⟩⟩
  | cons i l ih =>
    intro s
    simp only [List.foldl_cons]
    rcases dispatchOne_cases i s with hidle | ⟨g, r, pat, hg, hfree, -, -, htake⟩
    · obtain ⟨k, hcounter, hcount, hzero⟩ := ih s
      rw [hidle, if_pos rfl]
      refine ⟨k, hcounter, hcount, fun hk => ⟨(hzero hk).1, fun j hj => ?_⟩⟩
      rcases List.mem_cons.mp hj with rfl | hj
      · exact hidle
      · exact (hzero hk).2 j hj
    · have hcounter : (takeReq i r pat s).call.counter = nextCounter s.call.counter := rfl
      have hne : nextCounter s.call.counter ≠ s.call.counter :=
        nextCounter_iterate_ne s.call.counter (k := 1) (by omega) (by omega)
      have hless := takeReq_free (r := r) (pat := pat) hg hfree
      rw [htake, hcounter, if_neg hne]
      obtain ⟨k, hk, hcount, -⟩ := ih (reoffer (takeReq i r pat s))
      have hfreeEq : (reoffer (takeReq i r pat s)).call.free = (takeReq i r pat s).call.free := by
        rw [CallUnit.free, reoffer_ringers]
        rfl
      refine ⟨k + 1, ?_, ?_, fun h => nomatch h⟩
      · rw [hk, reoffer_counter, hcounter, Function.iterate_succ_apply]
      · omega

theorem dispatchRounds_stable (n : Nat) : ∀ s : State, s.call.free < n → s.call.free < 255 →
    ∀ i ∈ (dispatchRounds n s).call.ringers.map Prod.fst, dispatchOne i (dispatchRounds n s) = dispatchRounds n s := by
  induction n with
  | zero => intro s h; cases h
  | succ n ih =>
    intro s hn hfree
    obtain ⟨k, hcounter, hcount, hzero⟩ := round_counts (s.call.ringers.map Prod.fst) s
    change (dispatchRound s).call.counter = _ at hcounter
    change (dispatchRound s).call.free + k ≤ _ at hcount
    simp only [dispatchRounds]
    split
    next hsame =>
      have hk : k = 0 := by
        by_contra hpos
        exact nextCounter_iterate_ne _ (Nat.one_le_iff_ne_zero.mpr hpos) (by omega) (hcounter.symm.trans hsame)
      exact (hzero hk).2
    next hchanged =>
      have hpos : k ≠ 0 := by
        rintro rfl
        exact hchanged hcounter
      exact ih _ (by omega) (by omega)

theorem dispatchOne_of_absent {i : Nat} {s : State} (h : tget s.call.ringers i = none) : dispatchOne i s = s := by
  rw [dispatchOne, h]

theorem tget_eq_none_of_not_mem {α : Type} {t : Table α} {i : Nat} (h : i ∉ t.map Prod.fst) : tget t i = none := by
  cases hc : tget t i with
  | none => rfl
  | some v => exact absurd (List.mem_map_of_mem (mem_of_tget hc)) h

/-- No free ringer is left that could take a request. -/
theorem dispatch_stable {s : State} (h : s.call.ringers.length ≤ 16) (i : Nat) : dispatchOne i (dispatch s) = dispatch s := by
  have hfree : s.call.free ≤ s.call.ringers.length := List.countP_le_length
  by_cases hi : i ∈ (dispatch s).call.ringers.map Prod.fst
  · exact dispatchRounds_stable 17 s (by omega) (by omega) i hi
  · exact dispatchOne_of_absent (tget_eq_none_of_not_mem hi)

/-! ## Settled -/

theorem queuedOrSounding_iff (u : CallUnit) (r : Req) : u.queuedOrSounding r = true ↔
    (∃ x ∈ u.queue, x.ringer = r.ringer ∧ x.pattern = r.pattern ∧ x.origin = r.origin) ∨
    ∃ g ∈ u.ringers, ∃ x, g.2.ring = some (.request x) ∧
      x.ringer = r.ringer ∧ x.pattern = r.pattern ∧ x.origin = r.origin := by
  unfold CallUnit.queuedOrSounding
  rw [Bool.or_eq_true, List.any_eq_true, List.any_eq_true]
  refine or_congr (exists_congr fun x => and_congr_right fun _ => ?_)
    (exists_congr fun g => and_congr_right fun _ => ?_)
  · rw [Req.same_comm, Req.same_iff]
  · split
    next x hx =>
      rw [hx, Req.same_comm, Req.same_iff]
      exact ⟨fun h => ⟨x, rfl, h⟩, fun ⟨y, hy, h⟩ => by cases hy; exact h⟩
    next hnone => exact ⟨nofun, fun ⟨y, hy, _⟩ => absurd hy (hnone y)⟩

theorem Ringer.stop_of_unsent {g : Ringer} {a b n : Nat} (h : g.slot = some (.ring a b n)) :
    g.stop = { g with ring := none, number := none, timer := none, slot := none } := by
  rw [Ringer.stop, h]
  rfl

theorem Ringer.stop_of_sent {g : Ringer} (h : ∀ a b n, g.slot ≠ some (.ring a b n)) :
    g.stop = { g with ring := none, number := none, timer := none, slot := some .cancel } := by
  unfold Ringer.stop
  split
  next a b n hslot => exact absurd hslot (h a b n)
  next => rfl

theorem dispatchOne_of_first {i : Nat} {g : Ringer} {s : State} {l rest : List Req} {r : Req} {pat : Pattern}
    (hg : tget s.call.ringers i = some g) (hring : g.ring = none) (hmissing : s.missing g.station = false)
    (hqueue : s.call.queue = l ++ r :: rest) (hl : ∀ x ∈ l, ¬(x.ringer = i ∧ s.call.level ≤ x.priority))
    (hr : r.ringer = i ∧ s.call.level ≤ r.priority) (hpat : tget s.call.patterns r.pattern = some pat) :
    dispatchOne i s = takeReq i r pat s := by
  have hfind : s.call.queue.find? (fun r => r.ringer == i && r.priority ≥ s.call.level) = some r := by
    rw [hqueue]
    exact find?_append_of_first (fun x hx => by simpa using hl x hx) (by simpa using hr)
  simp [dispatchOne, hg, hring, hmissing, hfind, hpat]

theorem dispatchOne_of_none {i : Nat} {s : State}
    (h : ∀ r ∈ s.call.queue, ¬(r.ringer = i ∧ s.call.level ≤ r.priority)) : dispatchOne i s = s := by
  have hfind : s.call.queue.find? (fun r => r.ringer == i && r.priority ≥ s.call.level) = none :=
    List.find?_eq_none.mpr fun x hx => by simpa using h x hx
  unfold dispatchOne
  split
  · rfl
  · rw [hfind]
    split <;> rfl

/-- Settles O52: the order kept by every step, and the rules of the ring queue. -/
theorem queueOrderKept : Obligations.QueueOrderKept := by
  unfold Obligations.QueueOrderKept
  intro ordered
  refine ⟨fun s t horder hdistinct hstep => ?_, fun a b => ⟨Req.before_iff a b, Req.same_iff a b⟩, ?_,
    fun _ _ _ _ _ => ⟨rfl, rfl⟩, ?_, fun _ => rfl, ?_, fun _ _ => ⟨rfl, rfl⟩, ?_, ?_⟩
  · have ho := step_ordered ⟨horder, hdistinct⟩ hstep
    exact ⟨ho.order, ho.distinct⟩
  · intro u r hu v owing same
    refine ⟨join_order hu, fun h => ?_, fun h hroom => ?_, fun l x h hqueue hfull => ⟨fun hlow => ?_, fun hhigh => ?_⟩⟩
    · rw [show v = _ from CallUnit.join_of_same h]
      exact ⟨rfl, reorder_perm _⟩
    · rw [show v = _ from CallUnit.join_of_room h hroom]
      exact ⟨rfl, insertReq_perm _ _⟩
    · rw [show v = _ from CallUnit.join_of_full h hqueue hfull, if_pos hlow]
      exact ⟨rfl, insertReq_perm _ _⟩
    · exact (CallUnit.join_of_full h hqueue hfull).trans (if_neg (Nat.not_lt.mpr hhigh))
  · intro s push c p hc hp own there offered
    have hoffer : reofferOne s push = if c.owed && decide (s.call.queue.length < Config.ringQueue) then
        if offered.call.queuedOrSounding
            { ringer := p.ringer, pattern := p.pattern, priority := c.priority, origin := .call push, age := 0, seq := 0 }
        then offered
        else joinNew p.ringer p.pattern c.priority (.call push) offered
      else s := by
      rw [reofferOne, hc, hp]
      rfl
    refine ⟨fun h => ?_, fun howed hroom => ?_⟩
    · rw [hoffer, if_neg]
      rcases h with h | h
      · simp [h]
      · simp [Config.ringQueue, Nat.not_lt.mpr h]
    · have hopen : (c.owed && decide (s.call.queue.length < Config.ringQueue)) = true := by
        simpa [howed, Config.ringQueue] using hroom
      rw [hoffer, if_pos hopen]
      exact ⟨fun h => if_pos ((queuedOrSounding_iff _ _).mpr h), fun h => if_neg fun hq => h ((queuedOrSounding_iff _ _).mp hq)⟩
  · intro i g s hg meets
    refine ⟨fun h => ?_, dispatchOne_of_none, fun l r rest pat hring hmissing hqueue hl hr hpat =>
      dispatchOne_of_first hg hring hmissing hqueue hl hr hpat⟩
    rw [dispatchOne, hg]
    exact if_pos (by simpa using h)
  · intro s hlen v
    have hserved := dispatch_served s
    obtain ⟨hline, hreg, hpat, hfire, hshut, hboard, hann, hmgmt, hpending⟩ := dispatch_keeps s
    refine ⟨?_, hserved.pushes, hserved.patterns, hserved.closingLevel, hserved.fireLevel, hserved.calls, hserved.ringing,
      dispatch_stable hlen⟩
    rw [hline, hreg, hpat, hfire, hshut, hboard, hann, hmgmt, hpending]
  · intro g s silent
    refine ⟨fun ⟨a, b, n, h⟩ => Ringer.stop_of_unsent h, Ringer.stop_of_sent, fun _ => rfl, fun _ _ => rfl, rfl,
      fun i hg => ⟨fun r hr hlow => ?_, fun hhigh => ?_⟩⟩
    · simp [preemptOne, hg, hr, Ring.priority, hlow, departures]
    · unfold preemptOne
      rw [hg]
      dsimp only
      split
      · rfl
      next ring hring =>
        cases ring with
        | request r => exact if_neg (Nat.not_lt.mpr (hhigh r hring))
        | panel a b => rfl

end Sys2Proof.Machine
end

section
/-! SUPPORT. The sets kept as bit vectors, and the requests that name one zone (3.4). -/

namespace Sys2Proof.Machine

/-! ## Sets kept as bit vectors -/

theorem getLsbD_addBit {n : Nat} (m : BitVec n) (i j : Nat) :
    (addBit m i).getLsbD j = (m.getLsbD j || (decide (j < n) && decide (i = j))) := by
  rw [addBit, BitVec.getLsbD_or, BitVec.getLsbD_twoPow]
  by_cases hij : i = j <;> simp [hij]

theorem getLsbD_ofMembers {n : Nat} (l : List Nat) (j : Nat) :
    (ofMembers l : BitVec n).getLsbD j = true ↔ j < n ∧ j ∈ l := by
  have hfold : ∀ (l : List Nat) (m : BitVec n), (l.foldl addBit m).getLsbD j = true ↔
      m.getLsbD j = true ∨ (j < n ∧ j ∈ l) := by
    intro l
    induction l with
    | nil => simp
    | cons i l ih =>
      intro m
      rw [List.foldl_cons, ih, getLsbD_addBit, List.mem_cons, Bool.or_eq_true, Bool.and_eq_true, decide_eq_true_iff,
        decide_eq_true_iff, eq_comm (a := i)]
      tauto
  exact (hfold l 0).trans (by simp)

theorem ofMembers_eq_of {n : Nat} {l : List Nat} {m : BitVec n} (h : ∀ j < n, m.getLsbD j = true ↔ j ∈ l) :
    (ofMembers l : BitVec n) = m := by
  refine BitVec.eq_of_getLsbD_eq fun j hj => ?_
  rw [Bool.eq_iff_iff, getLsbD_ofMembers, h j hj]
  exact and_iff_right hj

theorem ofMembers_ne_zero_iff {n : Nat} (l : List Nat) : (ofMembers l : BitVec n) ≠ 0 ↔ ∃ j ∈ l, j < n := by
  constructor
  · intro hne
    by_contra hnone
    push Not at hnone
    refine hne (ofMembers_eq_of fun j hj => ?_)
    simpa using fun hmem => absurd (hnone j hmem) (Nat.not_le.mpr hj)
  · rintro ⟨j, hmem, hj⟩ h0
    have hbit : (ofMembers l : BitVec n).getLsbD j = true := (getLsbD_ofMembers l j).mpr ⟨hj, hmem⟩
    rw [h0] at hbit
    simp at hbit

theorem mem_members {n : Nat} (m : BitVec n) (i : Nat) : i ∈ members m ↔ m.getLsbD i = true := by
  rw [members, List.mem_filter, List.mem_range]
  exact and_iff_right_of_imp fun h => by
    by_contra hge
    rw [BitVec.getLsbD_of_ge _ _ (Nat.not_lt.mp hge)] at h
    cases h

theorem mem_tkeys {α : Type} {t : Table α} {p : α → Bool} {i : Nat} :
    i ∈ tkeys t p ↔ ∃ e ∈ t, e.1 = i ∧ p e.2 = true := by
  simp only [tkeys, List.mem_map, List.mem_filter]
  exact ⟨fun ⟨e, ⟨he, hp⟩, hi⟩ => ⟨e, he, hi, hp⟩, fun ⟨e, he, hi, hp⟩ => ⟨e, ⟨he, hp⟩, hi⟩⟩

/-! ## The detectors and call points of a zone -/

theorem activeDetectors_ne_zero_iff (s : State) (z : Nat) : activeDetectors s z ≠ 0 ↔
    ∃ d ∈ s.fire.detectors, d.1 < 48 ∧ d.2.zone = z ∧ d.2.active = true := by
  rw [activeDetectors, ofMembers_ne_zero_iff]
  simp only [mem_tkeys, Bool.and_eq_true, beq_iff_eq]
  exact ⟨fun ⟨j, ⟨e, he, hi, hp⟩, hj⟩ => ⟨e, he, hi ▸ hj, hp⟩, fun ⟨e, he, hj, hp⟩ => ⟨_, ⟨e, he, rfl, hp⟩, hj⟩⟩

theorem operatedPoints_ne_zero_iff (s : State) (z : Nat) : operatedPoints s z ≠ 0 ↔
    ∃ c ∈ s.fire.callPoints, c.1 < 24 ∧ c.2.zone = z ∧ c.2.operated = true := by
  rw [operatedPoints, ofMembers_ne_zero_iff]
  simp only [mem_tkeys, Bool.and_eq_true, beq_iff_eq]
  exact ⟨fun ⟨j, ⟨e, he, hi, hp⟩, hj⟩ => ⟨e, he, hi ▸ hj, hp⟩, fun ⟨e, he, hj, hp⟩ => ⟨_, ⟨e, he, rfl, hp⟩, hj⟩⟩

theorem activeDetectors_eq_zero {s : State} {z : Nat}
    (h : ∀ d ∈ s.fire.detectors, d.2.zone = z → d.2.active = false) : activeDetectors s z = 0 := by
  by_contra hne
  obtain ⟨d, hd, -, hz, hactive⟩ := (activeDetectors_ne_zero_iff s z).mp hne
  rw [h d hd hz] at hactive
  cases hactive

theorem operatedPoints_eq_zero {s : State} {z : Nat}
    (h : ∀ c ∈ s.fire.callPoints, c.2.zone = z → c.2.operated = false) : operatedPoints s z = 0 := by
  by_contra hne
  obtain ⟨c, hc, -, hz, hoperated⟩ := (operatedPoints_ne_zero_iff s z).mp hne
  rw [h c hc hz] at hoperated
  cases hoperated

theorem activeDetectors_eq_of {s : State} {z : Nat} {m : DetSet} (h : ∀ i < 48, m.getLsbD i = true ↔
    ∃ d ∈ s.fire.detectors, d.1 = i ∧ d.2.zone = z ∧ d.2.active = true) : activeDetectors s z = m :=
  ofMembers_eq_of fun i hi => (h i hi).trans (by simp [mem_tkeys])

/-! ## Requests that name one zone (R56 to R61) -/

section
variable {s : State} {z : Nat}

theorem zoneRequest_of_absent (harmed : s.armed = true) (h : 15 < z ∨ tget s.fire.zones z = none) (f : Zone → Result) :
    zoneRequest z s f = refuse s .badIndex := by
  have hnone : (if z > 15 then none else tget s.fire.zones z) = none := by
    rcases h with h | h
    · exact if_pos h
    · rw [h, ite_self]
  rw [zoneRequest, whenArmed_of_armed harmed, hnone]

theorem zoneRequest_of_present (harmed : s.armed = true) (hz : z ≤ 15) {e : Zone} (he : tget s.fire.zones z = some e)
    (f : Zone → Result) : zoneRequest z s f = f e := by
  rw [zoneRequest, whenArmed_of_armed harmed, if_neg (Nat.not_lt.mpr hz), he]

end

theorem panelHeard_fire (src : Byte) (s : State) : (panelHeard src s).fire = s.fire := by simp

/-- Settles O24: each request by the zone's state and its detectors. -/
theorem zoneRequestsAnswer : Obligations.ZoneRequestsAnswer := by
  intro src tag zone s htakes harmed u z ack cancel isolate restore quiet
  have harmed' : u.armed = true := (panelHeard_armed src s).trans harmed
  have hfire : u.fire = s.fire := panelHeard_fire src s
  have hack : ∀ c v, acknowledgeZone z u = { state := v, code := c, data := [] } → ack c v :=
    fun _ _ h => answersAs_exec rfl rfl htakes h
  have hcancel : ∀ c v, cancelZone z u = { state := v, code := c, data := [] } → cancel c v :=
    fun _ _ h => answersAs_exec rfl rfl htakes h
  have hisolate : ∀ c v, isolateZone z u = { state := v, code := c, data := [] } → isolate c v :=
    fun _ _ h => answersAs_exec rfl rfl htakes h
  have hrestore : ∀ c v, restoreZone z u = { state := v, code := c, data := [] } → restore c v :=
    fun _ _ h => answersAs_exec rfl rfl htakes h
  rw [← hfire]
  clear_value u
  refine ⟨fun habsent => ?_, fun e hz he => ?_⟩
  · have hbad := zoneRequest_of_absent harmed' habsent
    exact ⟨hack _ _ (hbad _), hcancel _ _ (hbad _), hisolate _ _ (hbad _), hrestore _ _ (hbad _)⟩
  have hat : ∀ f, zoneRequest z u f = f e := zoneRequest_of_present harmed' hz he
  refine ⟨fun hstate hacked => hack _ _ ((hat _).trans (if_pos ⟨hstate, hacked⟩)),
    fun hother => hack _ _ ((hat _).trans (if_neg ?_)), fun hstate => hcancel _ _ ((hat _).trans (if_pos hstate)),
    fun hstate => ⟨fun hactive => hcancel _ _ ((hat _).trans ?_), fun hnone => hcancel _ _ ((hat _).trans ?_)⟩,
    fun hstate => hisolate _ _ ((hat _).trans (if_pos hstate)),
    fun hstate => hisolate _ _ ((hat _).trans (if_neg hstate)),
    fun hstate => hrestore _ _ ((hat _).trans (if_pos hstate)),
    fun hstate => ⟨fun hnone => hrestore _ _ ((hat _).trans ?_), fun m hm hmem => hrestore _ _ ((hat _).trans ?_)⟩⟩
  · rintro ⟨hpre, hacked⟩
    rcases hother with h | h
    · exact h hpre
    · rw [hacked] at h; cases h
  · rw [if_neg (not_not.mpr hstate), if_pos ((activeDetectors_ne_zero_iff u z).mpr hactive)]
    rfl
  · rw [if_neg (not_not.mpr hstate), if_neg (not_not.mpr (activeDetectors_eq_zero hnone))]
    rfl
  · rw [if_neg (not_not.mpr hstate)]
    simp only [activeDetectors_eq_zero hnone]
    rfl
  · rw [if_neg (not_not.mpr hstate)]
    simp only [activeDetectors_eq_of hmem, if_pos hm]
    rfl

end Sys2Proof.Machine
end

section
/-! SUPPORT. The end of the fire alarm: Reset Zone, Silence and Resound (3.4, 5.6, 7.5). -/

namespace Sys2Proof.Machine

/-! ## Units that keep no request of some origin -/

/-- No queued request and no ring is of an origin that meets `p`. -/
structure CallUnit.Without (p : Origin → Bool) (u : CallUnit) : Prop where
  queue : ∀ r ∈ u.queue, p r.origin = false
  rings : ∀ g ∈ u.ringers, ∀ r, g.2.ring = some (.request r) → p r.origin = false

theorem CallUnit.join_origin {u : CallUnit} {r y : Req} (h : y ∈ (u.join r).queue) :
    y.origin = r.origin ∨ ∃ x ∈ u.queue, x.origin = y.origin := by
  have hinsert : ∀ l : List Req, y ∈ insertReq r l → y = r ∨ y ∈ l := fun l hy =>
    List.mem_cons.mp ((insertReq_perm r l).mem_iff.mp hy)
  unfold CallUnit.join at h
  split at h
  · obtain ⟨x, hx, rfl⟩ := List.mem_map.mp ((reorder_perm _).mem_iff.mp h)
    refine .inr ⟨x, hx, ?_⟩
    split <;> rfl
  · split at h
    · exact (hinsert _ h).imp (congrArg Req.origin) fun h => ⟨y, h, rfl⟩
    · split at h
      · exact .inr ⟨y, h, rfl⟩
      · split at h <;> rw [CallUnit.owe_queue] at h
        · exact (hinsert _ h).imp (congrArg Req.origin) fun h => ⟨y, (List.dropLast_sublist _).subset h, rfl⟩
        · exact .inr ⟨y, h, rfl⟩

theorem joinNew_ringers (a b c : Nat) (o : Origin) (s : State) : (joinNew a b c o s).call.ringers = s.call.ringers := by
  obtain ⟨q, n, m, l, -, h⟩ := joinNew_call a b c o s
  rw [h]
  rfl

section
variable {p : Origin → Bool} {s : State}

theorem joinNew_without {a b c : Nat} {o : Origin} (ho : p o = false) (h : s.call.Without p) :
    (joinNew a b c o s).call.Without p := by
  refine ⟨fun y hy => ?_, by rw [joinNew_ringers]; exact h.rings⟩
  rcases CallUnit.join_origin hy with hr | ⟨x, hx, hxy⟩
  · rw [hr]; exact ho
  · rw [← hxy]; exact h.queue x hx

theorem CallUnit.Served.pushes_of_calls {a b : CallUnit} (h : a.Served b) :
    b.calls.map (fun c => c.push) = a.calls.map fun c => c.push := by
  have := congrArg (List.map fun c : Call => c.push) h.calls
  rwa [List.map_map, List.map_map] at this

/-- No listed call has a push whose requests meet `p`. -/
def CallUnit.Unlisted (p : Origin → Bool) (u : CallUnit) : Prop := ∀ i ∈ u.calls.map (fun c => c.push), p (.call i) = false

theorem CallUnit.Served.unlisted {a b : CallUnit} (h : a.Served b) (hp : a.Unlisted p) : b.Unlisted p := by
  unfold CallUnit.Unlisted
  rw [h.pushes_of_calls]
  exact hp

/-- A re-offer brings in requests of listed calls alone. -/
theorem reofferOne_without (hp : s.call.Unlisted p) (h : s.call.Without p) (push : Nat) :
    (reofferOne s push).call.Without p := by
  unfold reofferOne
  split
  next c _ hfind _ =>
    split
    · have h1 : (s.onCall fun u => u.onCallOf push fun c => { c with owed := false }).call.Without p := ⟨h.queue, h.rings⟩
      have hpush : c.push = push := by simpa using List.find?_some hfind
      have hcall : p (.call push) = false := hp push (List.mem_map.mpr ⟨c, List.mem_of_find?_eq_some hfind, hpush⟩)
      dsimp only
      split <;> [exact h1; exact joinNew_without hcall h1]
    · exact h
  · exact h

theorem onRinger_without {i : Nat} {f : Ringer → Ringer}
    (hf : ∀ g r, (f g).ring = some (.request r) → p r.origin = false) (h : s.call.Without p) :
    (onRinger s i f).call.Without p := by
  refine ⟨h.queue, fun g hg r hr => ?_⟩
  change g ∈ tmod s.call.ringers i f at hg
  rw [tmod_eq_map] at hg
  obtain ⟨e, he, rfl⟩ := List.mem_map.mp hg
  split at hr
  · exact hf _ _ hr
  · exact h.rings e he r hr

theorem dispatchOne_without (h : s.call.Without p) (i : Nat) : (dispatchOne i s).call.Without p := by
  rcases dispatchOne_cases i s with hidle | ⟨g, r, pat, -, -, hr, -, htake⟩
  · rw [hidle]; exact h
  · rw [htake]
    refine onRinger_without (fun g x hx => ?_) ⟨fun y hy => h.queue y (List.mem_filter.mp hy).1, h.rings⟩
    cases hx
    exact h.queue r hr

theorem dispatch_without (hp : s.call.Unlisted p) (h : s.call.Without p) : (dispatch s).call.Without p :=
  (dispatch_of_step (p := fun s => s.call.Unlisted p ∧ s.call.Without p)
    (fun s i h => ⟨(reofferOne_served s i).unlisted h.1, reofferOne_without h.1 h.2 i⟩)
    (fun s i h => ⟨(dispatchOne_served i s).unlisted h.1, dispatchOne_without h.2 i⟩) ⟨hp, h⟩).2

theorem departures_without (hp : s.call.Unlisted p) (h : s.call.Without p) : (departures s).call.Without p :=
  dispatch_without ((reoffer_served s).unlisted hp)
    (reoffer_of_step (p := fun s => s.call.Unlisted p ∧ s.call.Without p)
      (fun s i h => ⟨(reofferOne_served s i).unlisted h.1, reofferOne_without h.1 h.2 i⟩) ⟨hp, h⟩).2

end

/-! ## Withdrawing what has an origin (R114, R115) -/

theorem Ringer.stop_ring (g : Ringer) : g.stop.ring = none := rfl

/-- After withdrawing and stopping nothing of the origin is left. -/
theorem CallUnit.withdraw_without (u : CallUnit) (p : Origin → Bool) : ((u.withdraw p).stopFrom p).Without p := by
  refine ⟨fun r hr => ?_, fun g hg r hr => ?_⟩
  · simpa using (List.mem_filter.mp hr).2
  · change g ∈ tmap u.ringers _ at hg
    rw [tmap_eq_map] at hg
    obtain ⟨e, -, rfl⟩ := List.mem_map.mp hg
    dsimp only at hr
    split at hr
    · cases hr
    next hkeep =>
      rw [hr] at hkeep
      simpa [Ring.originMeets] using hkeep

/-- The ringers with those that ring a request of origin `o` stopped. -/
theorem CallUnit.stopFrom_ringers (u : CallUnit) (o : Origin) : (u.stopFrom (· == o)).ringers =
    u.ringers.map fun e => (e.1, match e.2.ring with
      | some (.request r) => if r.origin = o then e.2.stop else e.2
      | _ => e.2) := by
  rw [CallUnit.stopFrom, tmap_eq_map]
  refine List.map_congr_left fun e _ => ?_
  match e.2.ring with
  | none => simp
  | some (.panel a b) => simp [Ring.originMeets]
  | some (.request r) => simp [Ring.originMeets]

theorem departures_served (s : State) : s.call.Served (departures s).call := (reoffer_served s).trans (dispatch_served _)

theorem overrideStops_eq (s : State) : overrideStops s = s.onAnn fun a =>
    { a with amps := a.amps.map fun e => (e.1, { e.2 with gapTimer := none, owed := false }), mark := true } := by
  rw [overrideStops, markClosing_eq]
  simp only [tmap_eq_map]
  rfl

theorem gapTimer_of_mem {t : Table Amp} {a : Nat × Amp}
    (h : a ∈ t.map fun e => (e.1, { e.2 with gapTimer := none, owed := false })) : a.2.gapTimer = none := by
  obtain ⟨e, -, rfl⟩ := List.mem_map.mp h
  rfl

/-- What the end of the alarm withdraws in the Call Unit. -/
theorem withdrawFire_call (s : State) : withdrawFire s = s.onCall fun u =>
    { u with
      queue := u.queue.filter fun r => r.origin != .fire
      ringers := u.ringers.map fun e => (e.1, match e.2.ring with
        | some (.request r) => if r.origin = .fire then e.2.stop else e.2
        | _ => e.2)
      fireRound := 0, fireTimer := none, mark := true } := by
  have hringers := CallUnit.stopFrom_ringers (s.call.withdraw (· == .fire)) .fire
  unfold withdrawFire State.onCall
  dsimp only
  rw [hringers]
  rfl

theorem withdrawFire_without (s : State) : (withdrawFire s).call.Without (· == .fire) := by
  obtain ⟨hqueue, hrings⟩ := CallUnit.withdraw_without s.call (· == .fire)
  exact ⟨hqueue, hrings⟩

/-- Settles O25: the refusals, and the end of the last FULL_ALARM. -/
theorem resetZoneAnswers : Obligations.ResetZoneAnswers := by
  intro src tag zone s htakes harmed u z answer quiet
  have harmed' : u.armed = true := (panelHeard_armed src s).trans harmed
  have hfire : u.fire = s.fire := panelHeard_fire src s
  have hanswer : ∀ c v, resetZone z u = { state := v, code := c, data := [] } → answer c v :=
    fun _ _ h => answersAs_exec rfl rfl htakes h
  rw [← hfire]
  clear_value u
  refine ⟨fun habsent => hanswer _ _ (zoneRequest_of_absent harmed' habsent _), fun e hz he => ?_⟩
  have hat : ∀ f, zoneRequest z u f = f e := zoneRequest_of_present harmed' hz he
  refine ⟨fun hstate => hanswer _ _ ((hat _).trans (if_pos hstate)), fun hstate => ⟨fun hactive => hanswer _ _ ?_,
    fun hoperated => hanswer _ _ ?_, fun hnone hquiet => ?_⟩⟩
  · refine (hat _).trans ((if_neg (not_not.mpr hstate)).trans (if_pos (.inl ?_)))
    exact (activeDetectors_ne_zero_iff u z).mpr hactive
  · refine (hat _).trans ((if_neg (not_not.mpr hstate)).trans (if_pos (.inr ?_)))
    exact (operatedPoints_ne_zero_iff u z).mpr hoperated
  have hfree : ¬(activeDetectors u z ≠ 0 ∨ operatedPoints u z ≠ 0) := by
    simp [activeDetectors_eq_zero hnone, operatedPoints_eq_zero hquiet]
  have hover : resetZone z u = accept (alarmOver quiet) :=
    (hat _).trans ((if_neg (not_not.mpr hstate)).trans (if_neg hfree))
  refine ⟨fun hfull => hanswer _ _ ?_, fun hlast => ?_⟩
  · rw [hover, alarmOver, hfull, if_pos rfl]
    rfl
  intro w
  have hstart : (withdrawFire (quiet.onFire fun f => { f with silence := false })).onCall
      (fun u => { u with fireLevel := 0 }) = w := by
    rw [withdrawFire_call]
    rfl
  have hlast' : alarmOver quiet = overrideStops (departures w) := by
    rw [alarmOver, hlast, if_neg Bool.false_ne_true, callFireOver, hstart]
  have hserved := departures_served w
  have hwithout : (departures w).call.Without (· == .fire) := by
    refine departures_without (fun _ _ => rfl) ?_
    rw [← hstart]
    exact ⟨(withdrawFire_without _).queue, (withdrawFire_without _).rings⟩
  refine ⟨alarmOver quiet, hanswer _ _ hover, ?_⟩
  rw [hlast', overrideStops_eq]
  obtain ⟨hline, hreg, hpat, hfireUnit, hshut, hboard, hann, hmgmt, -⟩ := departures_keeps w
  refine ⟨hfireUnit, hline, hreg, hpat, hshut, hboard, hmgmt, hserved.fireLevel, hserved.fireRound, hserved.fireTimer,
    hserved.closingLevel, hserved.pushes, fun r hr => ?_, fun g hg r hr => ?_, fun a ha => gapTimer_of_mem ha, rfl⟩
  · simpa using hwithout.queue r hr
  · simpa using hwithout.rings g hg r hr

/-! ## Silence and Resound (R63, R64) -/

/-- The settings, levels and fire fields of the Call Unit, and which ringers it has. -/
structure CallUnit.Fixed (a b : CallUnit) : Prop where
  pushes : b.pushes = a.pushes
  patterns : b.patterns = a.patterns
  closingLevel : b.closingLevel = a.closingLevel
  fireLevel : b.fireLevel = a.fireLevel
  fireRound : b.fireRound = a.fireRound
  fireTimer : b.fireTimer = a.fireTimer
  indices : b.ringers.map Prod.fst = a.ringers.map Prod.fst

theorem CallUnit.Served.fixed {a b : CallUnit} (h : a.Served b) : a.Fixed b :=
  ⟨h.pushes, h.patterns, h.closingLevel, h.fireLevel, h.fireRound, h.fireTimer, h.indices⟩

theorem CallUnit.Fixed.refl (u : CallUnit) : u.Fixed u := ⟨rfl, rfl, rfl, rfl, rfl, rfl, rfl⟩

theorem CallUnit.Fixed.trans {a b c : CallUnit} (h : a.Fixed b) (h' : b.Fixed c) : a.Fixed c :=
  ⟨h'.pushes.trans h.pushes, h'.patterns.trans h.patterns, h'.closingLevel.trans h.closingLevel,
    h'.fireLevel.trans h.fireLevel, h'.fireRound.trans h.fireRound, h'.fireTimer.trans h.fireTimer,
    h'.indices.trans h.indices⟩

theorem onRinger_fixed (s : State) (i : Nat) (f : Ringer → Ringer) : s.call.Fixed (onRinger s i f).call :=
  ⟨rfl, rfl, rfl, rfl, rfl, rfl, tmod_map_fst ..⟩

theorem rejoin_fixed (g : Option Ring) (s : State) : s.call.Fixed (rejoin g s).call := by
  unfold rejoin
  split
  next r =>
    obtain ⟨q, m, l, -, h⟩ := s.call.join_served r
    change s.call.Fixed (s.call.join r)
    rw [h]
    exact ⟨rfl, rfl, rfl, rfl, rfl, rfl, rfl⟩
  next => exact .refl _

theorem preemptOne_fixed (s : State) (i : Nat) : s.call.Fixed (preemptOne s i).call := by
  unfold preemptOne
  split
  · exact .refl _
  · split
    · exact .refl _
    · split
      · exact (((onRinger_fixed s i _).trans (dispatchOne_served i _).fixed).trans (rejoin_fixed _ _)).trans
          (departures_served _).fixed
      · exact .refl _

theorem preempt_fixed (l : List Nat) (s : State) : s.call.Fixed (dispatch (l.foldl preemptOne s)).call :=
  (foldl_of_step (p := fun t => s.call.Fixed t.call) (fun t i h => h.trans (preemptOne_fixed t i)) l
    (CallUnit.Fixed.refl s.call)).trans (dispatch_served _).fixed

theorem fireInterval_eq (s : State) (pattern : Nat) :
    fireInterval s pattern = (tget s.call.patterns pattern).bind fun p => p.repeating.map fun r => r.1 * 125000 := by
  unfold fireInterval
  cases tget s.call.patterns pattern <;> rfl

theorem fireRings_fireRound {s : State} (h : s.fire.settings.isSome = true) : (fireRings s).call.fireRound = 1 := by
  unfold fireRings
  split
  next hnone => rw [hnone] at h; cases h
  next f hf => exact (preempt_fixed ..).fireRound

theorem markFullZones_eq (s : State) : markFullZones s = s.onFire fun k => { k with zones := k.zones.map fun e =>
    (e.1, { e.2 with mark := e.2.mark || e.2.state == .fullAlarm }) } := by
  simp only [markFullZones, tmap_eq_map]

theorem gateOffWhere_gated (s : State) : gateOffWhere (fun a => a.state == .gated) s = s.onAnn fun a =>
    { a with amps := a.amps.map fun e => (e.1, if e.2.state = .gated then
        { e.2 with
          state := .idle, origin := none, phrase := none, number := none, phraseTimer := none, gen := none,
          slot := if s.missing e.2.station then e.2.slot else some .gateOff }
      else e.2) } := by
  simp only [gateOffWhere, tmap_eq_map, beq_iff_eq]
  rfl

/-! ### A dispatch does not read the fire unit -/

theorem foldl_comm_of {α : Type} {f : State → α → State} {g : State → State} (h : ∀ s a, f (g s) a = g (f s a))
    (l : List α) : ∀ s, l.foldl f (g s) = g (l.foldl f s) := by
  induction l with
  | nil => exact fun _ => rfl
  | cons a l ih => exact fun s => by rw [List.foldl_cons, h, ih, List.foldl_cons]

section
variable (g : FireUnit → FireUnit)

theorem ite_onFire {p q : Prop} [Decidable p] [Decidable q] {a b a' b' : State} (hpq : p ↔ q) (ha : a' = a.onFire g)
    (hb : b' = b.onFire g) : (if p then a' else b') = (if q then a else b).onFire g := by
  by_cases hq : q
  · rw [if_pos (hpq.mpr hq), if_pos hq, ha]
  · rw [if_neg (mt hpq.mp hq), if_neg hq, hb]

theorem reofferOne_onFire (s : State) (push : Nat) : reofferOne (s.onFire g) push = (reofferOne s push).onFire g := by
  simp only [reofferOne, State.onFire_call]
  cases s.call.calls.find? (fun c => c.push == push) with
  | none => rfl
  | some c =>
    cases tget s.call.pushes push with
    | none => rfl
    | some p => exact ite_onFire g Iff.rfl (ite_onFire g Iff.rfl rfl rfl) rfl

theorem dispatchOne_onFire (s : State) (i : Nat) : dispatchOne i (s.onFire g) = (dispatchOne i s).onFire g := by
  unfold dispatchOne
  rw [State.onFire_call]
  cases tget s.call.ringers i with
  | none => rfl
  | some e =>
    refine ite_onFire g Iff.rfl rfl ?_
    cases s.call.queue.find? fun r => r.ringer == i && decide (r.priority ≥ s.call.level) with
    | none => rfl
    | some r =>
      dsimp only
      cases tget s.call.patterns r.pattern with
      | none => rfl
      | some pat => rfl

theorem reoffer_onFire (s : State) : reoffer (s.onFire g) = (reoffer s).onFire g :=
  foldl_comm_of (g := fun s => s.onFire g) (reofferOne_onFire g) _ s

theorem dispatchRounds_onFire (n : Nat) : ∀ s, dispatchRounds n (s.onFire g) = (dispatchRounds n s).onFire g := by
  have hround : ∀ s, dispatchRound (s.onFire g) = (dispatchRound s).onFire g := fun s => by
    refine foldl_comm_of (g := fun s => s.onFire g) (fun s i => ?_) _ s
    dsimp only
    rw [dispatchOne_onFire, reoffer_onFire]
    exact ite_onFire g Iff.rfl rfl rfl
  induction n with
  | zero => exact fun _ => rfl
  | succ n ih =>
    intro s
    simp only [dispatchRounds]
    rw [hround, ih]
    exact ite_onFire g Iff.rfl rfl rfl

theorem departures_onFire (s : State) : departures (s.onFire g) = (departures s).onFire g := by
  rw [departures, reoffer_onFire]
  exact dispatchRounds_onFire g 17 _

end

/-- Settles O27: Silence and Resound in full, with the start of the fire rings and of the fire phrases. -/
theorem silenceAndResoundAnswer : Obligations.SilenceAndResoundAnswer := by
  refine ⟨?requests, ?starts⟩
  case requests =>
    intro src tag s htakes harmed u sil res
    have harmed' : u.armed = true := (panelHeard_armed src s).trans harmed
    have hfull : u.anyFull = s.anyFull := panelHeard_anyFull src s
    have hsilence : u.fire.silence = s.fire.silence := congrArg FireUnit.silence (panelHeard_fire src s)
    have hsil : ∀ c v, silence u = { state := v, code := c, data := [] } → sil c v :=
      fun _ _ h => answersAs_exec rfl rfl htakes h
    have hres : ∀ c v, resound u = { state := v, code := c, data := [] } → res c v :=
      fun _ _ h => answersAs_exec rfl rfl htakes h
    rw [← hfull, ← hsilence]
    clear_value u
    refine ⟨fun hnone => ⟨hsil _ _ ?_, hres _ _ ?_⟩, fun hany => ⟨fun hset => hsil _ _ ?_, fun hclear => ?_, ?_⟩⟩
    · simp [silence, whenArmed_of_armed harmed', hnone, refuse]
    · simp [resound, whenArmed_of_armed harmed', hnone, refuse]
    · simp [silence, whenArmed_of_armed harmed', hany, hset, accept]
    · intro marked w
      have hbody : silence u = accept (markFullZones (overrideStops (departures (withdrawFire
          (u.onFire fun f => { f with silence := true }))))) := by
        simp [silence, whenArmed_of_armed harmed', hany, hclear, callSilence]
      have hstate : markFullZones (overrideStops (departures (withdrawFire
          (u.onFire fun f => { f with silence := true })))) = (departures w).onAnn fun a => { a with
            amps := a.amps.map fun e => (e.1, { e.2 with gapTimer := none, owed := false }), mark := true } := by
        rw [overrideStops_eq, markFullZones_eq, withdrawFire_call]
        have hmarked := departures_onFire
          (fun k => { k with
            zones := k.zones.map fun e => (e.1, { e.2 with mark := e.2.mark || e.2.state == .fullAlarm }) })
          ((u.onFire fun f => { f with silence := true }).onCall fun k => { k with
            queue := k.queue.filter fun r => r.origin != .fire
            ringers := k.ringers.map fun e => (e.1, match e.2.ring with
              | some (.request r) => if r.origin = .fire then e.2.stop else e.2
              | _ => e.2)
            fireRound := 0, fireTimer := none, mark := true })
        exact congrArg (fun v : State => v.onAnn fun a => { a with
          amps := a.amps.map fun e => (e.1, { e.2 with gapTimer := none, owed := false }), mark := true }) hmarked.symm
      have hserved := departures_served w
      have hwithout : (departures w).call.Without (· == .fire) :=
        departures_without (fun _ _ => rfl) (by
          have h := withdrawFire_without u
          rw [withdrawFire_call] at h
          exact ⟨h.queue, h.rings⟩)
      obtain ⟨hline, hreg, hpat, hfire, hshut, hboard, hann, hmgmt, -⟩ := departures_keeps w
      refine ⟨_, hsil _ _ (hbody.trans (congrArg accept hstate)), hfire, rfl, ?_, ?_, hline, hreg, hpat, hshut, hboard,
        hmgmt, hserved.fireTimer, hserved.fireRound, hserved.fireLevel, fun r hr => ?_, fun g hg r hr => ?_,
        fun a ha => gapTimer_of_mem ha⟩
      · exact (congrArg FireUnit.silence hfire : (departures w).fire.silence = _)
      · exact (congrArg FireUnit.detectors hfire : (departures w).fire.detectors = _)
      · simpa using hwithout.queue r hr
      · simpa using hwithout.rings g hg r hr
    · refine ⟨markFullZones (fireOverride (fireRings (u.onFire fun f => { f with silence := false }))), hres _ _ ?_, ?_⟩
      · simp [resound, whenArmed_of_armed harmed', hany, accept]
      · have hround : u.fire.settings.isSome = true →
            (fireRings (u.onFire fun f => { f with silence := false })).call.fireRound = 1 :=
          fun h => fireRings_fireRound (s := u.onFire fun f => { f with silence := false }) h
        simpa [markFullZones] using hround
  case starts =>
    intro v indices preempted silent
    refine ⟨fun hnone => ⟨?_, ?_⟩, fun f hf => ⟨?_, ?_⟩, markFullZones_eq v⟩
    · rw [fireRings, hnone]
    · rw [fireOverride, hnone]
      exact gateOffWhere_gated _
    · simp only [fireRings, hf, fireInterval_eq]
      rfl
    · rw [fireOverride, hf]
      rfl

end Sys2Proof.Machine
end
section
/-! SUPPORT. A zone's entry to FULL_ALARM in the Fire Zone Unit, and Evacuate as the entries of the named zones in
QUIET and PRE_ALARM, one after the other. -/

namespace Sys2Proof.Machine

/-! ## What an entry changes in the Fire Zone Unit -/

/-- The zone as it stands in FULL_ALARM (R53). -/
def Zone.toFull (e : Zone) : Zone := { e with state := .fullAlarm, timer := none, acked := false }

/-- The zone may enter FULL_ALARM by an alarm (R51, R62). -/
def Zone.mayEnter (e : Zone) : Bool := e.state == .quiet || e.state == .preAlarm

theorem enterFullAlarm_fire (z : Nat) (s : State) : (enterFullAlarm z s).fire =
    { s.fire with
      silence := false
      zones := tmap (tmod s.fire.zones z Zone.toFull) fun _ e =>
        { e with mark := e.mark || e.state == .fullAlarm } } := by
  simp only [enterFullAlarm, annFullAlarm_keeps, callFullAlarm_keeps, monitorFullAlarm_keeps, releaseZone_keeps]
  rfl

theorem enterFullAlarm_zone (z : Nat) (s : State) {y : Nat} {e : Zone} (he : tget s.fire.zones y = some e) :
    ∃ m, tget (enterFullAlarm z s).fire.zones y = some { (if z = y then e.toFull else e) with mark := m } := by
  rw [enterFullAlarm_fire, tget_tmap, tget_tmod]
  by_cases h : z = y
  · rw [if_pos h, he]
    exact ⟨_, by rw [if_pos h]; rfl⟩
  · rw [if_neg h, he]
    exact ⟨_, by rw [if_neg h]; rfl⟩

theorem enterFullAlarm_mayEnter {y z : Nat} (h : y ≠ z) (s : State) :
    (tget (enterFullAlarm z s).fire.zones y).any Zone.mayEnter = (tget s.fire.zones y).any Zone.mayEnter := by
  rw [enterFullAlarm_fire, tget_tmap, tget_tmod, if_neg (Ne.symm h), Option.any_map]
  rfl

theorem alarmZone_eq (z : Nat) (s : State) :
    alarmZone z s = if (tget s.fire.zones z).any Zone.mayEnter then enterFullAlarm z s else s := by
  unfold alarmZone
  cases tget s.fire.zones z with
  | none => rfl
  | some e => simp [Zone.mayEnter]

/-! ## Entries one after the other -/

/-- Alarms on distinct zones are the entries of those that may enter now: an entry leaves whether another zone may. -/
theorem foldl_alarmZone {l : List Nat} (hl : l.Nodup) (s : State) : l.foldl (fun s z => alarmZone z s) s =
    (l.filter fun z => (tget s.fire.zones z).any Zone.mayEnter).foldl (fun s z => enterFullAlarm z s) s := by
  induction l generalizing s with
  | nil => rfl
  | cons z l ih =>
    obtain ⟨hz, hl⟩ := List.nodup_cons.mp hl
    rw [List.foldl_cons, alarmZone_eq, List.filter_cons]
    by_cases h : (tget s.fire.zones z).any Zone.mayEnter = true
    · rw [if_pos h, if_pos h, List.foldl_cons, ih hl]
      refine congrArg (List.foldl _ _) (List.filter_congr fun y hy => ?_)
      exact enterFullAlarm_mayEnter (fun heq : y = z => hz (heq ▸ hy)) s
    · rw [if_neg h, if_neg h, ih hl]

theorem foldl_enterFullAlarm_zone {l : List Nat} (hl : l.Nodup) {s : State} {y : Nat} {e : Zone}
    (he : tget s.fire.zones y = some e) :
    ∃ m, tget (l.foldl (fun s z => enterFullAlarm z s) s).fire.zones y =
      some { (if y ∈ l then e.toFull else e) with mark := m } := by
  induction l generalizing s e with
  | nil => exact ⟨e.mark, by simpa using he⟩
  | cons z l ih =>
    obtain ⟨hz, hl⟩ := List.nodup_cons.mp hl
    obtain ⟨m, hm⟩ := enterFullAlarm_zone z s he
    obtain ⟨m', hm'⟩ := ih hl hm
    refine ⟨m', hm'.trans ?_⟩
    by_cases hy : z = y
    · subst hy
      rw [if_pos rfl, if_neg hz, if_pos List.mem_cons_self]
    · simp only [if_neg hy, List.mem_cons, Ne.symm hy, false_or]
      split <;> rfl

theorem foldl_enterFullAlarm_silence (l : List Nat) (s : State) :
    (l.foldl (fun s z => enterFullAlarm z s) s).fire.silence = (if l.isEmpty then s.fire.silence else false) := by
  induction l generalizing s with
  | nil => rfl
  | cons z l ih =>
    rw [List.foldl_cons, ih, enterFullAlarm_fire]
    exact ite_self _

theorem skippedZones_iff (zones : ZoneSet) (s : State) (z : Nat) : (skippedZones zones s).getLsbD z = true ↔
    zones.getLsbD z = true ∧ ∃ e, tget s.fire.zones z = some e ∧ e.state = .isolated := by
  have hlt : zones.getLsbD z = true → z < 16 := BitVec.lt_of_getLsbD
  simp only [skippedZones, getLsbD_ofMembers, List.mem_filter, mem_members, Option.any_eq_true, beq_iff_eq]
  tauto

theorem evacuate_of_absent {u : State} (harmed : u.armed = true) {zones : ZoneSet} {z : Nat}
    (hz : zones.getLsbD z = true) (hnone : tget u.fire.zones z = none) : evacuateResult zones u = refuse u .badIndex := by
  have hany : (members zones).any (fun z => (tget u.fire.zones z).isNone) = true :=
    List.any_eq_true.mpr ⟨z, (mem_members zones z).mpr hz, by rw [hnone]; rfl⟩
  simp only [evacuateResult, evacuate, whenArmed_of_armed harmed, hany]
  rfl

theorem evacuate_of_present {u : State} (harmed : u.armed = true) {zones : ZoneSet}
    (h : ∀ z, zones.getLsbD z = true → (tget u.fire.zones z).isSome = true) : evacuateResult zones u =
      { state := ((members zones).filter fun z => (tget u.fire.zones z).any Zone.mayEnter).foldl
          (fun s z => enterFullAlarm z s) u
        code := .ok, data := setBytes 2 (skippedZones zones u) } := by
  have hany : ((members zones).any fun z => (tget u.fire.zones z).isNone) = false := by
    simp only [List.any_eq_false, mem_members, Option.isNone_iff_eq_none]
    intro z hz hnone
    simpa [hnone] using h z hz
  have hnodup : (members zones).Nodup := List.nodup_range.filter _
  simp only [evacuateResult, evacuate, whenArmed_of_armed harmed, hany]
  rw [← foldl_alarmZone hnodup]
  rfl

/-- Settles O26: the entries change the zones one after the other, and what one changes in the others is a mark. -/
theorem evacuateAnswers : Obligations.EvacuateAnswers := by
  intro src tag zones s htakes harmed u answer enters
  have harmed' : u.armed = true := (panelHeard_armed src s).trans harmed
  have hanswer : ∀ c d v, evacuateResult zones u = { state := v, code := c, data := d } → answer c d v :=
    fun _ _ _ h => answersAs_exec rfl rfl htakes h
  have hfire : u.fire = s.fire := panelHeard_fire src s
  rw [← hfire]
  clear_value u
  refine ⟨fun ⟨z, hz, hnone⟩ => hanswer _ _ _ (evacuate_of_absent harmed' hz hnone), fun hpresent => ?_⟩
  have hfilter : ((members zones).filter fun z => (tget u.fire.zones z).any Zone.mayEnter) =
      (List.range 16).filter fun z => (tget u.fire.zones z).any (enters z) := by
    rw [members, List.filter_filter]
    refine List.filter_congr fun z _ => ?_
    cases tget u.fire.zones z with
    | none => simp
    | some e => simp [enters, Zone.mayEnter, Bool.and_comm]
  have hbody := evacuate_of_present harmed' hpresent
  rw [hfilter] at hbody
  have hnodup : ((List.range 16).filter fun z => (tget u.fire.zones z).any (enters z)).Nodup :=
    List.nodup_range.filter _
  refine ⟨_, _, hanswer _ _ _ hbody, skippedZones_iff zones u, rfl, ?_, ?_, ?_, ?_, ?_, ?_, ?_, ?_, ?_⟩
  · exact foldl_keep State.line _ (fun s a => by simp) _ _
  · exact foldl_keep State.reg _ (fun s a => by simp) _ _
  · exact foldl_keep State.mgmt _ (fun s a => by simp) _ _
  · exact foldl_keep State.board _ (fun s a => by simp) _ _
  · exact foldl_keep (fun s => s.fire.detectors) _ (fun s a => by rw [enterFullAlarm_fire]) _ _
  · exact foldl_keep (fun s => s.fire.callPoints) _ (fun s a => by rw [enterFullAlarm_fire]) _ _
  · exact foldl_keep (fun s => s.fire.settings) _ (fun s a => by rw [enterFullAlarm_fire]) _ _
  · rw [foldl_enterFullAlarm_silence]
    by_cases h : ((List.range 16).any fun z => (tget u.fire.zones z).any (enters z)) = true
    · rw [if_pos h, if_neg]
      simpa using h
    · rw [if_neg h, if_pos]
      simpa using h
  · intro z e he
    obtain ⟨m, hm⟩ := foldl_enterFullAlarm_zone hnodup he
    refine ⟨_, hm, ?_⟩
    have hmem : z ∈ (List.range 16).filter (fun z => (tget u.fire.zones z).any (enters z)) ↔ enters z e = true := by
      rw [List.mem_filter, he]
      refine ⟨fun h => h.2, fun h => ⟨?_, h⟩⟩
      simp only [enters, Bool.and_eq_true] at h
      exact List.mem_range.mpr (BitVec.lt_of_getLsbD h.1)
    simp only [hmem]
    split <;> rfl

end Sys2Proof.Machine
end
section
/-! SUPPORT. What the Port B arbiter does depends on the records alone, and so two states with the same records answer
and end alike. -/

namespace Sys2Proof.Machine

/-! ## Functions of the records -/

/-- `f` leaves records that depend on the records alone. -/
def ByRecords (f : State → State) : Prop := ∀ s, (f s.records).records = (f s).records

def Paternoster.unmarked (p : Paternoster) : Paternoster := { p with mark := false }
def Shutter.unmarked (e : Shutter) : Shutter := { e with mark := false }
def Announce.unmarked (u : Announce) : Announce := { u with mark := false }

/-- The Line Unit without what is handed to the panel. -/
def LineUnit.ownSide (l : LineUnit) : LineUnit :=
  { l with reports := [], reply := none, veto := none, vetoMark := false, portA := none, localRun := 0 }

/-- The Call Unit without its mark and the states of its calls. -/
def CallUnit.unmarked (u : CallUnit) : CallUnit :=
  { u with mark := false, calls := u.calls.map fun c => { c with state := .waiting } }

theorem records_records (s : State) : s.records.records = s.records := by
  simp [State.records]

namespace ByRecords

variable {f g : State → State}

theorem const_id : ByRecords fun s => s := fun s => by rw [records_records]

theorem comp (hf : ByRecords f) (hg : ByRecords g) : ByRecords fun s => f (g s) := fun s => by
  rw [← hf, hg, hf]

theorem ite {p : State → Prop} [DecidablePred p] (hp : ∀ s, p s.records ↔ p s) (hf : ByRecords f) (hg : ByRecords g) :
    ByRecords fun s => if p s then f s else g s := fun s => by
  by_cases h : p s
  · simp only [if_pos h, if_pos ((hp s).mpr h), hf s]
  · simp only [if_neg h, if_neg (mt (hp s).mp h), hg s]

theorem foldl {α : Type} {f : State → α → State} (hf : ∀ a, ByRecords fun s => f s a) :
    ∀ l : List α, ByRecords fun s => l.foldl f s
  | [] => const_id
  | a :: l => comp (foldl hf l) (hf a)

theorem onPat {g : State → Paternoster → Paternoster}
    (h : ∀ s p, (g s.records p.unmarked).unmarked = (g s p).unmarked) : ByRecords fun s => s.onPat (g s) := fun s => by
  have := h s s.pat
  calc ((s.records.onPat (g s.records)).records)
      = { s.records.records with pat := (g s.records s.pat.unmarked).unmarked } := rfl
    _ = (s.onPat (g s)).records := by rw [this, records_records]; rfl

theorem onAnn {g : State → Announce → Announce}
    (h : ∀ s u, (g s.records u.unmarked).unmarked = (g s u).unmarked) : ByRecords fun s => s.onAnn (g s) := fun s => by
  have := h s s.ann
  calc ((s.records.onAnn (g s.records)).records)
      = { s.records.records with ann := (g s.records s.ann.unmarked).unmarked } := rfl
    _ = (s.onAnn (g s)).records := by rw [this, records_records]; rfl

theorem onCall {g : State → CallUnit → CallUnit}
    (h : ∀ s u, (g s.records u.unmarked).unmarked = (g s u).unmarked) : ByRecords fun s => s.onCall (g s) := fun s => by
  have := h s s.call
  calc ((s.records.onCall (g s.records)).records)
      = { s.records.records with call := (g s.records s.call.unmarked).unmarked } := rfl
    _ = (s.onCall (g s)).records := by rw [this, records_records]; rfl

theorem onShut {g : State → Table Shutter → Table Shutter}
    (h : ∀ s t, tmap (g s.records (tmap t fun _ e => e.unmarked)) (fun _ e => e.unmarked) =
      tmap (g s t) fun _ e => e.unmarked) : ByRecords fun s => s.onShut (g s) := fun s => by
  have := h s s.shut
  calc ((s.records.onShut (g s.records)).records)
      = { s.records.records with shut := tmap (g s.records (tmap s.shut fun _ e => e.unmarked)) fun _ e => e.unmarked } := rfl
    _ = (s.onShut (g s)).records := by rw [this, records_records]; rfl

/-- Shutter records changed each by itself. -/
theorem atEntry {i : Nat} {g : State → Shutter → Shutter}
    (h : ∀ s e, (g s.records e.unmarked).unmarked = (g s e).unmarked) : ByRecords fun s => onShutter s i (g s) :=
  onShut fun s t => by
    simp only [tmod_eq_map, tmap_eq_map, List.map_map]
    refine List.map_congr_left fun e _ => ?_
    simp only [Function.comp]
    split
    · rw [h s e.2]
    · rfl

end ByRecords

/-! ## The Call Unit -/

theorem CallUnit.unmarked_onCallOf (u : CallUnit) (push : Nat) {f : Call → Call}
    (h : ∀ c, { f { c with state := .waiting } with state := CallState.waiting } = { f c with state := .waiting }) :
    (u.unmarked.onCallOf push f).unmarked = (u.onCallOf push f).unmarked := by
  simp only [CallUnit.unmarked, CallUnit.onCallOf, List.map_map, CallUnit.mk.injEq, and_true, true_and]
  refine List.map_congr_left fun c _ => ?_
  simp only [Function.comp]
  split
  · exact h c
  · rfl

theorem CallUnit.unmarked_owe (u : CallUnit) (r : Req) : (u.unmarked.owe r).unmarked = (u.owe r).unmarked := by
  unfold CallUnit.owe
  split
  · exact u.unmarked_onCallOf _ fun _ => rfl
  · simp [CallUnit.unmarked]

theorem CallUnit.unmarked_owe_of {u v : CallUnit} (h : u.unmarked = v.unmarked) (r : Req) :
    (u.owe r).unmarked = (v.owe r).unmarked := by
  rw [← u.unmarked_owe, h, v.unmarked_owe]

theorem CallUnit.unmarked_unmarked (u : CallUnit) : u.unmarked.unmarked = u.unmarked := by
  simp [CallUnit.unmarked]

theorem CallUnit.unmarked_withQueue (u : CallUnit) (q : List Req) (m n : Bool) :
    { u.unmarked with queue := q, mark := m }.unmarked = { u with queue := q, mark := n }.unmarked := by
  simp [CallUnit.unmarked]

theorem CallUnit.unmarked_join (u : CallUnit) (r : Req) : (u.unmarked.join r).unmarked = (u.join r).unmarked := by
  have hqueue : u.unmarked.queue = u.queue := rfl
  simp only [CallUnit.join, hqueue]
  split
  · exact u.unmarked_withQueue _ false u.mark
  · split
    · exact u.unmarked_withQueue _ true true
    · split
      · exact u.unmarked_unmarked
      · split
        · exact CallUnit.unmarked_owe_of (u.unmarked_withQueue _ true true) _
        · exact u.unmarked_owe r

theorem missing_records (s : State) (a : Nat) : s.records.missing a = s.missing a := by
  simp only [State.missing, State.records, tget_tmap, Option.any_map]

theorem find?_calls_records (s : State) (p : Call → Bool) (hp : ∀ c, p { c with state := .waiting } = p c) :
    s.records.call.calls.find? p = (s.call.calls.find? p).map fun c => { c with state := .waiting } := by
  have hcomp : p ∘ (fun c => { c with state := CallState.waiting }) = p := funext hp
  simp only [State.records, List.find?_map, hcomp]

theorem join_byRecords {g : CallUnit → CallUnit} {r : State → CallUnit → Req}
    (hg : ∀ u, g u.unmarked = (g u).unmarked) (hr : ∀ s u, r s.records u.unmarked = r s u) :
    ByRecords fun s => s.onCall fun u => (g u).join (r s u) :=
  ByRecords.onCall fun s u => by
    show ((g u.unmarked).join (r s.records u.unmarked)).unmarked = ((g u).join (r s u)).unmarked
    rw [hg, hr, CallUnit.unmarked_join]

theorem joinNew_byRecords (ringer pattern priority : Nat) (o : Origin) :
    ByRecords (joinNew ringer pattern priority o) :=
  join_byRecords (g := fun u => { u with nextSeq := u.nextSeq + 1 })
    (r := fun s u => Req.mk ringer pattern priority o s.now u.nextSeq) (fun _ => rfl) fun _ _ => rfl

theorem rejoin_byRecords (g : Option Ring) : ByRecords (rejoin g) := by
  unfold rejoin
  split
  · exact join_byRecords (g := id) (r := fun _ _ => _) (fun _ => rfl) fun _ _ => rfl
  · exact ByRecords.const_id

theorem onCallOf_byRecords (push : Nat) {f : Call → Call}
    (h : ∀ c, { f { c with state := .waiting } with state := CallState.waiting } = { f c with state := .waiting }) :
    ByRecords fun s => s.onCall fun u => u.onCallOf push f :=
  ByRecords.onCall fun _ u => u.unmarked_onCallOf push h

theorem reofferOne_byRecords (push : Nat) : ByRecords fun s => reofferOne s push := fun s => by
  have hfind := find?_calls_records s (fun c => c.push == push) fun _ => rfl
  have hpushes : s.records.call.pushes = s.call.pushes := rfl
  unfold reofferOne
  beta_reduce
  rw [hfind, hpushes]
  cases s.call.calls.find? (fun c => c.push == push) with
  | none => exact records_records s
  | some c =>
    cases tget s.call.pushes push with
    | none => exact records_records s
    | some p =>
      have howed := onCallOf_byRecords push (f := fun c => { c with owed := false }) fun _ => rfl
      have hjoin := ByRecords.ite (p := fun s => s.call.queuedOrSounding
        (Req.mk p.ringer p.pattern c.priority (.call push) 0 0) = true) (fun _ => Iff.rfl)
        ByRecords.const_id (joinNew_byRecords p.ringer p.pattern c.priority (.call push))
      exact ByRecords.ite (p := fun s => (c.owed && decide (s.call.queue.length < Config.ringQueue)) = true)
        (fun _ => Iff.rfl) (hjoin.comp howed) ByRecords.const_id s

theorem reoffer_byRecords : ByRecords reoffer := fun s => by
  have hpushes : s.records.call.calls.map (fun c => c.push) = s.call.calls.map fun c => c.push := by
    simp [State.records]
  show (List.foldl reofferOne s.records (s.records.call.calls.map fun c => c.push)).records = _
  rw [hpushes]
  exact ByRecords.foldl reofferOne_byRecords _ s

theorem onRinger_byRecords (i : Nat) (g : Ringer → Ringer) : ByRecords fun s => onRinger s i g :=
  ByRecords.onCall (g := fun _ u => { u with ringers := tmod u.ringers i g }) fun _ u => by
    simp [CallUnit.unmarked]

theorem takeReq_byRecords (i : Nat) (r : Req) (pat : Pattern) : ByRecords (takeReq i r pat) := fun s => by
  simp [takeReq, onRinger, State.records, State.onCall]

theorem dispatchOne_byRecords (i : Nat) : ByRecords (dispatchOne i) := fun s => by
  have hringers : s.records.call.ringers = s.call.ringers := rfl
  have hpatterns : s.records.call.patterns = s.call.patterns := rfl
  have hfind : s.records.call.queue.find? (fun r => r.ringer == i && decide (r.priority ≥ s.records.call.level)) =
    s.call.queue.find? (fun r => r.ringer == i && decide (r.priority ≥ s.call.level)) := rfl
  unfold dispatchOne
  rw [hringers, hpatterns, hfind]
  cases tget s.call.ringers i with
  | none => exact records_records s
  | some e =>
    dsimp only
    rw [missing_records]
    split
    · exact records_records s
    · cases s.call.queue.find? fun r => r.ringer == i && decide (r.priority ≥ s.call.level) with
      | none => exact records_records s
      | some r =>
        dsimp only
        cases tget s.call.patterns r.pattern with
        | none => exact records_records s
        | some pat => exact takeReq_byRecords i r pat s

theorem counter_of_byRecords {f : State → State} (h : ByRecords f) (s : State) :
    (f s.records).call.counter = (f s).call.counter :=
  congrArg (fun t => t.call.counter) (h s)

theorem dispatchRound_byRecords : ByRecords dispatchRound := fun s => by
  refine ByRecords.foldl (f := fun s i => let s1 := dispatchOne i s
    if s1.call.counter = s.call.counter then s else reoffer s1) (fun i => ?_) _ s
  refine ByRecords.ite (p := fun s => (dispatchOne i s).call.counter = s.call.counter) (fun s => ?_) ByRecords.const_id
    (reoffer_byRecords.comp (dispatchOne_byRecords i))
  rw [counter_of_byRecords (dispatchOne_byRecords i)]
  rfl

theorem dispatchRounds_byRecords : ∀ n, ByRecords (dispatchRounds n)
  | 0 => ByRecords.const_id
  | n + 1 => by
    refine ByRecords.ite (p := fun s => (dispatchRound s).call.counter = s.call.counter) (fun s => ?_)
      ByRecords.const_id ((dispatchRounds_byRecords n).comp dispatchRound_byRecords)
    rw [counter_of_byRecords dispatchRound_byRecords]
    rfl

theorem dispatch_byRecords : ByRecords dispatch := dispatchRounds_byRecords 17

theorem discardRing_byRecords (i : Nat) : ByRecords (discardRing i) := fun s => by
  have hringers : s.records.call.ringers = s.call.ringers := rfl
  unfold discardRing
  rw [hringers]
  cases tget s.call.ringers i with
  | none => exact records_records s
  | some g => exact (dispatch_byRecords.comp ((rejoin_byRecords g.ring).comp (onRinger_byRecords i _))) s

/-! ## What is read of the other units -/

section
variable (s : State)

theorem anyFull_records : s.records.anyFull = s.anyFull := by
  simp only [State.anyFull, State.records]
  rw [tany_tmap]
  exact fun _ _ => rfl

theorem zoneAlarm_records : s.records.zoneAlarm = s.zoneAlarm := by
  funext z
  simp only [State.zoneAlarm, State.records, tget_tmap, Option.any_map]

theorem shaftsOpen_records : s.records.shaftsOpen = s.shaftsOpen := by
  simp only [State.shaftsOpen, State.records, tmap_eq_map, List.all_map]
  rfl

theorem runVetoAtSending_records : s.records.runVetoAtSending = s.runVetoAtSending := by
  have harmed : s.records.armed = s.armed := rfl
  have hpresent := records_present s
  simp only [State.runVetoAtSending, State.runVeto, harmed, hpresent, anyFull_records, shaftsOpen_records,
    records_driveStation]
  rfl

theorem tget_shut_records (i : Nat) : tget s.records.shut i = (tget s.shut i).map Shutter.unmarked :=
  tget_tmap ..

end

/-! ## The Monitor and the shutters -/

namespace ByRecords

/-- A choice by a value that the records hold. -/
theorem cases {α : Type} {k : State → α} (hk : ∀ s, k s.records = k s) {f : α → State → State}
    (hf : ∀ a, ByRecords (f a)) : ByRecords fun s => f (k s) s := fun s => by
  beta_reduce
  rw [hk, hf]

/-- What is done at a shutter, by its record. -/
theorem atShutter (i : Nat) {f : Shutter → State → State} (hf : ∀ e, ByRecords (f e)) (hmark : ∀ e, f e.unmarked = f e) :
    ByRecords fun s => match tget s.shut i with
      | none => s
      | some e => f e s := fun s => by
  beta_reduce
  rw [tget_shut_records]
  cases tget s.shut i with
  | none => exact records_records s
  | some e =>
    show (f e.unmarked s.records).records = _
    rw [hmark, hf]

end ByRecords

theorem lock_unmarked (p : Paternoster) (c : Option LockCause) : p.unmarked.lock c = (p.lock c).unmarked := by
  by_cases hlocked : p.state = .locked
  · cases c <;> simp [Paternoster.lock, Paternoster.unmarked, Paternoster.addCause, hlocked]
  · by_cases hfire : p.state = .stopping ∨ p.fireStop ≠ 0
    · cases c <;> simp only [Paternoster.lock, Paternoster.unmarked, Paternoster.addCause, hlocked, hfire, if_true, if_false]
    · cases c <;> simp only [Paternoster.lock, Paternoster.unmarked, Paternoster.addCause, hlocked, hfire, if_false]

/-- What the drive order slot holds after an order is placed (R7). -/
def Paternoster.placed (p : Paternoster) (o : DriveOrder) : Option DriveOrder :=
  if p.slot = some .cut ∧ o ≠ .cut then p.slot else some o

theorem place_eq (p : Paternoster) (o : DriveOrder) : p.place o = { p with slot := p.placed o } := by
  unfold Paternoster.place Paternoster.placed
  split <;> rfl

theorem beginStop_unmarked (p : Paternoster) (k : SearchSet) (st : PatState) :
    p.unmarked.beginStop k st = (p.beginStop k st).unmarked := by
  have hgeometry : p.unmarked.geometry = p.geometry := rfl
  simp only [Paternoster.beginStop, place_eq]
  rw [hgeometry]
  cases p.geometry with
  | none => rfl
  | some g =>
    have hset : searchedLandings p.unmarked .rest = searchedLandings p .rest := rfl
    dsimp only
    rw [hset]
    by_cases h : k = .rest ∧ searchedLandings p .rest = []
    · rw [if_pos h, if_pos h]; rfl
    · rw [if_neg h, if_neg h]; rfl

/-- A change of the Monitor's records that reads no mark. -/
theorem ByRecords.pat {g : Paternoster → Paternoster} (h : ∀ p, g p.unmarked = (g p).unmarked) :
    ByRecords fun s => s.onPat g :=
  ByRecords.onPat (g := fun _ => g) fun _ p => by rw [h]; rfl

theorem markPat_byRecords : ByRecords markPat := ByRecords.onPat fun _ _ => rfl

theorem warnExpiry_unmarked (p : Paternoster) (e : Shutter) :
    (e.unmarked.warnExpiry p.unmarked).unmarked = (e.warnExpiry p).unmarked := by
  have hkind : e.unmarked.kind = e.kind := rfl
  have hjudge : p.unmarked.judgeShutter e.unmarked = p.judgeShutter e := rfl
  unfold Shutter.warnExpiry
  rw [hkind, hjudge]
  split <;> [rfl; (split <;> rfl)]

theorem warn_unmarked (p : Paternoster) (e : Shutter) :
    (e.unmarked.warn p.unmarked).unmarked = (e.warn p).unmarked := by
  have hwarn : e.unmarked.warnTime = e.warnTime := rfl
  unfold Shutter.warn
  rw [hwarn]
  split
  · exact warnExpiry_unmarked p
      { e with state := .warning, obstruction := none, fault := none, prior := none, timer := none }
  · rfl

theorem hand_unmarked (p : Paternoster) (j : Judgment) (e : Shutter) :
    (e.unmarked.hand p.unmarked j).unmarked = (e.hand p j).unmarked := by
  have hwaits : e.unmarked.waits = e.waits := rfl
  have hstate : e.unmarked.state = e.state := rfl
  unfold Shutter.hand
  rw [hwaits, hstate]
  split
  · cases j with
    | clear => exact warn_unmarked p e
    | blocked => dsimp only; split <;> rfl
    | notStopped => rfl
  · rfl

theorem handLanding_byRecords (f : Nat) : ByRecords fun s => s.onShut (handLanding s.pat f) :=
  ByRecords.onShut fun s t => by
    simp only [handLanding, tmap_tmap]
    refine congrArg (tmap t) (funext fun _ => funext fun e => ?_)
    have hlanding : e.unmarked.landing = e.landing := rfl
    have hjudge : s.records.pat.judge f = s.pat.judge f := rfl
    rw [hlanding, hjudge]
    split
    · exact hand_unmarked s.pat _ e
    · rfl

theorem judgeLandings_byRecords (floors : List Nat) : ByRecords (judgeLandings floors) :=
  ByRecords.foldl handLanding_byRecords floors

theorem lockAndJudge_byRecords : ByRecords lockAndJudge :=
  (ByRecords.cases (k := fun s => members s.pat.fireStop) (fun _ => rfl) judgeLandings_byRecords).comp
    (ByRecords.pat fun p => lock_unmarked p _)

theorem addLanding_byRecords (f : Nat) : ByRecords (addLanding f) := by
  refine ByRecords.ite (p := fun s => s.pat.fireStop.getLsbD f = true) (fun _ => Iff.rfl) ByRecords.const_id
    (ByRecords.comp (f := fun s1 => match s1.pat.state with
      | .unknown => s1
      | .running | .runout => s1.onPat fun p => p.beginStop .fire .stopping
      | .resting =>
        if s1.pat.stopHalted then s1.onPat fun p => { p with state := .stopping }
        else s1.onPat fun p => p.beginStop .fire .stopping
      | .stopping =>
        if s1.pat.stopHalted then s1 else s1.onPat fun p => p.beginStop .fire .stopping
      | .idle | .held =>
        if s1.pat.chain.motion = .stopped then lockAndJudge s1 else s1
      | .locked =>
        if s1.pat.chain.motion = .stopped then lockAndJudge s1 else s1.onPat fun p => p.addCause .fire) ?_
      (markPat_byRecords.comp (ByRecords.pat (g := fun p => { p with fireStop := addBit p.fireStop f }) fun _ => rfl)))
  have hbegin : ByRecords fun s => s.onPat fun p => p.beginStop .fire .stopping :=
    ByRecords.pat fun p => beginStop_unmarked p _ _
  refine ByRecords.cases (k := fun s => s.pat.state) (fun _ => rfl) (f := fun st s1 => match st with
      | .unknown => s1
      | .running | .runout => s1.onPat fun p => p.beginStop .fire .stopping
      | .resting =>
        if s1.pat.stopHalted then s1.onPat fun p => { p with state := .stopping }
        else s1.onPat fun p => p.beginStop .fire .stopping
      | .stopping =>
        if s1.pat.stopHalted then s1 else s1.onPat fun p => p.beginStop .fire .stopping
      | .idle | .held =>
        if s1.pat.chain.motion = .stopped then lockAndJudge s1 else s1
      | .locked =>
        if s1.pat.chain.motion = .stopped then lockAndJudge s1 else s1.onPat fun p => p.addCause .fire) fun st => ?_
  cases st with
  | unknown => exact ByRecords.const_id
  | running | runout => exact hbegin
  | resting => exact ByRecords.ite (fun _ => Iff.rfl) (ByRecords.pat fun _ => rfl) hbegin
  | stopping => exact ByRecords.ite (fun _ => Iff.rfl) ByRecords.const_id hbegin
  | idle | held => exact ByRecords.ite (fun _ => Iff.rfl) lockAndJudge_byRecords ByRecords.const_id
  | locked => exact ByRecords.ite (fun _ => Iff.rfl) lockAndJudge_byRecords (ByRecords.pat fun _ => rfl)

/-- What follows an entry into AWAIT_CLEAR, by the shutter's record (R81). -/
def Shutter.awaited (e : Shutter) (s : State) : State :=
  if e.state = .awaitClear then
    match e.landing with
    | none => s
    | some f => if e.reason = .fire then addLanding f s else s.onShut (handLanding s.pat f)
  else s

theorem awaitEntered_byRecords (i : Nat) : ByRecords (awaitEntered i) := by
  refine ByRecords.atShutter i (f := Shutter.awaited) (fun e => ?_) fun _ => rfl
  unfold Shutter.awaited
  refine ByRecords.ite (fun _ => Iff.rfl) ?_ ByRecords.const_id
  cases e.landing with
  | none => exact ByRecords.const_id
  | some f => exact ByRecords.ite (fun _ => Iff.rfl) (addLanding_byRecords f) (handLanding_byRecords f)

/-- A change of one shutter that reads no mark. -/
theorem ByRecords.shutter {i : Nat} {g : Shutter → Shutter} (h : ∀ e, (g e.unmarked).unmarked = (g e).unmarked) :
    ByRecords fun s => onShutter s i g :=
  ByRecords.atEntry (g := fun _ => g) fun _ => h

theorem dropDiscarded_byRecords (i : Nat) (r : VetoReason) : ByRecords (dropDiscarded i r) := by
  refine ByRecords.atShutter i (f := fun e s => if e.state = .descending then
      match r with
      | .landingBlocked => onShutter s i Shutter.obstructCar
      | .chainMoving => awaitEntered i (onShutter s i Shutter.await)
      | _ => s
    else s) (fun e => ?_) fun _ => rfl
  refine ByRecords.ite (fun _ => Iff.rfl) ?_ ByRecords.const_id
  cases r with
  | landingBlocked => exact ByRecords.shutter fun _ => rfl
  | chainMoving => exact (awaitEntered_byRecords i).comp (ByRecords.shutter fun _ => rfl)
  | _ => exact ByRecords.const_id

theorem raiseDiscarded_byRecords (i : Nat) : ByRecords (raiseDiscarded i) :=
  ByRecords.shutter fun e => by
    have hstate : e.unmarked.state = e.state := rfl
    have hprior : e.unmarked.prior = e.prior := rfl
    rw [hstate]
    split
    · unfold Shutter.returnPrior
      rw [hprior]
      split <;> rfl
    · rfl

/-! ## The Port B arbiter takes a candidate -/

theorem ByRecords.onLine {g : LineUnit → LineUnit} (h : ∀ l, (g l.ownSide).ownSide = (g l).ownSide) :
    ByRecords fun s => s.onLine g := fun s => by
  have := h s.line
  calc ((s.records.onLine g).records) = { s.records.records with line := (g s.line.ownSide).ownSide } := rfl
    _ = (s.onLine g).records := by rw [this, records_records]; rfl

theorem sendOrder_byRecords (o : Order) : ByRecords (sendOrder o) := ByRecords.onLine fun _ => rfl

theorem sendOwn_byRecords (a : Nat) (b : OrderBody) : ByRecords (sendOwn a b) := sendOrder_byRecords _

theorem fillVeto_byRecords (o : Order) (r : VetoReason) (st : VetoStage) : ByRecords (fillVeto o r st) :=
  ByRecords.onLine fun _ => rfl

theorem takeDrive_byRecords (a : Nat) (o : DriveOrder) : ByRecords (takeDrive a o) := by
  have hslot : ByRecords fun s => s.onPat fun p => { p with slot := none } := ByRecords.pat fun _ => rfl
  cases o with
  | run =>
    exact ByRecords.cases (k := State.runVetoAtSending) runVetoAtSending_records
      (f := fun v s => match v with
        | some _ => markPat (dropStart (s.onPat fun p => { p with slot := none }))
        | none => sendOwn a .run (s.onPat fun p => { p with slot := none }))
      fun v => match v with
        | some _ => markPat_byRecords.comp ((ByRecords.pat (g := fun p => { p with start := none }) fun _ => rfl).comp hslot)
        | none => (sendOwn_byRecords a .run).comp hslot
  | halt => exact (sendOwn_byRecords a .halt).comp hslot
  | cut => exact (sendOwn_byRecords a .cut).comp hslot
  | stopAt t =>
    have hagain : ∀ s : State, (searchAgain t s.records).1 = (searchAgain t s).1 ∧
        (searchAgain t s.records).2.records = (searchAgain t s).2.records := by
      intro s
      have hgeometry : s.records.pat.geometry = s.pat.geometry := rfl
      have hstop : s.records.pat.stop = s.pat.stop := rfl
      unfold searchAgain
      rw [hgeometry, hstop]
      cases s.pat.geometry with
      | none => exact ⟨rfl, records_records s⟩
      | some g =>
        cases s.pat.stop with
        | none => exact ⟨rfl, records_records s⟩
        | some r =>
          dsimp only
          cases r.searched with
          | none => exact ⟨rfl, records_records s⟩
          | some k =>
            let stopped : Option Stop := some { r with searched := some k, target := some (stopTarget g s.pat k).1 }
            exact ⟨rfl, ByRecords.pat (g := fun p => { p with stop := stopped }) (fun _ => rfl) s⟩
    refine ByRecords.comp (f := fun s => sendOwn a (.stopAt (searchAgain t s).1) (searchAgain t s).2) (fun s => ?_) hslot
    obtain ⟨htarget, hrecords⟩ := hagain s
    dsimp only
    rw [htarget, ← sendOwn_byRecords, hrecords, sendOwn_byRecords]

theorem shaftDropVeto_records (s : State) (e : Shutter) : shaftDropVeto s.records e = shaftDropVeto s e := rfl

theorem raiseHeld_records (s : State) (e : Shutter) : s.records.raiseHeld e = s.raiseHeld e := by
  simp only [State.raiseHeld, zoneAlarm_records]

theorem takeShutter_byRecords (i : Nat) (e : Shutter) (o : ShutterOrder) : ByRecords (takeShutter i e o) := by
  have hslot : ByRecords fun s => onShutter s i fun e => { e with slot := none } := ByRecords.shutter fun _ => rfl
  cases o with
  | warn => exact (sendOwn_byRecords e.station .warn).comp hslot
  | drop =>
    unfold takeShutter
    cases e.kind with
    | department => exact (sendOwn_byRecords e.station .drop).comp hslot
    | shaft =>
      exact ByRecords.cases (k := fun s => shaftDropVeto s e) (fun _ => rfl)
        (f := fun v s => match v with
          | some r => dropDiscarded i r (onShutter s i fun e => { e with slot := none })
          | none => sendOwn e.station .drop (onShutter s i fun e => { e with slot := none }))
        fun v => match v with
          | some r => (dropDiscarded_byRecords i r).comp hslot
          | none => (sendOwn_byRecords e.station .drop).comp hslot
  | raise =>
    exact ByRecords.ite (p := fun s => s.raiseHeld e = true) (fun s => by rw [raiseHeld_records])
      ((raiseDiscarded_byRecords i).comp hslot) ((sendOwn_byRecords e.station .raise).comp hslot)

theorem setGen_unmarked (u : Announce) (g : Nat) (p : Option Playing) :
    u.unmarked.setGen g p = (u.setGen g p).unmarked := by
  unfold Announce.setGen
  split <;> rfl

theorem trySounding_byRecords (g : Nat) : ByRecords (trySounding g) := fun s => by
  have hgen : s.records.ann.gen g = s.ann.gen g := by
    unfold Announce.gen
    split <;> rfl
  have hamps : s.records.ann.amps = s.ann.amps := rfl
  have hchimes : s.records.ann.chimes = s.ann.chimes := rfl
  unfold trySounding
  rw [hgen, hamps, hchimes]
  cases s.ann.gen g with
  | none => exact records_records s
  | some p =>
    dsimp only
    split
    · cases (tget s.ann.chimes p.chime).bind fun c => c.notes.head? with
      | none => exact records_records s
      | some n =>
        refine ByRecords.onAnn (g := fun _ u => u.setGen g _) (fun _ u => ?_) s
        rw [setGen_unmarked]; rfl
    · exact records_records s

theorem takeAmp_byRecords (f : Nat) (a : Amp) (o : AmpOrder) : ByRecords (takeAmp f a o) := by
  have hslot : ByRecords fun s => onAmp s f fun a => { a with slot := none } :=
    ByRecords.onAnn (g := fun _ u => { u with amps := tmod u.amps f fun a => { a with slot := none } }) fun _ _ => rfl
  have hsent := (sendOwn_byRecords a.station o.body).comp hslot
  cases o with
  | gateOn g => exact (trySounding_byRecords g).comp hsent
  | phrase | gateOff => exact hsent

theorem takeRinger_byRecords (i : Nat) (g : Ringer) (o : RingerOrder) : ByRecords (takeRinger i g o) := by
  cases o with
  | ring a b n =>
    exact ByRecords.ite (p := fun s => g.ring.any (fun r => decide (r.priority < s.call.level)) = true)
      (fun _ => Iff.rfl) (discardRing_byRecords i) ((sendOwn_byRecords g.station _).comp (onRinger_byRecords i _))
  | cancel => exact (sendOwn_byRecords g.station _).comp (onRinger_byRecords i _)

theorem shutterAt_records (s : State) (a : Nat) : shutterAt s.records a = shutterAt s a := by
  simp only [shutterAt, State.records]
  rw [tkeys_tmap]
  exact fun _ _ => rfl

theorem withEntry_byRecords {k : State → Option Nat} (hk : ∀ s, k s.records = k s) {f : Nat → State → State}
    (hf : ∀ i, ByRecords (f i)) : ByRecords fun s => withEntry (k s) f s :=
  ByRecords.cases (f := fun i => withEntry i f) hk fun i => by
    cases i with
    | none => exact ByRecords.const_id
    | some i => exact hf i

theorem orderDiscarded_byRecords (o : Order) (r : VetoReason) : ByRecords (orderDiscarded o r) := by
  unfold orderDiscarded
  split
  · exact ByRecords.pat fun _ => rfl
  · exact withEntry_byRecords (fun s => shutterAt_records s _) fun i => dropDiscarded_byRecords i r
  · exact withEntry_byRecords (fun s => shutterAt_records s _) raiseDiscarded_byRecords
  · exact ByRecords.const_id

theorem sendingVeto_records (o : Order) (s : State) : sendingVeto o s.records = sendingVeto o s := by
  have hentry : ∀ a, (shutterAt s.records a).bind (tget s.records.shut) =
      ((shutterAt s a).bind (tget s.shut)).map Shutter.unmarked := by
    intro a
    rw [shutterAt_records]
    cases shutterAt s a with
    | none => rfl
    | some i => exact tget_shut_records s i
  have hshaft : s.records.anyShaft = s.anyShaft := tany_tmap _ _ _ fun _ _ => rfl
  have hheld : s.records.anyRaiseHeld = s.anyRaiseHeld := by
    have hfun : s.records.raiseHeld = s.raiseHeld := funext (raiseHeld_records s)
    unfold State.anyRaiseHeld
    rw [hfun]
    exact tany_tmap _ _ _ fun _ _ => rfl
  unfold sendingVeto
  rw [runVetoAtSending_records, hshaft, hheld, hentry]
  cases (shutterAt s o.head.dst.toNat).bind (tget s.shut) with
  | none => rfl
  | some e =>
    have hraise : s.records.raiseHeld e.unmarked = s.raiseHeld e := raiseHeld_records s e
    simp only [Option.map_some, hraise]
    rfl

theorem takeForwarded_byRecords (o : Order) (rest : List Order) : ByRecords (takeForwarded o rest) := by
  have horders : ByRecords fun s => s.onLine fun l => { l with orders := rest } := ByRecords.onLine fun _ => rfl
  exact ByRecords.cases (k := sendingVeto o) (sendingVeto_records o)
    (f := fun v s => match v with
      | some r => fillVeto o r .sending (orderDiscarded o r (s.onLine fun l => { l with orders := rest }))
      | none => sendOrder o (s.onLine fun l => { l with orders := rest }))
    fun v => match v with
      | some r => (fillVeto_byRecords o r .sending).comp ((orderDiscarded_byRecords o r).comp horders)
      | none => (sendOrder_byRecords o).comp horders

/-! ## The Port B arbiter -/

/-- A candidate taken, or none, by the records alone. -/
def TakesByRecords (f : State → Option State) : Prop := ∀ s, (f s.records).map State.records = (f s).map State.records

theorem firstSlot_tmap {α β : Type} {slot : α → Option β} {g : Nat → α → α} (h : ∀ i e, slot (g i e) = slot e)
    (t : Table α) : firstSlot slot (tmap t g) = (firstSlot slot t).map fun x => (x.1, g x.1 x.2.1, x.2.2) := by
  induction t with
  | nil => rfl
  | cons e t ih =>
    obtain ⟨k, v⟩ := e
    simp only [tmap, firstSlot, h, ih]
    cases slot v <;> rfl

theorem takeOrder_byRecords : TakesByRecords takeOrder := fun s => by
  have hslot : s.records.pat.slot = s.pat.slot := rfl
  have hshut : firstSlot Shutter.slot s.records.shut = (firstSlot Shutter.slot s.shut).map fun x =>
      (x.1, x.2.1.unmarked, x.2.2) := firstSlot_tmap (g := fun _ e => e.unmarked) (fun _ _ => rfl) s.shut
  have hamps : s.records.ann.amps = s.ann.amps := rfl
  have hringers : s.records.call.ringers = s.call.ringers := rfl
  have horders : s.records.line.orders = s.line.orders := rfl
  have hrest : ∀ f : State → State, ByRecords f → (some (f s.records)).map State.records = (some (f s)).map State.records :=
    fun f hf => congrArg some (hf s)
  unfold takeOrder
  rw [records_driveStation, hslot, hshut, hamps, hringers, horders]
  split
  · exact hrest _ (takeDrive_byRecords _ _)
  · cases firstSlot Shutter.slot s.shut with
    | some x =>
      obtain ⟨i, e, o⟩ := x
      have hmark : takeShutter i e.unmarked o = takeShutter i e o := by cases o <;> rfl
      exact (congrArg (fun f : State → State => some (f s.records).records) hmark).trans
        (hrest _ (takeShutter_byRecords i e o))
    | none =>
      dsimp only [Option.map_none]
      split
      · exact hrest _ (takeAmp_byRecords _ _ _)
      · split
        · exact hrest _ (takeRinger_byRecords _ _ _)
        · split
          · exact hrest _ (takeForwarded_byRecords _ _)
          · rfl

theorem takePoll_byRecords : TakesByRecords takePoll := fun s => by
  have hnext : ∀ c p, nextInCycle s.records.reg.stations c p = nextInCycle s.reg.stations c p := by
    intro c p
    unfold nextInCycle
    rw [show s.records.reg.stations = tmap s.reg.stations fun _ e => { e with mark := false } from rfl, tkeys_tmap]
    exact fun _ _ => rfl
  have hchoose : ∀ n c p, choosePoll s.records.reg.stations n c p = choosePoll s.reg.stations n c p := by
    intro n
    induction n with
    | zero => exact fun _ _ => rfl
    | succ n ih =>
      intro c p
      simp only [choosePoll, hnext, ih]
  have hcycle : s.records.line.cycle = s.line.cycle := rfl
  have hposition : s.records.line.position = s.line.position := rfl
  unfold takePoll
  rw [hchoose, hcycle, hposition]
  cases choosePoll s.reg.stations 5 s.line.cycle s.line.position with
  | none => rfl
  | some x => exact congrArg some (ByRecords.onLine (g := fun l =>
      { l with cycle := x.1, position := some x.2, portB := .polling x.2, orderRun := 0 }) (fun _ => rfl) s)

theorem takeB_byRecords : TakesByRecords takeB := fun s => by
  have hdue : s.records.pollDue = s.pollDue := by
    simp only [State.pollDue, State.records]
    cases s.reg.stations <;> rfl
  have hrun : s.records.line.orderRun = s.line.orderRun := rfl
  have horder := takeOrder_byRecords s
  unfold takeB
  rw [hdue, hrun]
  split
  · exact takePoll_byRecords s
  · cases h : takeOrder s with
    | none =>
      cases h' : takeOrder s.records with
      | none =>
        dsimp only
        split
        · exact takePoll_byRecords s
        · rfl
      | some t => rw [h, h'] at horder; cases horder
    | some t =>
      cases h' : takeOrder s.records with
      | none => rw [h, h'] at horder; cases horder
      | some t' => rw [h, h'] at horder; exact horder

theorem arbiterB_byRecords : ∀ n, ByRecords (arbiterB n)
  | 0 => ByRecords.const_id
  | n + 1 => fun s => by
    have htake := takeB_byRecords s
    have hport : s.records.line.portB = s.line.portB := rfl
    unfold arbiterB
    rw [hport]
    split
    · cases h : takeB s with
      | none =>
        cases h' : takeB s.records with
        | none => exact records_records s
        | some t => rw [h, h'] at htake; cases htake
      | some t =>
        cases h' : takeB s.records with
        | none => rw [h, h'] at htake; cases htake
        | some t' =>
          rw [h, h'] at htake
          have heq : t'.records = t.records := Option.some.inj htake
          show (arbiterB n t').records = (arbiterB n t).records
          rw [← arbiterB_byRecords n t', heq, arbiterB_byRecords n t]
    · exact records_records s

/-- Two states with the same records are served alike. -/
theorem served_of_records {s t : State} (h : s.records = t.records) : s.served = t.served := by
  unfold State.served
  rw [← arbiterB_byRecords 128 s, h, arbiterB_byRecords 128 t]

theorem EndsAs.of_records {o : Host.Outcome State Fault Refusal} {s t : State} (ho : EndsAs o s)
    (h : s.records = t.records) : EndsAs o t := by
  obtain ⟨u, hu, hrec⟩ := ho
  exact ⟨u, hu, hrec.trans (served_of_records h)⟩

theorem AnswersAs.of_records {o : Host.Outcome State Fault Refusal} {src tag : Byte} {code : Nat} {c : Code}
    {d : List Byte} {s t : State} (ho : AnswersAs o src tag code c d s) (h : s.records = t.records) :
    AnswersAs o src tag code c d t := by
  obtain ⟨u, hu, hrec, hreply⟩ := ho
  have hsettings : s.reg.settings = t.reg.settings := eq_of_records (p := fun s => s.reg.settings) (fun _ => rfl) h
  have hframe : replyWith s src tag code c d = replyWith t src tag code c d := by
    simp only [replyWith, replyDst, hsettings]
  rw [hframe] at hrec hreply
  refine ⟨u, hu, hrec.trans (served_of_records ?_), hreply⟩
  have hline := ByRecords.onLine (g := fun l => { l with reply := some (replyWith t src tag code c d) }) fun _ => rfl
  rw [← hline s, h, hline t]

end Sys2Proof.Machine
end
section
/-! SUPPORT. A change of one shutter by its record; Raise Shutter and Retry Shutter by the shutter's state and kind. -/

namespace Sys2Proof.Machine

/-! ## Changes of one shutter -/

section
variable {s : State} {i : Nat} {e : Shutter} {f g : Shutter → Shutter}

theorem tmod_tmod {α : Type} (t : Table α) (i : Nat) (f g : α → α) : tmod (tmod t i f) i g = tmod t i fun e => g (f e) := by
  simp only [tmod_eq_map, List.map_map]
  refine List.map_congr_left fun e _ => ?_
  by_cases h : e.1 = i <;> simp only [Function.comp, h, if_true, if_false]

theorem onShutter_onShutter (s : State) (i : Nat) (f g : Shutter → Shutter) :
    onShutter (onShutter s i f) i g = onShutter s i fun e => g (f e) := by
  simp only [onShutter, State.onShut, tmod_tmod]

theorem tget_onShutter (he : tget s.shut i = some e) (f : Shutter → Shutter) : tget (onShutter s i f).shut i = some (f e) := by
  show tget (tmod s.shut i f) i = some (f e)
  rw [tget_tmod, if_pos rfl, he]
  rfl

/-- With no index twice, two changes that agree on the one record of an index are one. -/
theorem onShutter_congr (hkeys : (s.shut.map Prod.fst).Nodup) (he : tget s.shut i = some e) (h : f e = g e) :
    onShutter s i f = onShutter s i g := by
  have htable : tmod s.shut i f = tmod s.shut i g := by
    rw [tmod_eq_map, tmod_eq_map]
    refine List.map_congr_left fun x hx => ?_
    split
    next hi =>
      obtain ⟨k, y⟩ := x
      subst hi
      have hy : y = e := Option.some.inj ((tget_of_mem hkeys hx).symm.trans he)
      rw [hy, h]
    · rfl
  simp only [onShutter, State.onShut, htable]

/-- Two such changes that agree but for the mark leave the same records. -/
theorem onShutter_records_congr (hkeys : (s.shut.map Prod.fst).Nodup) (he : tget s.shut i = some e)
    (h : (f e).unmarked = (g e).unmarked) : (onShutter s i f).records = (onShutter s i g).records := by
  have hunmark : ∀ k : Shutter → Shutter, (onShutter s i k).records = (onShutter s i fun e => (k e).unmarked).records := by
    intro k
    refine congrArg (fun t => { s.records with shut := t }) ?_
    simp only [onShutter, State.onShut, tmod_eq_map, tmap_eq_map, List.map_map]
    refine List.map_congr_left fun x _ => ?_
    by_cases hx : x.1 = i <;> simp only [Function.comp, hx, if_true, if_false, Shutter.unmarked]
  rw [hunmark f, hunmark g, onShutter_congr (f := fun e => (f e).unmarked) (g := fun e => (g e).unmarked) hkeys he h]

/-- The shutter in WARNING, with no timer started and no order placed. -/
def Shutter.warning (e : Shutter) : Shutter :=
  { e with state := .warning, obstruction := none, fault := none, prior := none, timer := none }

theorem warn_of_pos {p : Paternoster} (h : e.warnTime ≠ 0) :
    e.warn p = { e.warning with slot := some .warn, timer := some (secs e.warnTime) } := by
  rw [Shutter.warn, if_neg h]
  rfl

theorem warn_of_zero {p : Paternoster} (h : e.warnTime = 0) : e.warn p = e.warning.warnExpiry p := by
  rw [Shutter.warn, if_pos h]
  rfl

theorem warnExpiry_of_clear {p : Paternoster} (hkind : e.kind = .shaft) (h : p.judgeShutter e = .clear) :
    e.warnExpiry p = e.drop := by
  simp only [Shutter.warnExpiry, hkind, h]

theorem warnExpiry_of_blocked {p : Paternoster} (hkind : e.kind = .shaft) (h : p.judgeShutter e = .blocked) :
    e.warnExpiry p = e.obstructCar := by
  simp only [Shutter.warnExpiry, hkind, h]

theorem warnExpiry_of_notStopped {p : Paternoster} (hkind : e.kind = .shaft) (h : p.judgeShutter e = .notStopped) :
    e.warnExpiry p = e.await := by
  simp only [Shutter.warnExpiry, hkind, h]

theorem awaitEntered_of (he : tget s.shut i = some e) (hstate : e.state = .awaitClear) {f : Nat}
    (hlanding : e.landing = some f) :
    awaitEntered i s = if e.reason = .fire then addLanding f s else s.onShut (handLanding s.pat f) := by
  simp only [awaitEntered, he, hstate, if_true, hlanding]

theorem awaitEntered_of_no_landing (he : tget s.shut i = some e) (hlanding : e.landing = none) : awaitEntered i s = s := by
  simp only [awaitEntered, he, hlanding, ite_self]

/-- A judgment NOT_STOPPED handed over leaves every shutter as it is (R80). -/
theorem handLanding_of_notStopped {p : Paternoster} {f : Nat} (h : p.judge f = .notStopped) (t : Table Shutter) :
    handLanding p f t = t :=
  tmap_id _ _ fun _ e => by
    rw [h]
    unfold Shutter.hand
    simp only [ite_self]

theorem judge_of_landing {p : Paternoster} {f : Nat} (hlanding : e.landing = some f) : p.judgeShutter e = p.judge f := by
  simp only [Paternoster.judgeShutter, hlanding]

end

/-! ## A shutter's mark through the Port B arbiter -/

/-- The mark of shutter `i` is set. -/
def State.shutterMarked (i : Nat) (s : State) : Prop := ∃ e, tget s.shut i = some e ∧ e.mark = true

section
variable {i : Nat} {s : State}

theorem shutterMarked_of_shut {t : State} (h : s.shutterMarked i) (heq : t.shut = s.shut) : t.shutterMarked i := by
  unfold State.shutterMarked
  rw [heq]
  exact h

theorem onShutter_marked (h : s.shutterMarked i) (j : Nat) {f : Shutter → Shutter}
    (hf : ∀ e : Shutter, e.mark = true → (f e).mark = true) : (onShutter s j f).shutterMarked i := by
  obtain ⟨e, he, hmark⟩ := h
  show ∃ e, tget (tmod s.shut j f) i = some e ∧ e.mark = true
  rw [tget_tmod, he]
  split
  · exact ⟨f e, rfl, hf e hmark⟩
  · exact ⟨e, rfl, hmark⟩

theorem warn_mark (p : Paternoster) {e : Shutter} (h : e.mark = true) : (e.warn p).mark = true := by
  unfold Shutter.warn Shutter.warnExpiry
  dsimp only
  split
  · split
    · exact h
    · split <;> [exact h; exact h; rfl]
  · exact h

theorem hand_mark (p : Paternoster) (j : Judgment) {e : Shutter} (h : e.mark = true) : (e.hand p j).mark = true := by
  unfold Shutter.hand
  split
  · cases j with
    | clear => exact warn_mark p h
    | blocked => dsimp only; split <;> exact h
    | notStopped => exact h
  · exact h

theorem handLanding_marked (h : s.shutterMarked i) (f : Nat) : (s.onShut (handLanding s.pat f)).shutterMarked i := by
  obtain ⟨e, he, hmark⟩ := h
  show ∃ e, tget (tmap s.shut _) i = some e ∧ e.mark = true
  rw [tget_tmap, he]
  refine ⟨_, rfl, ?_⟩
  dsimp only
  split
  · exact hand_mark _ _ hmark
  · exact hmark

theorem judgeLandings_marked (h : s.shutterMarked i) (floors : List Nat) : (judgeLandings floors s).shutterMarked i :=
  foldl_of_step (p := State.shutterMarked i) (fun _ f h => handLanding_marked h f) floors h

theorem lockAndJudge_marked (h : s.shutterMarked i) : (lockAndJudge s).shutterMarked i :=
  judgeLandings_marked (s := s.onPat fun p => p.lock (some .fire)) h _

theorem addLanding_marked (h : s.shutterMarked i) (f : Nat) : (addLanding f s).shutterMarked i := by
  unfold addLanding
  split
  · exact h
  · have h1 : (markPat (s.onPat fun p => { p with fireStop := addBit p.fireStop f })).shutterMarked i := h
    dsimp only
    split
    · exact h1
    · exact h1
    · exact h1
    · split <;> exact h1
    · split <;> exact h1
    · split <;> [exact lockAndJudge_marked h1; exact h1]
    · split <;> [exact lockAndJudge_marked h1; exact h1]
    · split <;> [exact lockAndJudge_marked h1; exact h1]

theorem awaitEntered_marked (h : s.shutterMarked i) (j : Nat) : (awaitEntered j s).shutterMarked i := by
  unfold awaitEntered
  split
  · exact h
  · split
    · split
      · exact h
      · split <;> [exact addLanding_marked h _; exact handLanding_marked h _]
    · exact h

theorem dropDiscarded_marked (h : s.shutterMarked i) (j : Nat) (r : VetoReason) : (dropDiscarded j r s).shutterMarked i := by
  unfold dropDiscarded
  split
  · exact h
  · split
    · split
      · exact onShutter_marked h j fun _ h => h
      · exact awaitEntered_marked (onShutter_marked h j fun _ _ => rfl) j
      · exact h
    · exact h

theorem raiseDiscarded_marked (h : s.shutterMarked i) (j : Nat) : (raiseDiscarded j s).shutterMarked i :=
  onShutter_marked h j fun e he => by
    split
    · unfold Shutter.returnPrior
      split <;> exact he
    · exact he

theorem takeShutter_marked (h : s.shutterMarked i) (j : Nat) (e : Shutter) (o : ShutterOrder) :
    (takeShutter j e o s).shutterMarked i := by
  have h1 : (onShutter s j fun e => { e with slot := none }).shutterMarked i := onShutter_marked h j fun _ h => h
  unfold takeShutter
  dsimp only
  split
  · exact h1
  · split
    · exact h1
    · split <;> [exact dropDiscarded_marked h1 j _; exact h1]
  · split <;> [exact raiseDiscarded_marked h1 j; exact h1]

theorem orderDiscarded_marked (h : s.shutterMarked i) (o : Order) (r : VetoReason) :
    (orderDiscarded o r s).shutterMarked i := by
  unfold orderDiscarded withEntry
  split
  · exact h
  · split <;> [exact dropDiscarded_marked h _ r; exact h]
  · split <;> [exact raiseDiscarded_marked h _; exact h]
  · exact h

theorem takeForwarded_marked (h : s.shutterMarked i) (o : Order) (rest : List Order) :
    (takeForwarded o rest s).shutterMarked i := by
  unfold takeForwarded
  dsimp only
  split
  · exact orderDiscarded_marked (s := s.onLine fun l => { l with orders := rest }) h o _
  · exact h

theorem takeOrder_marked (h : s.shutterMarked i) {t : State} (ht : takeOrder s = some t) : t.shutterMarked i := by
  unfold takeOrder at ht
  split at ht
  · cases ht; exact shutterMarked_of_shut h (by simp)
  · split at ht
    · cases ht; exact takeShutter_marked h _ _ _
    · split at ht
      · cases ht; exact shutterMarked_of_shut h (by simp)
      · split at ht
        · cases ht; exact shutterMarked_of_shut h (by simp)
        · split at ht
          · cases ht; exact takeForwarded_marked h _ _
          · cases ht

theorem takeB_marked (h : s.shutterMarked i) {t : State} (ht : takeB s = some t) : t.shutterMarked i := by
  have hpoll : takePoll s = some t → t.shutterMarked i := by
    intro hp
    unfold takePoll at hp
    split at hp
    · cases hp
    · cases hp; exact h
  unfold takeB at ht
  split at ht
  · exact hpoll ht
  · split at ht
    next t' ht' => cases ht; exact takeOrder_marked h ht'
    · split at ht
      · exact hpoll ht
      · cases ht

theorem arbiterB_marked (h : s.shutterMarked i) (n : Nat) : (arbiterB n s).shutterMarked i := by
  induction n generalizing s with
  | zero => exact h
  | succ n ih =>
    unfold arbiterB
    split
    · split
      next t ht => exact ih (takeB_marked h ht)
      · exact h
    · exact h

/-- While Port A is sending, a mark set in the event is set at its end. -/
theorem settle_marked (hbusy : s.line.portA.isSome = true) (b : State) (h : s.shutterMarked i) :
    (settle b s).shutterMarked i := by
  obtain ⟨e, he, hmark⟩ := arbiterB_marked h 128
  obtain ⟨w, hw⟩ := settle_of_busy hbusy b
  rw [hw]
  show ∃ f, tget (marked b s).shut i = some f ∧ f.mark = true
  simp only [marked, markChanges, refreshImage, State.onBoard_shut, tget_tmap, State.onCall_shut, he]
  exact ⟨_, rfl, by simp only [hmark, Bool.true_or]⟩

end

/-! ## Raise Shutter and Retry Shutter -/

section
variable {u : State} {i : Nat} {e : Shutter}

theorem shutterRequest_of_absent (harmed : u.armed = true) (h : 31 < i ∨ tget u.shut i = none) (f : Shutter → Result) :
    shutterRequest i u f = refuse u .badIndex := by
  rw [shutterRequest, whenArmed_of_armed harmed]
  rcases h with h | h
  · rw [if_pos h]
  · rw [h, ite_self]

theorem shutterRequest_of_present (harmed : u.armed = true) (hi : i ≤ 31) (he : tget u.shut i = some e)
    (f : Shutter → Result) : shutterRequest i u f = f e := by
  rw [shutterRequest, whenArmed_of_armed harmed, if_neg (by omega), he]

/-- What an accepted Retry puts into the record before the shutter acts by its kind (R85). -/
def Shutter.retried (e : Shutter) : Shutter := { e with attempts := 0, obstruction := none, fault := none, mark := true }

theorem retryShutter_department (hkind : e.kind = .department) :
    retryShutter i e u = onShutter u i fun e => e.retried.drop := by
  rw [retryShutter, hkind]
  exact onShutter_onShutter ..

theorem retryShutter_clear (hkind : e.kind = .shaft) (h : u.pat.judgeShutter e = .clear) :
    retryShutter i e u = onShutter u i fun e => e.retried.warn u.pat := by
  rw [retryShutter, hkind, h]
  exact onShutter_onShutter ..

theorem retryShutter_blocked (hkind : e.kind = .shaft) (h : u.pat.judgeShutter e = .blocked) :
    retryShutter i e u = onShutter u i fun e => e.retried.obstructCar := by
  rw [retryShutter, hkind, h]
  exact onShutter_onShutter ..

theorem retryShutter_notStopped (hkind : e.kind = .shaft) (h : u.pat.judgeShutter e = .notStopped) :
    retryShutter i e u = awaitEntered i (onShutter u i fun e => e.retried.await) := by
  rw [retryShutter, hkind, h]
  exact congrArg (awaitEntered i) (onShutter_onShutter ..)

theorem retryShutter_marked (he : tget u.shut i = some e) : (retryShutter i e u).shutterMarked i := by
  cases hkind : e.kind with
  | department => exact retryShutter_department (u := u) (i := i) hkind ▸ ⟨_, tget_onShutter he _, rfl⟩
  | shaft =>
    cases hjudge : u.pat.judgeShutter e with
    | clear => exact retryShutter_clear hkind hjudge ▸ ⟨_, tget_onShutter he _, warn_mark _ rfl⟩
    | blocked => exact retryShutter_blocked (i := i) hkind hjudge ▸ ⟨_, tget_onShutter he _, rfl⟩
    | notStopped =>
      exact retryShutter_notStopped (i := i) hkind hjudge ▸ awaitEntered_marked ⟨_, tget_onShutter he _, rfl⟩ i

end

/-- Settles O28: each request by the shutter's state, kind and judgment. -/
theorem raiseAndRetryShutterAnswer : Obligations.RaiseAndRetryShutterAnswer := by
  refine ⟨?raise, ?retry⟩
  case raise =>
    intro src tag shutter s htakes harmed u i answer raising
    have harmed' : u.armed = true := (panelHeard_armed src s).trans harmed
    have hshut : u.shut = s.shut := by simp [u]
    have hmissing : u.missing = s.missing := funext (panelHeard_missing src s)
    have hzone : u.zoneAlarm = s.zoneAlarm := funext (panelHeard_zoneAlarm src s)
    have hanswer : ∀ c v, raiseShutterResult i u = { state := v, code := c, data := [] } → answer c v :=
      fun _ _ h => answersAs_exec rfl rfl htakes h
    rw [← hshut, ← hmissing, ← hzone]
    clear_value u
    refine ⟨fun habsent => hanswer _ _ (shutterRequest_of_absent harmed' habsent _), fun e hi he hkeys => ?_⟩
    have hbody := shutterRequest_of_present harmed' hi he
    have hraised : ∀ p, e.priorNow = p → (e.state = .closed ∨ e.state = .obstructed ∨ e.state = .faulted) →
        u.missing e.station = false → u.raiseHeld e = false → answer .ok (raising p) := by
      intro p hp hstate hmiss hheld
      refine hanswer _ _ ((hbody _).trans ?_)
      rw [if_neg (not_not.mpr hstate), hmiss, hheld, if_neg Bool.false_ne_true, if_neg Bool.false_ne_true]
      exact congrArg accept (onShutter_congr hkeys he (by rw [← hp]; rfl))
    refine ⟨fun h1 h2 h3 => hanswer _ _ ((hbody _).trans (if_pos ?_)), fun hstate =>
      ⟨fun hmiss => hanswer _ _ ((hbody _).trans ?_), fun hmiss => ⟨fun hfire hin => hanswer _ _ ((hbody _).trans ?_),
        fun hheld => ?_⟩⟩⟩
    · rintro (h | h | h)
      exacts [h1 h, h2 h, h3 h]
    · rw [if_neg (not_not.mpr hstate), if_pos hmiss]; rfl
    · rw [if_neg (not_not.mpr hstate), hmiss, if_neg Bool.false_ne_true, if_pos (by simp [State.raiseHeld, hfire, hin])]
      rfl
    · have hheld' : u.raiseHeld e = false := by
        rcases hheld with h | h <;> simp [State.raiseHeld, h]
      refine ⟨fun h => hraised _ ?_ hstate hmiss hheld', fun o h ho => hraised _ ?_ hstate hmiss hheld',
        fun c h hc => hraised _ ?_ hstate hmiss hheld'⟩
      · simp only [Shutter.priorNow, h]
      · simp only [Shutter.priorNow, h, ho]
      · simp only [Shutter.priorNow, h, hc]
  case retry =>
    intro src tag shutter s htakes harmed u i answer cleared
    have harmed' : u.armed = true := (panelHeard_armed src s).trans harmed
    have hshut : u.shut = s.shut := by simp [u]
    have hpat : u.pat = s.pat := by simp [u]
    have hline : u.line = s.line := by simp [u]
    have hmissing : u.missing = s.missing := funext (panelHeard_missing src s)
    have hanswer : ∀ c v, retryShutterResult i u = { state := v, code := c, data := [] } → answer c v :=
      fun _ _ h => answersAs_exec rfl rfl htakes h
    have hexec : exec (.retryShutter src tag shutter) s =
        .next (settle s (executeRequest src tag 18 (retryShutterResult i) u)) :=
      (exec_request (c := .retryShutter src tag shutter) rfl rfl s).trans
        (congrArg (finish s) (requestArrives_of_takes htakes ..))
    rw [← hshut, ← hmissing, ← hpat, ← hline, hexec]
    clear_value u
    refine ⟨fun habsent => hanswer _ _ (shutterRequest_of_absent harmed' habsent _), fun e hi he hkeys => ?_⟩
    have hbody := shutterRequest_of_present harmed' hi he
    refine ⟨fun h1 h2 => hanswer _ _ ((hbody _).trans (if_pos ?_)), fun hstate =>
      ⟨fun hmiss => hanswer _ _ ((hbody _).trans ?_), fun hmiss => ⟨fun hnone => hanswer _ _ ((hbody _).trans ?_),
        fun hreason => ?_⟩⟩⟩
    · rintro (h | h)
      exacts [h1 h, h2 h]
    · rw [if_neg (not_not.mpr hstate), if_pos hmiss]; rfl
    · rw [if_neg (not_not.mpr hstate), hmiss, if_neg Bool.false_ne_true, if_pos hnone]; rfl
    · have hresult : retryShutterResult i u = accept (retryShutter i e u) := by
        refine (hbody _).trans ?_
        rw [if_neg (not_not.mpr hstate), hmiss, if_neg Bool.false_ne_true, if_neg hreason]
      have hok : ∀ v, retryShutter i e u = v → answer .ok v := fun v hv => hanswer _ _ (hresult.trans (congrArg accept hv))
      have hok' : ∀ f g : Shutter → Shutter, retryShutter i e u = onShutter u i f → (f e).unmarked = (g e).unmarked →
          answer .ok (onShutter u i g) := fun f g hf hfg =>
        AnswersAs.of_records (hok _ hf) (onShutter_records_congr hkeys he hfg)
      refine ⟨fun hbusy => ?_, fun hkind => hok' _ _ (retryShutter_department hkind) rfl, fun hkind =>
        ⟨fun hjudge hwarn => hok' _ _ (retryShutter_clear hkind hjudge) ?_,
         fun hjudge hwarn => hok' _ _ (retryShutter_clear hkind hjudge) ?_,
         fun hjudge => hok' _ _ (retryShutter_blocked hkind hjudge) rfl, fun hjudge => ?_⟩⟩
      · have hportA : (executeRequest src tag 18 (retryShutterResult i) u).line.portA.isSome = true := by
          rw [executeRequest, hresult]
          exact (congrArg (fun l : LineUnit => l.portA.isSome) (retryShutter_line i e u)).trans hbusy
        obtain ⟨f, hf, hmark⟩ := settle_marked hportA s (i := i) (by
          rw [executeRequest, hresult]
          exact retryShutter_marked he)
        exact ⟨_, f, rfl, hf, hmark⟩
      · rw [warn_of_pos (show e.retried.warnTime ≠ 0 from Nat.one_le_iff_ne_zero.mp hwarn)]
        rfl
      · rw [warn_of_zero (show e.retried.warnTime = 0 from hwarn)]
        rw [warnExpiry_of_clear (e := e.retried.warning) hkind hjudge]
        rfl
      · intro waiting
        have hwaiting : retryShutter i e u = awaitEntered i waiting := (retryShutter_notStopped hkind hjudge).trans
          (congrArg (awaitEntered i) (onShutter_congr hkeys he rfl))
        have hget : tget waiting.shut i = some _ := tget_onShutter he _
        refine ⟨fun hfire f hlanding => hok _ (hwaiting.trans ?_), fun hfire => hok _ (hwaiting.trans ?_)⟩
        · rw [awaitEntered_of hget rfl hlanding, if_pos hfire]
        · cases hlanding : e.landing with
          | none => exact awaitEntered_of_no_landing hget hlanding
          | some f =>
            rw [awaitEntered_of hget rfl hlanding, if_neg hfire]
            have hjudge' : waiting.pat.judge f = .notStopped := (judge_of_landing hlanding).symm.trans hjudge
            show { waiting with shut := _ } = waiting
            rw [handLanding_of_notStopped hjudge']

end Sys2Proof.Machine
end
section
/-! SUPPORT. Release Paternoster, Clear Call, and the requests of the closing. -/

namespace Sys2Proof.Machine

/-! ## Release Paternoster (R26) -/

theorem firstWhere_of_append {α : Type} {l r : Table α} {i : Nat} {e : α} {p : α → Bool}
    (hl : ∀ x ∈ l, p x.2 = false) (he : p e = true) : firstWhere (l ++ (i, e) :: r) p = some i := by
  have hnone : l.find? (fun x => p x.2) = none := List.find?_eq_none.mpr fun x hx => by simp [hl x hx]
  rw [firstWhere_eq_find, List.find?_append, hnone, List.find?_cons_of_pos (p := fun x : Nat × α => p x.2) he]
  rfl

theorem firstWhere_eq_none {α : Type} {t : Table α} {p : α → Bool} (h : ∀ x ∈ t, p x.2 = false) :
    firstWhere t p = none := by
  rw [firstWhere_eq_find, List.find?_eq_none.mpr fun x hx => by simp [h x hx]]
  rfl

theorem closing_iff (e : Shutter) : e.closing = true ↔ e.kind = .shaft ∧
    (e.state = .awaitClear ∨ e.state = .warning ∨ e.state = .descending) := by
  simp [Shutter.closing, or_assoc]

theorem driveUnready_iff (s : State) : s.driveUnready = true ↔ (∃ a, s.driveStation = some a ∧ s.missing a = true) ∨
    s.pat.chain.fault = true ∨ s.pat.chain.motion ≠ .stopped := by
  simp [State.driveUnready, or_assoc, Option.any_eq_true]

/-- Settles O29: the refusals in the order of R26, and the release. -/
theorem releasePaternosterAnswers : Obligations.ReleasePaternosterAnswers := by
  intro src tag s htakes harmed u answer closing unready
  have harmed' : u.armed = true := (panelHeard_armed src s).trans harmed
  have hpat : u.pat = s.pat := by simp [u]
  have hshut : u.shut = s.shut := by simp [u]
  have hfull : u.anyFull = s.anyFull := panelHeard_anyFull src s
  have hunready : u.driveUnready = true ↔ unready := by
    rw [driveUnready_iff, hpat]
    simp only [u, panelHeard_driveStation, panelHeard_missing]
    rfl
  have hanswer : ∀ c d v, releaseResult u = { state := v, code := c, data := d } → answer c d v :=
    fun _ _ _ h => answersAs_exec rfl rfl htakes h
  rw [← hpat, ← hshut, ← hfull]
  clear_value u
  have hnot : ∀ e, ¬closing e → e.closing = false := fun e h => eq_false_of_ne_true (mt (closing_iff e).mp h)
  have hbody : releaseResult u = _ := whenArmed_of_armed harmed' _
  refine ⟨fun hstate => hanswer _ _ _ (hbody.trans (if_pos hstate)), fun hstate => ⟨fun hany => hanswer _ _ _ (hbody.trans ?_),
    fun hany => ⟨fun l i e r ht hl he => hanswer _ _ _ (hbody.trans ?_), fun hnone => ?_⟩⟩⟩
  · rw [if_neg (not_not.mpr hstate), if_pos hany]; rfl
  · rw [if_neg (not_not.mpr hstate), hany, if_neg Bool.false_ne_true, ht,
      firstWhere_of_append (fun x hx => hnot x.2 (hl x hx)) ((closing_iff e).mpr he)]
  · have hrest : releaseResult u = if u.driveUnready then { state := u, code := .busy, data := [255] }
        else accept (releaseChain u) := by
      rw [hbody, if_neg (not_not.mpr hstate), hany, if_neg Bool.false_ne_true,
        firstWhere_eq_none fun x hx => hnot x.2 (hnone x hx)]
    exact ⟨fun h => hanswer _ _ _ (hrest.trans (if_pos (hunready.mpr h))),
      fun h => hanswer _ _ _ (hrest.trans (if_neg (mt hunready.mp h)))⟩

/-! ## Clear Call (R116, R117) -/

/-- The ringers with those that ring for a push of `gone` stopped. -/
def Ringer.stoppedFor (gone : Nat → Bool) (g : Ringer) : Ringer :=
  match g.ring with
  | some (.request r) => match r.origin with
    | .call p => if gone p then g.stop else g
    | _ => g
  | _ => g

/-- The origin is the call of a push of `gone`. -/
def Origin.callOf (gone : Nat → Bool) : Origin → Bool
  | .call p => gone p
  | _ => false

theorem stopFrom_callOf (u : CallUnit) (gone : Nat → Bool) : (u.stopFrom (Origin.callOf gone)).ringers =
    u.ringers.map fun e => (e.1, e.2.stoppedFor gone) := by
  rw [CallUnit.stopFrom, tmap_eq_map]
  refine List.map_congr_left fun e _ => ?_
  unfold Ringer.stoppedFor
  cases hring : e.2.ring with
  | none => simp
  | some ring =>
    cases ring with
    | panel a b => simp [Ring.originMeets]
    | request r => cases horigin : r.origin <;> simp [Ring.originMeets, Origin.callOf, horigin]

/-- The Call Unit without the calls of `pushes`, the requests of `gone` and the rings of `rung`. -/
def CallUnit.removed (pushes : List Nat) (gone rung : Origin → Bool) (u : CallUnit) : CallUnit :=
  let u1 := (u.withdraw gone).stopFrom rung
  { u1 with
    calls := u1.calls.filter fun c => !pushes.contains c.push
    listFull := if pushes.any u.hasCall then false else u1.listFull
    mark := u1.mark || pushes.any u.hasCall }

/-- What the Call Unit holds before the one look at the owed calls and the one dispatch (R116). -/
theorem removeCalls_eq (pushes : List Nat) (all : Bool) (s : State) : removeCalls pushes all s =
    departures (s.onCall (CallUnit.removed pushes (Origin.callOf fun p => all || pushes.contains p)
      (Origin.callOf fun p => pushes.contains p))) := by
  have hgone : (fun o => match o with
      | Origin.call p => all || pushes.contains p
      | _ => false) = Origin.callOf fun p => all || pushes.contains p := funext fun o => by cases o <;> rfl
  have hrung : (fun o => match o with
      | Origin.call p => pushes.contains p
      | _ => false) = Origin.callOf fun p => pushes.contains p := funext fun o => by cases o <;> rfl
  exact congrArg₂ (fun gone rung => departures (s.onCall (CallUnit.removed pushes gone rung))) hgone hrung

theorem removed_eq (pushes : List Nat) (gone : Origin → Bool) (rung : Nat → Bool) (u : CallUnit) :
    u.removed pushes gone (Origin.callOf rung) =
      { u with
        calls := u.calls.filter fun c => !pushes.contains c.push
        queue := u.queue.filter fun r => !gone r.origin
        ringers := u.ringers.map fun e => (e.1, e.2.stoppedFor rung)
        listFull := if pushes.any u.hasCall then false else u.listFull
        mark := u.mark || decide ((u.queue.filter fun r => !gone r.origin).length ≠ u.queue.length) ||
          pushes.any u.hasCall } :=
  congrArg (fun ringers => { u.removed pushes gone (fun _ => false) with ringers := ringers })
    (stopFrom_callOf (u.withdraw gone) rung)

section
variable (pushes : List Nat) (all : Bool) (s : State)

theorem removeCalls_calls : ((removeCalls pushes all s).call.calls.map fun c => c.push) =
    (s.call.calls.map fun c => c.push).filter fun p => !pushes.contains p := by
  rw [removeCalls_eq, (departures_served _).pushes_of_calls, List.filter_map]
  rfl

theorem removeCalls_listFull : (removeCalls pushes all s).call.listFull =
    if pushes.any s.call.hasCall then false else s.call.listFull := by
  rw [removeCalls_eq, (departures_served _).listFull]
  rfl

/-- Nothing queued and nothing rung is of a push removed. -/
theorem removeCalls_without :
    (removeCalls pushes all s).call.Without (Origin.callOf fun p => pushes.contains p) := by
  rw [removeCalls_eq]
  refine departures_without (fun i hi => ?_) ⟨fun r hr => ?_, fun g hg r hr => ?_⟩
  · obtain ⟨c, hc, rfl⟩ := List.mem_map.mp hi
    simpa [Origin.callOf] using (List.mem_filter.mp hc).2
  · have hkept := (List.mem_filter.mp hr).2
    cases horigin : r.origin with
    | call p => simp_all [Origin.callOf]
    | _ => rfl
  · exact (CallUnit.withdraw_without s.call (Origin.callOf fun p => pushes.contains p)).rings g hg r hr

/-- A dispatch with no call listed leaves in the queue what was there. -/
theorem dispatch_queue_subset {s : State} (h : s.call.calls = []) : (departures s).call.queue ⊆ s.call.queue := by
  have hoffer : ∀ (t : State) (push : Nat), t.call.calls = [] → reofferOne t push = t := by
    intro t push ht
    simp only [reofferOne, ht, List.find?_nil]
  have hreoffer : reoffer s = s := by rw [reoffer, h]; rfl
  rw [departures, hreoffer]
  refine (dispatch_of_step (p := fun t => t.call.calls = [] ∧ t.call.queue ⊆ s.call.queue) (fun t push ht => ?_)
    (fun t i ht => ?_) ⟨h, List.Subset.refl _⟩).2
  · rw [hoffer t push ht.1]; exact ht
  · rcases dispatchOne_cases i t with hidle | ⟨g, r, pat, -, -, -, -, htake⟩
    · rw [hidle]; exact ht
    · rw [htake]
      exact ⟨ht.1, fun x hx => ht.2 (List.mem_filter.mp hx).1⟩

/-- With every call removed no CALL request stays. -/
theorem removeCalls_all_queue {r : Req} (hr : r ∈ (removeCalls (s.call.calls.map fun c => c.push) true s).call.queue)
    (p : Nat) : r.origin ≠ .call p := by
  rw [removeCalls_eq] at hr
  have hcalls : (s.call.calls.filter fun c => !(s.call.calls.map fun c => c.push).contains c.push) = [] := by
    rw [List.filter_eq_nil_iff]
    intro c hc
    simpa using ⟨c, hc, rfl⟩
  have hkept := (List.mem_filter.mp (dispatch_queue_subset hcalls hr)).2
  rintro horigin
  simp [horigin, Origin.callOf] at hkept

end

theorem hasCall_iff (u : CallUnit) (p : Nat) : u.hasCall p = true ↔ ∃ c ∈ u.calls, c.push = p := by
  simp [CallUnit.hasCall]

/-- Settles O30: the refusals, what is left, and the state in full. -/
theorem clearCallAnswers : Obligations.ClearCallAnswers := by
  refine ⟨?request, ?removal⟩
  case request =>
    intro src tag push s htakes harmed u answer kept unrung
    have harmed' : u.armed = true := (panelHeard_armed src s).trans harmed
    have hcall : u.call = s.call := by simp [u]
    have hanswer : ∀ c d v, clearCallResult push.toNat u = { state := v, code := c, data := d } → answer c d v :=
      fun _ _ _ h => answersAs_exec rfl rfl htakes h
    have hkept : ∀ pushes all, kept (removeCalls pushes all u) := by
      intro pushes all
      have hserved := departures_served (u.onCall (CallUnit.removed pushes
        (Origin.callOf fun p => all || pushes.contains p) (Origin.callOf fun p => pushes.contains p)))
      rw [removeCalls_eq]
      refine ⟨?_, ?_, ?_, ?_, ?_, ?_, ?_, ?_, hserved.closingLevel, hserved.fireLevel⟩ <;> simp
    have hrings : ∀ pushes all, ∀ i ∈ pushes, ∀ g ∈ (removeCalls pushes all u).call.ringers, ∀ r,
        g.2.ring = some (.request r) → r.origin ≠ .call i := by
      intro pushes all i hi g hg r hr horigin
      have hwithout := (removeCalls_without pushes all u).rings g hg r hr
      simp [horigin, Origin.callOf, hi] at hwithout
    have hbody : clearCallResult push.toNat u = _ := whenArmed_of_armed harmed' _
    have hne : push ≠ 255 → ¬push.toNat = 255 := fun h heq => h (BitVec.eq_of_toNat_eq heq)
    rw [← hcall]
    clear_value u
    refine ⟨fun hpush => ⟨fun habsent => hanswer _ _ _ (hbody.trans ?_), fun hle hpresent =>
      ⟨fun hnone => hanswer _ _ _ (hbody.trans ?_), fun hsome => ?_⟩⟩, fun hpush => ?_⟩
    · rw [if_neg (hne hpush), if_pos habsent]; rfl
    · rw [if_neg (hne hpush), if_neg (not_or.mpr ⟨by omega, by simpa [Option.isSome_iff_ne_none] using hpresent⟩),
        if_neg (mt (hasCall_iff _ _).mp (by simpa using hnone))]
      rfl
    · have hhas : u.call.hasCall push.toNat = true := (hasCall_iff _ _).mpr hsome
      refine ⟨hanswer _ _ _ (hbody.trans ?_), hkept _ _, fun c hc hor => hrings _ _ _ (List.mem_singleton.mpr (hor.resolve_left hpush)), ?_, ?_,
        fun r hr horigin => ?_⟩
      · rw [if_neg (hne hpush), if_neg (not_or.mpr ⟨by omega, by simpa [Option.isSome_iff_ne_none] using hpresent⟩),
          if_pos hhas]
        rfl
      · rw [removeCalls_listFull]
        simp [hhas]
      · rw [removeCalls_calls]
        refine List.filter_congr fun x _ => ?_
        simp [decide_not]
      · have hwithout := (removeCalls_without [push.toNat] false u).queue r hr
        simp [horigin, Origin.callOf] at hwithout
    · subst hpush
      refine ⟨hanswer _ _ _ hbody, hkept _ _, fun c hc _ => hrings _ _ _ (List.mem_map.mpr ⟨c, hcall ▸ hc, rfl⟩), ?_, fun hsome => ?_,
        fun hnone => ?_, fun r hr p => removeCalls_all_queue u hr p⟩
      · have hcalls := removeCalls_calls (u.call.calls.map fun c => c.push) true u
        rw [List.filter_eq_nil_iff.mpr fun x hx => by simpa using hx] at hcalls
        exact List.map_eq_nil_iff.mp hcalls
      · obtain ⟨c, hc⟩ := List.exists_mem_of_ne_nil _ hsome
        rw [removeCalls_listFull, if_pos]
        exact List.any_eq_true.mpr ⟨c.push, List.mem_map.mpr ⟨c, hc, rfl⟩, (hasCall_iff _ _).mpr ⟨c, hc, rfl⟩⟩
      · rw [removeCalls_listFull, hnone]
        rfl
  case removal =>
    intro v stopped calling queue
    refine ⟨fun p hp => ?_, ?_⟩
    · have hhas : [p].any v.call.hasCall = true := by simpa using (hasCall_iff _ _).mpr hp
      have hqueue : (v.call.queue.filter fun r => !Origin.callOf (fun q => false || [p].contains q) r.origin) =
          v.call.queue.filter fun r => r.origin != .call p := by
        refine List.filter_congr fun r _ => ?_
        rw [Bool.eq_iff_iff]
        cases r.origin <;> simp [Origin.callOf]
      have hpush : (fun q => [p].contains q) = (· == p) := funext fun q => by
        rw [Bool.eq_iff_iff]
        simp
      have hcalls : (v.call.calls.filter fun c => !([p].contains c.push)) = v.call.calls.filter fun c => c.push != p :=
        List.filter_congr fun c _ => congrArg (!·) (congrFun hpush c.push)
      rw [removeCalls_eq]
      refine congrArg (fun u => departures { v with call := u }) ((removed_eq ..).trans ?_)
      rw [hqueue, hcalls, hpush, hhas, Bool.or_true, if_pos rfl]
      rfl
    · have hqueue : (v.call.queue.filter fun r =>
          !Origin.callOf (fun q => true || (v.call.calls.map fun c => c.push).contains q) r.origin) = queue := by
        refine List.filter_congr fun r _ => ?_
        cases horigin : r.origin <;> simp [Origin.callOf, calling, horigin]
      have hcalls : (v.call.calls.filter fun c => !(v.call.calls.map fun c => c.push).contains c.push) = [] := by
        rw [List.filter_eq_nil_iff]
        intro c hc
        simpa using ⟨c, hc, rfl⟩
      have hpush : (fun q => (v.call.calls.map fun c => c.push).contains q) =
          fun q => v.call.calls.any fun c => c.push == q := funext fun q => by
        rw [Bool.eq_iff_iff]
        simp
      have hany : (v.call.calls.map fun c => c.push).any v.call.hasCall = !v.call.calls.isEmpty := by
        cases hlist : v.call.calls with
        | nil => rfl
        | cons c l => simp [CallUnit.hasCall, hlist]
      rw [removeCalls_eq]
      refine congrArg (fun u => departures { v with call := u }) ((removed_eq ..).trans ?_)
      have hfull : (if (!v.call.calls.isEmpty) = true then false else v.call.listFull) =
          (v.call.listFull && v.call.calls.isEmpty) := by
        cases v.call.calls.isEmpty <;> simp
      have hlength : decide (queue.length ≠ v.call.queue.length) = (queue.length != v.call.queue.length) := by
        rw [Bool.eq_iff_iff]
        simp
      rw [hqueue, hcalls, hpush, hany, hfull, hlength]
      rfl

end Sys2Proof.Machine
end
section
/-! SUPPORT. The closing abandoned (R145), and the requests Begin Closing and Abort Closing. -/

namespace Sys2Proof.Machine

/-! ## The closing abandoned -/

/-- The state as an abandonment leaves it before its one look at the owed calls and one dispatch (R115, R145). -/
def State.abandoned (s : State) : State :=
  { s with
    ann := { s.ann with closing := .aborted, startTime := none, nextStep := none, waitGen := false, waitFloors := 0,
                        mark := true }
    call := { s.call with
      queue := s.call.queue.filter fun r => r.origin != .closing
      closingLevel := 0
      mark := s.call.mark || (s.call.queue.filter fun r => r.origin != .closing).length != s.call.queue.length
      ringers := s.call.ringers.map fun e => (e.1, match e.2.ring with
        | some (.request r) => if r.origin = .closing then e.2.stop else e.2
        | _ => e.2) } }

/-- The amplifier without its gate, and with a Gate off in its slot unless its station is MISSING (R145, log 11). -/
def Amp.ungated (missing : Bool) (a : Amp) : Amp :=
  if a.state = .gated then
    { a with
      state := .idle, origin := none, phrase := none, number := none, phraseTimer := none, gen := none
      slot := if missing then a.slot else some .gateOff }
  else a

/-- Both generators IDLE and every amplifier ungated. -/
def State.silenced (s : State) : State :=
  s.onAnn fun a => { a with
    gen0 := none, gen1 := none, mark := true
    amps := a.amps.map fun e => (e.1, e.2.ungated (s.missing e.2.station)) }

theorem callClosingAborted_eq (s : State) : callClosingAborted (s.onAnn fun u =>
      { u with closing := .aborted, startTime := none, nextStep := none, waitGen := false, waitFloors := 0, mark := true }) =
    departures s.abandoned := by
  have hringers := CallUnit.stopFrom_ringers (s.call.withdraw (· == .closing)) .closing
  have hlength : ∀ a b : Nat, decide (a ≠ b) = (a != b) := fun a b => by rw [Bool.eq_iff_iff]; simp
  unfold callClosingAborted State.onCall
  dsimp only [State.onAnn]
  rw [hringers]
  unfold CallUnit.withdraw
  dsimp only
  rw [hlength]
  rfl

/-- The amplifiers owed a fire phrase, their gates ended by an abandonment (R148). -/
def State.dueOnceIdle (s : State) : List Nat :=
  (s.ann.amps.filter fun e => decide (e.2.state = .gated) && e.2.owed && !s.missing e.2.station).map Prod.fst

theorem issuing_of_fire {s t : State} (h : t.fire = s.fire) : t.issuing = s.issuing := by
  unfold State.issuing State.anyFull
  rw [h]

theorem missing_of_reg {s t : State} (h : t.reg = s.reg) : t.missing = s.missing := by
  funext a
  unfold State.missing
  rw [h]

theorem stopGenerators_silenced {s : State} (hmark : s.ann.mark = true) :
    gateOffWhere (fun a => a.state == .gated) (stopGenerators s) = s.silenced := by
  have hgenerators : stopGenerators s = s.onAnn fun a => { a with gen0 := none, gen1 := none, mark := true } := by
    unfold stopGenerators State.onAnn
    beta_reduce
    rw [hmark]
    rfl
  rw [hgenerators, gateOffWhere_gated]
  rfl

theorem abandonClosing_eq (s : State) : abandonClosing s =
    if s.issuing = true then s.dueOnceIdle.foldl (fun v f => giveFirePhrase f v) (departures s.abandoned).silenced
    else (departures s.abandoned).silenced := by
  obtain ⟨-, hreg, -, hfire, -, -, hann, -, -⟩ := departures_keeps s.abandoned
  have hissuing : (stopGenerators (departures s.abandoned)).issuing = s.issuing := issuing_of_fire hfire
  have hmissing : (stopGenerators (departures s.abandoned)).missing = s.missing := missing_of_reg hreg
  have hdue : owedGated (stopGenerators (departures s.abandoned)) = s.dueOnceIdle := by
    show tkeys (departures s.abandoned).ann.amps _ = _
    rw [hann, hmissing]
    refine congrArg (List.map Prod.fst) (List.filter_congr fun e _ => ?_)
    beta_reduce
    rw [beq_eq_decide]
  rw [abandonClosing]
  rw [callClosingAborted_eq, gatesOff, hissuing, hdue, stopGenerators_silenced (by rw [hann]; rfl)]
  split <;> rfl

/-! ## What an abandonment leaves -/

/-- The closing is ABORTED with everything of it withdrawn; the clock and the programme stand as in `a`. -/
structure Announce.Aborted (a b : Announce) : Prop where
  closing : b.closing = .aborted
  startTime : b.startTime = none
  nextStep : b.nextStep = none
  waitGen : b.waitGen = false
  waitFloors : b.waitFloors = 0
  gen0 : b.gen0 = none
  gen1 : b.gen1 = none
  ungated : ∀ e ∈ b.amps, e.2.state ≠ .gated
  clock : b.clock = a.clock
  programme : b.programme = a.programme

theorem leaveGate_of_silent {s : State} (h0 : s.ann.gen0 = none) (h1 : s.ann.gen1 = none) (f : Nat) (a : Amp) :
    leaveGate f a s = s := by
  have hgen : ∀ g, s.ann.gen g = none := by
    intro g
    unfold Announce.gen
    split <;> [exact h0; exact h1; rfl]
  have hset : ∀ g, s.ann.setGen g none = s.ann := by
    intro g
    unfold Announce.setGen
    split
    · rw [← h0]
    · rw [← h1]
    · rfl
  unfold leaveGate
  split
  next g _ =>
    have hstill : (s.onAnn fun u => u.setGen g ((u.gen g).map fun p => { p with gated := dropBit p.gated f })) = s := by
      unfold State.onAnn
      beta_reduce
      rw [hgen, Option.map_none, hset]
    rw [hstill, trySounding, hgen]
  · rfl

theorem giveFirePhrase_aborted {a : Announce} {s : State} (h : a.Aborted s.ann) (f : Nat) :
    a.Aborted (giveFirePhrase f s).ann := by
  unfold giveFirePhrase
  split
  · exact h
  · unfold placePhrase
    split
    · exact h
    · dsimp only
      rw [leaveGate_of_silent (by exact h.gen0) (by exact h.gen1)]
      refine ⟨h.closing, h.startTime, h.nextStep, h.waitGen, h.waitFloors, h.gen0, h.gen1, fun e he => ?_, h.clock, h.programme⟩
      change e ∈ tmod s.ann.amps f _ at he
      rw [tmod_eq_map] at he
      obtain ⟨x, hx, rfl⟩ := List.mem_map.mp he
      split
      · exact nofun
      · exact h.ungated x hx

theorem abandonClosing_aborted (s : State) : s.ann.Aborted (abandonClosing s).ann := by
  have hsilenced : s.ann.Aborted (departures s.abandoned).silenced.ann := by
    obtain ⟨-, -, -, -, -, -, hann, -, -⟩ := departures_keeps s.abandoned
    show s.ann.Aborted { (departures s.abandoned).ann with gen0 := none, gen1 := none, mark := true, amps := _ }
    rw [hann]
    refine ⟨rfl, rfl, rfl, rfl, rfl, rfl, rfl, fun e he => ?_, rfl, rfl⟩
    obtain ⟨x, -, rfl⟩ := List.mem_map.mp he
    unfold Amp.ungated
    dsimp only
    split <;> [exact nofun; assumption]
  rw [abandonClosing_eq]
  split
  · exact foldl_of_step (p := fun v => s.ann.Aborted v.ann) (fun v f h => giveFirePhrase_aborted h f) _ hsilenced
  · exact hsilenced

theorem abandonClosing_call (s : State) : (abandonClosing s).call = (departures s.abandoned).call := by
  rw [abandonClosing_eq]
  split
  · exact foldl_keep State.call _ (fun s f => by simp) _ _
  · rfl

/-- The step check takes no step before its offset (R143). -/
theorem stepChecks_of_early {s : State} {t0 i : Nat} {st : Step} (n : Nat) (hclosing : s.ann.closing = .running)
    (hstart : s.ann.startTime = some t0) (hnext : s.ann.nextStep = some i) (hstep : tget s.ann.programme i = some st)
    (hearly : s.now - t0 < st.offset) : stepChecks n s = s := by
  cases n with
  | zero => rfl
  | succ n =>
    rw [stepChecks, hclosing, hstart, hnext]
    dsimp only
    rw [hstep]
    exact if_pos hearly

/-- Settles O31: the refusals in order, the start, and what an abandonment leaves. -/
theorem closingRequestsAnswer : Obligations.ClosingRequestsAnswer := by
  intro src tag s htakes harmed u begin' abort
  have harmed' : u.armed = true := (panelHeard_armed src s).trans harmed
  have hann : u.ann = s.ann := by simp [u]
  have hfull : u.anyFull = s.anyFull := panelHeard_anyFull src s
  have hbegin : ∀ c v, beginClosingResult u = { state := v, code := c, data := [] } → begin' c v :=
    fun _ _ h => answersAs_exec rfl rfl htakes h
  have habort : ∀ c v, abortClosingResult u = { state := v, code := c, data := [] } → abort c v :=
    fun _ _ h => answersAs_exec rfl rfl htakes h
  rw [← hann, ← hfull]
  clear_value u
  have hbody : beginClosingResult u = _ := whenArmed_of_armed harmed' _
  have hbody' : abortClosingResult u = _ := whenArmed_of_armed harmed' _
  refine ⟨fun hrunning => hbegin _ _ (hbody.trans (if_pos hrunning)), fun hnot => ⟨fun hany => hbegin _ _ (hbody.trans ?_),
    fun hany => ⟨fun hnil => hbegin _ _ (hbody.trans ?_), fun i st rest hcons => ?_⟩⟩,
    fun hover => habort _ _ (hbody'.trans (if_pos hover)), fun hopen => ?_⟩
  · rw [if_neg hnot, if_pos hany]; rfl
  · rw [if_neg hnot, hany, if_neg Bool.false_ne_true, if_pos hnil]; rfl
  · have hstart : beginClosingResult u = accept (startClosing u) := by
      rw [hbody, if_neg hnot, hany, if_neg Bool.false_ne_true, if_neg (by rw [hcons]; exact List.cons_ne_nil _ _)]
    have hstarted : startClosing u = stepCheck (u.onAnn fun a =>
        { a with closing := .running, startTime := some u.now, nextStep := some i, waitGen := false,
                 waitFloors := 0, mark := true }) := by
      rw [startClosing, hcons]
    refine ⟨fun hlater => hbegin _ _ (hstart.trans (congrArg accept (hstarted.trans ?_))),
      fun _ => hbegin _ _ (hstart.trans (congrArg accept hstarted))⟩
    refine stepChecks_of_early 33 rfl rfl rfl (i := i) (st := st) ?_ ?_
    · show tget u.ann.programme i = some st
      rw [hcons, tget, if_pos rfl]
    · show u.now - u.now < st.offset
      omega
  · have hclosing : ¬(u.ann.closing = .finished ∨ u.ann.closing = .aborted) := by
      rcases hopen with h | h <;> simp [h]
    have haborted := abandonClosing_aborted u
    have hwithout : (departures u.abandoned).call.Without (· == .closing) := by
      refine departures_without (fun _ _ => rfl) ⟨fun r hr => by simpa using (List.mem_filter.mp hr).2, ?_⟩
      have h := (CallUnit.withdraw_without u.call (· == .closing)).rings
      rw [CallUnit.stopFrom_ringers] at h
      exact h
    refine ⟨abandonClosing u, habort _ _ (hbody'.trans (if_neg hclosing)), haborted.closing, haborted.startTime,
      haborted.nextStep, haborted.waitGen, haborted.waitFloors, haborted.gen0, haborted.gen1, haborted.ungated,
      haborted.clock, haborted.programme, ?_, ?_, ?_, ?_, ?_, ?_, ?_, ?_, ?_, ?_⟩
    · rw [abandonClosing_call, (departures_served _).closingLevel]; rfl
    · rw [abandonClosing_call]
      exact fun r hr => by simpa using hwithout.queue r hr
    · rw [abandonClosing_call]
      exact fun g hg r hr => by simpa using hwithout.rings g hg r hr
    all_goals simp

end Sys2Proof.Machine
end
section
/-! SUPPORT. The pass in flight at the end of an event, and Board Mode by the current mode. -/

namespace Sys2Proof.Machine

/-! ## The board at the end of an event -/

/-- What neither the Line Unit's own fields nor a notice touches, the Port A arbiter leaves. -/
theorem arbiterA_of_notice {β : Type} {p : State → β} (hline : ∀ (s : State) f, p (s.onLine f) = p s)
    (hnotice : ∀ (s t : State) f, takeNotice s = some (f, t) → p t = p s) (s : State) : p (arbiterA s) = p s := by
  have hlocal : ∀ t, takeLocal s = some t → p t = p s := by
    intro t h
    unfold takeLocal at h
    dsimp only at h
    split at h
    · cases h; exact (hline _ _).trans (hline _ _)
    · obtain ⟨⟨f, u⟩, hu, rfl⟩ := Option.map_eq_some_iff.mp h
      exact (hline _ _).trans (hnotice _ _ f hu)
  have hreport : ∀ f rest, p (takeReport f rest s) = p s := fun f rest => by
    unfold takeReport sendA
    exact (hline _ _).trans (hline _ _)
  unfold arbiterA
  split
  · rfl
  · split
    · cases h : takeLocal s with
      | none => rfl
      | some t => exact hlocal t h
    · split
      · exact hreport _ _
      · split
        next t h => exact hlocal t h
        next => exact hreport _ _

theorem takeNotice_pass (s t : State) (f : Frame) (h : takeNotice s = some (f, t)) : t.board.pass = s.board.pass := by
  unfold takeNotice at h
  (repeat' split at h) <;> cases h <;> rfl

theorem marked_board (b s : State) : (marked b s).board = { s.board with image := (marked b s).board.image } := by
  have hboard : (arbiterB 128 s).board = s.board := by simp
  calc (marked b s).board = { (arbiterB 128 s).board with image := (marked b s).board.image } := rfl
    _ = _ := by rw [hboard]

/-- A board that does not wait keeps its pass to the end of the event. -/
theorem settle_pass {s : State} (h : s.board.pass.isSome = true ∨ s.board.mode ≠ .scanning) (b : State) :
    (settle b s).board.pass = s.board.pass := by
  rw [settle_eq, arbiterA_of_notice (p := fun s => s.board.pass) (fun _ _ => rfl) takeNotice_pass, State.onBoard_board,
    marked_board, Board.wake, if_neg]
  rintro ⟨-, hmode, hpass⟩
  rcases h with h | h
  · rw [show s.board.pass = none from hpass] at h; cases h
  · exact h hmode

/-! ## Passes that start -/

section
variable {b : Board} {o : OnTimes}

theorem startScan_of_settings (h : b.settings = some o) : b.startScan =
    { b with pass := if (planPass b o .scan).plan = [] then none else some (planPass b o .scan) } := by
  simp only [Board.startScan, h]
  split <;> rfl

theorem startTest_of_plan (h : b.settings = some o) (hplan : (planPass b o .test).plan ≠ []) :
    b.startTest = { b with pass := some (planPass b o .test) } := by
  simp only [Board.startTest, h, if_neg hplan]

theorem startTest_of_empty (h : b.settings = some o) (hplan : (planPass b o .test).plan = []) :
    b.startTest = b.completeTest (planPass b o .test) := by
  simp only [Board.startTest, h, if_pos hplan]

theorem startScan_keeps (b : Board) : b.startScan.mode = b.mode ∧ b.startScan.returnMode = b.returnMode ∧
    b.startScan.record = b.record := by
  unfold Board.startScan
  split
  · exact ⟨rfl, rfl, rfl⟩
  · dsimp only
    split <;> exact ⟨rfl, rfl, rfl⟩

/-- A test pass completed: the mode is the return mode, which is then absent, and the pass number is raised (R132, R133). -/
theorem completeTest_keeps (b : Board) (p : Pass) : (b.completeTest p).mode = b.returnMode.getD .dark ∧
    (b.completeTest p).returnMode = none ∧ (b.completeTest p).record.number = (b.record.number + 1) % 65536 := by
  unfold Board.completeTest
  dsimp only
  split
  · obtain ⟨hmode, hreturn, hrecord⟩ := startScan_keeps { b.recordPass p with
      testDone := true
      mark := true
      returnMode := none
      mode := b.returnMode.getD .dark }
    exact ⟨hmode, hreturn, congrArg PassRecord.number hrecord⟩
  · exact ⟨rfl, rfl, rfl⟩

end

/-! ## Board Mode (R131) -/

/-- The board in TEST, with the mode it returns to. -/
def Board.testing (b : Board) (r : BoardMode) : Board := { b with mode := .test, returnMode := some r }

section
variable {b : Board} {o : OnTimes}

theorem setMode_same {m : BoardMode} (h : b.mode = m) (hm : m ≠ .test) : b.setMode m = b := by
  subst h
  unfold Board.setMode
  cases h : b.mode with
  | dark | scanning => rfl
  | test => exact absurd h hm

theorem setMode_dark (h : b.mode ≠ .dark) : b.setMode .dark = b.dark := by
  unfold Board.setMode
  cases hcur : b.mode with
  | dark => exact absurd hcur h
  | scanning | test => rfl

theorem setMode_scanning_of_test (h : b.mode = .test) : b.setMode .scanning = { b with returnMode := some .scanning } := by
  simp only [Board.setMode, h]

theorem setMode_scanning_of_dark (h : b.mode = .dark) (ho : b.settings = some o) : b.setMode .scanning =
    { b with mode := .scanning
             pass := if (planPass b o .scan).plan = [] then none else some (planPass b o .scan) } := by
  simp only [Board.setMode, h]
  exact startScan_of_settings (b := { b with mode := .scanning }) ho

theorem setMode_test_of_flight (h : b.mode = .scanning) (hpass : b.pass.isSome = true) :
    b.setMode .test = b.testing .scanning := by
  simp only [Board.setMode, h, if_pos hpass]
  rfl

/-- With no pass in flight a test pass starts at once. -/
theorem setMode_test (h : b.mode = .dark ∨ (b.mode = .scanning ∧ b.pass = none)) :
    b.setMode .test = (b.testing b.mode).startTest := by
  rcases h with h | ⟨h, hpass⟩
  · simp only [Board.setMode, h, Board.testing]
  · simp only [Board.setMode, h, Board.testing, hpass, Option.isSome_none, Bool.false_eq_true, if_false]

theorem setMode_test_of_plan (h : b.mode = .dark ∨ (b.mode = .scanning ∧ b.pass = none)) (ho : b.settings = some o)
    (hplan : (planPass b o .test).plan ≠ []) :
    b.setMode .test = { b.testing b.mode with pass := some (planPass b o .test) } :=
  (setMode_test h).trans (startTest_of_plan (b := b.testing b.mode) ho hplan)

theorem setMode_test_of_empty (h : b.mode = .dark ∨ (b.mode = .scanning ∧ b.pass = none)) (ho : b.settings = some o)
    (hplan : (planPass b o .test).plan = []) : (b.setMode .test).mode = b.mode ∧ (b.setMode .test).returnMode = none ∧
      (b.setMode .test).record.number = (b.record.number + 1) % 65536 := by
  rw [(setMode_test h).trans (startTest_of_empty (b := b.testing b.mode) ho hplan)]
  exact completeTest_keeps (b.testing b.mode) _

end

theorem boardModeOf_of_lt {n : Nat} (h : 2 < n) : boardModeOf n = none := by
  match n, h with
  | n + 3, _ => rfl

theorem setBoardMode_of {u : State} {n : Nat} {m : BoardMode} (hm : boardModeOf n = some m)
    (hsettings : m = .dark ∨ u.board.settings.isSome = true) (hbusy : ¬(m = .test ∧ u.board.mode = .test)) :
    boardModeResult n u =
      { state := (refreshImage u).onBoard (Board.setMode m), code := .ok
        data := [named boardModes (Board.setMode m (refreshImage u).board).mode] } := by
  have hset : ¬(m ≠ .dark ∧ u.board.settings = none) := by
    rintro ⟨hne, hnone⟩
    rcases hsettings with h | h
    · exact hne h
    · rw [hnone] at h; cases h
  simp only [boardModeResult, setBoardMode, hm, if_neg hset, if_neg hbusy]
  rfl

/-- Settles O32: each mode asked for by the current mode, with the pass that follows. -/
theorem boardModeAnswers : Obligations.BoardModeAnswers := by
  intro src tag mode s htakes u b now p answer passAfter
  have hboard : u.board = s.board := by simp [u]
  have hanswer : ∀ c d v, boardModeResult mode.toNat u = { state := v, code := c, data := d } → answer c d v :=
    fun _ _ _ h => answersAs_exec rfl rfl htakes h
  have hexec : exec (.boardMode src tag mode) s =
      .next (settle s (executeRequest src tag 23 (boardModeResult mode.toNat) u)) :=
    (exec_request (c := .boardMode src tag mode) rfl rfl s).trans
      (congrArg (finish s) (requestArrives_of_takes htakes ..))
  have hpass : ∀ m q, (boardModeResult mode.toNat u).state = now.onBoard (Board.setMode m) →
      (Board.setMode m now.board).pass = q → (q.isSome = true ∨ (Board.setMode m now.board).mode ≠ .scanning) →
      passAfter q := by
    intro m q hstate hq hwait
    have hend : (executeRequest src tag 23 (boardModeResult mode.toNat) u).board = Board.setMode m now.board := by
      show (boardModeResult mode.toNat u).state.board = _
      rw [hstate]
      rfl
    refine ⟨_, hexec, (settle_pass ?_ s).trans ?_⟩
    · rw [hend, hq]; exact hwait
    · rw [hend, hq]
  have hb : u.board = b := hboard
  clear_value b u
  subst hb
  have hbody : ∀ m, boardModeOf mode.toNat = some m → (m = .dark ∨ u.board.settings.isSome = true) →
      ¬(m = .test ∧ u.board.mode = .test) → ∀ w, Board.setMode m now.board = w →
        (∀ k, w.mode = k → answer .ok [named boardModes k] (now.onBoard fun _ => w)) ∧
          (w.pass.isSome = true ∨ w.mode ≠ .scanning → passAfter w.pass) := by
    intro m hm hsettings hbusy w hw
    have h := setBoardMode_of hm hsettings hbusy
    subst hw
    exact ⟨fun k hk => hk ▸ hanswer _ _ _ h, hpass m _ (congrArg Result.state h) rfl⟩
  refine ⟨fun hmode => hanswer _ _ _ ?_, fun hmode hnone => hanswer _ _ _ ?_, fun hmode hsome htest => hanswer _ _ _ ?_,
    fun hmode => ?_, fun o ho => ⟨fun hmode => ?_, fun hmode => ?_⟩⟩
  · simp only [boardModeResult, setBoardMode, boardModeOf_of_lt hmode]
    rfl
  · rcases hmode with hmode | hmode <;> simp [boardModeResult, setBoardMode, hmode, boardModeOf, hnone, refuse]
  · have hne : u.board.settings ≠ none := Option.isSome_iff_ne_none.mp hsome
    simp [boardModeResult, setBoardMode, hmode, boardModeOf, hne, htest, refuse]
  · have hset : ∀ w, Board.setMode .dark now.board = w → _ :=
      hbody .dark (by rw [hmode]; rfl) (.inl rfl) (by simp)
    refine ⟨fun hdark => ?_, fun hnot => ?_⟩
    · obtain ⟨h, -⟩ := hset _ (setMode_same (b := now.board) hdark nofun)
      exact h .dark hdark
    · obtain ⟨h, hpass⟩ := hset _ (setMode_dark (b := now.board) hnot)
      exact ⟨hpass (.inr nofun), h .dark rfl⟩
  · have hset : ∀ w, Board.setMode .scanning now.board = w → _ :=
      hbody .scanning (by rw [hmode]; rfl) (.inr (by rw [ho]; rfl)) (by simp)
    refine ⟨fun hscanning => ?_, fun htest => ?_, fun hdark => ?_⟩
    · obtain ⟨h, -⟩ := hset _ (setMode_same (b := now.board) hscanning nofun)
      exact h .scanning hscanning
    · obtain ⟨h, -⟩ := hset _ (setMode_scanning_of_test (b := now.board) htest)
      exact h .test htest
    · obtain ⟨h, hpass⟩ := hset _ (setMode_scanning_of_dark (b := now.board) hdark ho)
      refine ⟨h .scanning rfl, fun hplan => ?_⟩
      have hstarts : (if (p o .scan).plan = [] then none else some (p o .scan)) = some (p o .scan) := if_neg hplan
      rw [← hstarts]
      refine hpass (.inl ?_)
      show (if (p o .scan).plan = [] then none else some (p o .scan)).isSome = true
      rw [hstarts]
      rfl
  · have hset : u.board.mode ≠ .test → ∀ w, Board.setMode .test now.board = w → _ := fun hnot =>
      hbody .test (by rw [hmode]; rfl) (.inr (by rw [ho]; rfl)) (by simpa using hnot)
    have hempty : ∀ m, u.board.mode = m → m ≠ .test → (m = .dark ∨ (m = .scanning ∧ u.board.pass = none)) →
        (p o .test).plan = [] → ∃ v, answer .ok [named boardModes m] v ∧ v.board.mode = m ∧ v.board.returnMode = none ∧
          v.board.record.number = (u.board.record.number + 1) % 65536 := by
      rintro m rfl hm hfree hplan
      obtain ⟨hmode', hreturn, hnumber⟩ := setMode_test_of_empty (b := now.board) hfree ho hplan
      obtain ⟨h, -⟩ := hset hm _ rfl
      exact ⟨_, h _ hmode', hmode', hreturn, hnumber⟩
    refine ⟨fun hdark hplan => ?_, fun hdark hplan => hempty .dark hdark nofun (.inl rfl) hplan,
      fun hscanning hflight => ?_, fun hscanning hnone hplan => ?_,
      fun hscanning hnone hplan => hempty .scanning hscanning nofun (.inr ⟨rfl, hnone⟩) hplan⟩
    · obtain ⟨h, hpass⟩ := hset (by rw [hdark]; nofun) _ (setMode_test_of_plan (b := now.board) (.inl hdark) ho hplan)
      refine ⟨hpass (.inl rfl), ?_⟩
      rw [show now.board.mode = .dark from hdark] at h
      exact h .test rfl
    · obtain ⟨h, hpass⟩ := hset (by rw [hscanning]; nofun) _ (setMode_test_of_flight (b := now.board) hscanning hflight)
      exact ⟨hpass (.inl hflight), h .test rfl⟩
    · obtain ⟨h, hpass⟩ := hset (by rw [hscanning]; nofun) _
        (setMode_test_of_plan (b := now.board) (.inr ⟨hscanning, hnone⟩) ho hplan)
      refine ⟨hpass (.inl rfl), ?_⟩
      rw [show now.board.mode = .scanning from hscanning] at h
      exact h .test rfl

end Sys2Proof.Machine
end
section
/-! SUPPORT. Panel orders at their arrival: judged, forwarded, noted by their owner, or vetoed (R11 to R13, R89 to R92,
R118, R155, R173, R174). -/

namespace Sys2Proof.Machine

/-! ## An order that is taken -/

section
variable {c : Instr} {o : Order} {s u v : State}

theorem exec_order_taken (hc : orderParts c = some o) (h : s.takesOrder o.head) :
    exec c s = finish s (filterOrder o (panelHeard o.head.src s)) := by
  obtain ⟨hdst, hsrc, hfrom, hroute⟩ := h
  rw [exec_order hc, orderArrives, if_neg (not_or.mpr ⟨hdst, hsrc⟩), if_pos hfrom]
  dsimp only
  rw [if_pos hroute]

/-- An order that is taken ends the event as the Order Filter leaves the state in which the panel is heard. -/
theorem endsAs_order (hc : orderParts c = some o) (h : s.takesOrder o.head)
    (hfilter : filterOrder o (panelHeard o.head.src s) = v) : EndsAs (exec c s) v :=
  exec_order_taken hc h ▸ endsAs_finish_of_eq hfilter

/-- The judgment of an order whose destination is known, by its owner (R173). -/
def Order.judged (o : Order) (s : State) : Verdict :=
  match o.body with
  | .poll => .veto .forbiddenKind
  | .run => match s.runVeto with
    | some r => .veto r
    | none => .pass
  | .halt => .pass
  | .rest =>
    if !s.armed then .pass
    else if s.pat.state = .running ∨ s.pat.state = .runout then .consume
    else .veto .chainNotIdle
  | .stopAt _ | .cut => if s.armed then .veto .forbiddenKind else .pass
  | .drop => judgeDrop o.head.dst s
  | .raise => judgeRaise o.head.dst s
  | .phrase _ _ | .gate _ =>
    if s.armed && s.anyFull && !s.fire.silence then .veto .evacuation else .pass
  | .warn | .ring _ _ _ | .ringCancel => .pass

theorem judgeOrder_of_knows (h : s.knows o.head) : judgeOrder o s = o.judged s := by
  have hknown : (s.armed && o.head.dst != 255 && (tget s.reg.stations o.head.dst.toNat).isNone) = false := by
    cases harmed : s.armed with
    | false => rfl
    | true =>
      rcases h harmed with hall | hstation
      · simp [hall]
      · simp [hstation]
  rw [judgeOrder, hknown, if_neg Bool.false_ne_true]
  rfl

theorem judgeOrder_of_unknown (harmed : s.armed = true) (hdst : o.head.dst ≠ 255)
    (hnone : tget s.reg.stations o.head.dst.toNat = none) : judgeOrder o s = .veto .unknownStation := by
  rw [judgeOrder, if_pos (by rw [harmed, hnone, bne_iff_ne.mpr hdst]; rfl)]

theorem panelHeard_knows {src : Byte} {h : Hdr} (hk : s.knows h) : (panelHeard src s).knows h := by
  unfold State.knows
  rw [panelHeard_armed, panelHeard_stations]
  exact hk

theorem filterOrder_of_room (hj : judgeOrder o u = .pass) (hroom : u.line.orders.length < 16) :
    filterOrder o u = if u.armed then notePassed o (u.forwarding o) else u.forwarding o := by
  rw [filterOrder, hj]
  exact if_pos hroom

theorem filterOrder_of_full (hj : judgeOrder o u = .pass) (hfull : 16 ≤ u.line.orders.length) :
    filterOrder o u = u.onLine fun l => { l with forwardOverflow := true } := by
  rw [filterOrder, hj]
  exact if_neg (Nat.not_lt.mpr hfull)

theorem filterOrder_of_veto {r : VetoReason} (hj : judgeOrder o u = .veto r) :
    filterOrder o u = fillVeto o r .arrival u := by
  rw [filterOrder, hj]

end

/-! ## Orders that pass without judgment (R5, R89, R118, R155, R173) -/

theorem judgeDrop_of_shaftless {s : State} {dst : Byte} (hunarmed : s.armed = false)
    (hall : dst = 255 → s.anyShaft = false)
    (hone : ∀ i e, dst ≠ 255 → shutterAt s dst.toNat = some i → tget s.shut i = some e → e.kind ≠ .shaft) :
    judgeDrop dst s = .pass := by
  unfold judgeDrop
  split
  next h => simp [hunarmed, hall h]
  next h =>
    split
    · rfl
    next e he =>
      obtain ⟨i, hi, hget⟩ := Option.bind_eq_some_iff.mp he
      cases hkind : e.kind with
      | department => rfl
      | shaft => exact absurd hkind (hone i e h hi hget)

/-- Settles O33. -/
theorem plainOrdersPass : Obligations.PlainOrdersPass := by
  refine ⟨fun c o s hc htakes hroom => ?pass, fun c o s hc htakes hfull hjudge => ?full, fun h s htakes hknows hfull => ?halt⟩
  case pass =>
    intro u shaftless
    have hroom' : u.line.orders.length < 16 := by simpa [u] using hroom
    have hplain : (o.body = .warn ∨ o.body = .ringCancel) → notePassed o (u.forwarding o) = u.forwarding o := by
      rintro (h | h) <;> simp only [notePassed, h]
    refine ⟨fun hknows hbody => ?_, fun hunarmed hpoll hrun hdrop => ?_⟩
    · have hjudge : judgeOrder o u = .pass := by
        rw [judgeOrder_of_knows (panelHeard_knows hknows)]
        rcases hbody with h | h <;> simp only [Order.judged, h]
      refine endsAs_order hc htakes ((filterOrder_of_room hjudge hroom').trans ?_)
      rw [hplain hbody, ite_self]
    · have hunarmed' : u.armed = false := (panelHeard_armed _ s).trans hunarmed
      have hjudge : judgeOrder o u = .pass := by
        rw [judgeOrder_of_knows (fun h => by rw [hunarmed'] at h; cases h)]
        unfold Order.judged
        split
        next h => exact absurd h hpoll
        next h => exact absurd h hrun
        next => rfl
        next => rw [hunarmed']; rfl
        next => rw [hunarmed']; rfl
        next => rw [hunarmed']; rfl
        next h =>
          obtain ⟨hall, hone⟩ := hdrop h
          have hshut : u.shut = s.shut := by simp [u]
          refine judgeDrop_of_shaftless hunarmed' (fun h => ?_) fun i e h hi he => ?_
          · unfold State.anyShaft
            rw [hshut]
            exact hall h
          · unfold shutterAt at hi
            rw [hshut] at hi he
            exact hone i e h hi he
        next => rw [judgeRaise, hunarmed']; rfl
        next => rw [hunarmed']; rfl
        next => rw [hunarmed']; rfl
        all_goals rfl
      refine endsAs_order hc htakes ((filterOrder_of_room hjudge hroom').trans ?_)
      rw [hunarmed', if_neg Bool.false_ne_true]
  case full =>
    exact endsAs_order hc htakes (filterOrder_of_full hjudge (by simpa using hfull))
  case halt =>
    have hjudge : judgeOrder ⟨h, .halt⟩ (panelHeard h.src s) = .pass := judgeOrder_of_knows (panelHeard_knows hknows)
    exact ⟨hjudge, endsAs_order (o := ⟨h, .halt⟩) rfl htakes (filterOrder_of_full hjudge (by simpa using hfull))⟩

/-! ## A panel Run, Halt or Rest (R11 to R13) -/

section
variable {s : State}

theorem shaftsOpen_iff (s : State) : s.shaftsOpen = true ↔ ∀ e ∈ s.shut, e.2.kind = .shaft → e.2.state = .open := by
  simp only [State.shaftsOpen, List.all_eq_true, Bool.or_eq_true, bne_iff_ne, beq_iff_eq]
  exact forall₂_congr fun e _ => by tauto

theorem drivePresent_iff (s : State) : s.driveStation.any s.present = true ↔
    ∃ a e, s.driveStation = some a ∧ tget s.reg.stations a = some e ∧ e.presence = .present := by
  simp only [State.present, Option.any_eq_true, beq_iff_eq]
  constructor
  · rintro ⟨a, ha, e, he, hp⟩; exact ⟨a, e, ha, he, hp⟩
  · rintro ⟨a, e, ha, he, hp⟩; exact ⟨a, ha, e, he, hp⟩

/-- What an unsent order makes of the slot, for every order but a Cut (R7). -/
theorem placed_of_ne {o : DriveOrder} (h : o ≠ .cut) (p : Paternoster) :
    p.placed o = if p.slot = some .cut then p.slot else some o := by
  simp only [Paternoster.placed, h, ne_eq, not_false_eq_true, and_true]

theorem beginStop_of_empty {p : Paternoster} {g : Geometry} (hg : p.geometry = some g)
    (hempty : searchedLandings p .rest = []) (st : PatState) : p.beginStop .rest st =
      { p with state := st, revs := none, stopTimer := some (secs g.stopTimeout)
               slot := if p.slot = some .cut then p.slot else some .halt
               stop := some { target := none, searched := none, halted := false } } := by
  simp only [Paternoster.beginStop, hg, place_eq, placed_of_ne (show DriveOrder.halt ≠ .cut by nofun)]
  exact if_pos ⟨trivial, hempty⟩

theorem beginStop_of_searched {p : Paternoster} {g : Geometry} (hg : p.geometry = some g) {k : SearchSet}
    (hsome : k = .rest → searchedLandings p .rest ≠ []) (st : PatState) : p.beginStop k st =
      { p with state := st, revs := none, stopTimer := some (secs g.stopTimeout)
               slot := if p.slot = some .cut then p.slot else some (.stopAt (stopTarget g p k).1)
               removed := (stopTarget g p k).2
               stop := some { target := some (stopTarget g p k).1, searched := some k, halted := false } } := by
  have hne : ∀ t, DriveOrder.stopAt t ≠ .cut := fun _ => nofun
  simp only [Paternoster.beginStop, hg, place_eq, placed_of_ne (hne _)]
  exact if_neg fun h => hsome h.1 h.2

end

theorem withdrawStopAt_eq (p : Paternoster) : p.withdrawStopAt = { p with
    slot := match p.slot with
      | some (.stopAt _) => none
      | x => x } := by
  obtain ⟨_, _, _, _, _, _, _, _, _, _, _, _, _, _, slot, _⟩ := p
  cases slot with
  | none => rfl
  | some o => cases o <;> rfl

theorem searchedLandings_rest_eq_nil {p : Paternoster} :
    searchedLandings p .rest = [] ↔ ∀ e ∈ p.landings, e.2.restClear = false := by
  simp [searchedLandings]

/-- Settles O34: a Run, a Halt by the state, and a Rest that the Monitor acts on in the panel's place. -/
theorem paternosterOrdersNoted : Obligations.PaternosterOrdersNoted := by
  refine ⟨fun h s htakes hknows hroom harmed hidle hfull hopen hdrive => ?run, fun h s htakes hknows harmed => ?others⟩
  case run =>
    have harmed' : (panelHeard h.src s).armed = true := (panelHeard_armed _ s).trans harmed
    have hpat : (panelHeard h.src s).pat = s.pat := by simp
    have hjudge : judgeOrder ⟨h, .run⟩ (panelHeard h.src s) = .pass := by
      rw [judgeOrder_of_knows (o := ⟨h, .run⟩) (panelHeard_knows hknows)]
      have hveto : (panelHeard h.src s).runVeto = none := by
        have hpresent : (panelHeard h.src s).present = s.present := funext (panelHeard_present _ s)
        rw [State.runVeto, harmed', hpat, hidle, panelHeard_anyFull, hfull, panelHeard_shaftsOpen,
          (shaftsOpen_iff s).mpr hopen, panelHeard_driveStation, hpresent, (drivePresent_iff s).mpr hdrive]
        rfl
      simp only [Order.judged, hveto]
    refine endsAs_order (o := ⟨h, .run⟩) rfl htakes ((filterOrder_of_room hjudge (by simpa using hroom)).trans ?_)
    rw [harmed']
    rfl
  case others =>
    intro u f
    have harmed' : u.armed = true := (panelHeard_armed _ s).trans harmed
    have hpat : u.pat = s.pat := by simp [u]
    have hline : u.line = s.line := by simp [u]
    have hends : ∀ v, filterOrder ⟨h, .halt⟩ u = v → EndsAs (exec (.haltOrder h) s) v :=
      fun _ => endsAs_order (o := ⟨h, .halt⟩) rfl htakes
    have hends' : ∀ v, filterOrder ⟨h, .rest⟩ u = v → EndsAs (exec (.restOrder h) s) v :=
      fun _ => endsAs_order (o := ⟨h, .rest⟩) rfl htakes
    have hknows' : u.knows h := panelHeard_knows hknows
    rw [← hpat, ← hline]
    clear_value u
    refine ⟨fun hroom => ?_, fun g hg hstate => ?_⟩
    · have hnoted : filterOrder ⟨h, .halt⟩ u = noteHalt f := by
        rw [filterOrder_of_room (judgeOrder_of_knows (o := ⟨h, .halt⟩) hknows') hroom, harmed']
        rfl
      have hstate : f.pat.state = u.pat.state := rfl
      refine ⟨fun hidle => hends _ (hnoted.trans ?_), fun hstop => hends _ (hnoted.trans ?_),
        fun hother => hends _ (hnoted.trans ?_)⟩
      · rw [noteHalt, hstate, hidle]
      · have hhalted : noteHalt f = f.onPat fun p => p.withdrawStopAt.haltStop := by
          rw [noteHalt, hstate]
          rcases hstop with h | h <;> rw [h]
        rw [hhalted]
        refine congrArg (fun p => { f with pat := p }) ?_
        show f.pat.withdrawStopAt.haltStop = _
        rw [withdrawStopAt_eq]
        rfl
      · rw [noteHalt, hstate]
        rcases hother with h | h | h | h | h <;> rw [h]
    · have hjudge : judgeOrder ⟨h, .rest⟩ u = .consume := by
        rw [judgeOrder_of_knows (o := ⟨h, .rest⟩) hknows']
        simp only [Order.judged, harmed', if_pos hstate]
        rfl
      have hrest : filterOrder ⟨h, .rest⟩ u = u.onPat fun p => p.beginStop .rest .resting := by
        rw [filterOrder, hjudge]
        rfl
      refine ⟨fun hnone => hends' _ (hrest.trans (congrArg (fun p => { u with pat := p }) ?_)),
        fun hsome => hends' _ (hrest.trans (congrArg (fun p => { u with pat := p }) ?_))⟩
      · exact beginStop_of_empty hg (searchedLandings_rest_eq_nil.mpr hnone) _
      · refine beginStop_of_searched hg (fun _ => mt searchedLandings_rest_eq_nil.mp ?_) _
        obtain ⟨e, he, hclear⟩ := hsome
        exact fun hall => by rw [hall e he] at hclear; cases hclear

end Sys2Proof.Machine
end
section
/-! SUPPORT. A panel Drop or Raise, a panel Ring, Phrase or Gate, and the vetoes of panel orders at their arrival. -/

namespace Sys2Proof.Machine

/-! ## A panel Drop or Raise (R89 to R92) -/

section
variable {s : State} {dst : Byte} {i : Nat} {e : Shutter}

theorem judgeDrop_of_shutter (hdst : dst ≠ 255) (hi : shutterAt s dst.toNat = some i) (he : tget s.shut i = some e) :
    judgeDrop dst s = match e.kind with
      | .department => .pass
      | .shaft => match shaftDropVeto s e with
        | some r => .veto r
        | none => .pass := by
  rw [judgeDrop, if_neg hdst, hi, Option.bind_some, he] <;> rfl

theorem judgeDrop_of_no_shutter (hdst : dst ≠ 255) (hnone : shutterAt s dst.toNat = none) : judgeDrop dst s = .pass := by
  rw [judgeDrop, if_neg hdst, hnone]
  rfl

theorem onShutter_id {f : Shutter → Shutter} (hkeys : (s.shut.map Prod.fst).Nodup) (he : tget s.shut i = some e)
    (h : f e = e) : onShutter s i f = s := by
  have hid : tmod s.shut i (fun e => e) = s.shut := by
    rw [tmod_eq_map]
    exact (List.map_congr_left fun x _ => ite_self x).trans (List.map_id _)
  rw [onShutter_congr (g := fun e => e) hkeys he h, onShutter, State.onShut, hid]

/-- The judgment of a panel Raise to a shutter's own station while ARMED, by its record (R92). -/
def Shutter.raiseVerdict (s : State) (e : Shutter) : Verdict :=
  match e.state with
  | .awaitClear | .warning | .descending => .veto .shutterNotOpen
  | .open | .raising => .pass
  | .unknown => if e.inZone s.zoneAlarm then .veto .zoneInAlarm else .pass
  | .closed | .obstructed => if s.raiseHeld e then .veto .zoneInAlarm else .pass
  | .faulted =>
    if s.missing e.station then .pass else if s.raiseHeld e then .veto .zoneInAlarm else .pass

theorem judgeRaise_of_shutter (harmed : s.armed = true) (hdst : dst ≠ 255) (hi : shutterAt s dst.toNat = some i)
    (he : tget s.shut i = some e) : judgeRaise dst s = e.raiseVerdict s := by
  rw [judgeRaise, harmed, if_neg (by simp), if_neg hdst, hi, Option.bind_some, he]
  rfl

theorem judgeRaise_of_no_shutter (harmed : s.armed = true) (hdst : dst ≠ 255) (hnone : shutterAt s dst.toNat = none) :
    judgeRaise dst s = .pass := by
  rw [judgeRaise, harmed, if_neg (by simp), if_neg hdst, hnone]
  rfl

theorem raiseHeld_eq_false (h : e.reason ≠ .fire ∨ e.inZone s.zoneAlarm = false) : s.raiseHeld e = false := by
  rcases h with h | h <;> simp [State.raiseHeld, h]

theorem raiseHeld_eq_true (hreason : e.reason = .fire) (hzone : e.inZone s.zoneAlarm = true) : s.raiseHeld e = true := by
  simp [State.raiseHeld, hreason, hzone]

end

/-- Settles O35. -/
theorem dropAndRaiseOrders : Obligations.DropAndRaiseOrders := by
  refine ⟨fun h s htakes hknows harmed hdst hroom hnone => ?alone, fun h i e s htakes hknows harmed hdst hroom hi he hkeys => ?own⟩
  case alone =>
    have hat : shutterAt (panelHeard h.src s) h.dst.toNat = none := by
      rw [← hnone]
      simp [shutterAt]
    have harmed' : (panelHeard h.src s).armed = true := (panelHeard_armed _ s).trans harmed
    have hroom' : (panelHeard h.src s).line.orders.length < 16 := by simpa using hroom
    have hknows' : (panelHeard h.src s).knows h := panelHeard_knows hknows
    have hforward : ∀ b, shutterAt ((panelHeard h.src s).forwarding ⟨h, b⟩) h.dst.toNat = none := fun _ => hat
    refine ⟨endsAs_order (o := ⟨h, .drop⟩) rfl htakes ?_, endsAs_order (o := ⟨h, .raise⟩) rfl htakes ?_⟩
    · rw [filterOrder_of_room ((judgeOrder_of_knows (o := ⟨h, .drop⟩) hknows').trans (judgeDrop_of_no_shutter hdst hat)) hroom',
        harmed', if_pos rfl]
      simp only [notePassed, hforward]
      rfl
    · rw [filterOrder_of_room ((judgeOrder_of_knows (o := ⟨h, .raise⟩) hknows').trans
        (judgeRaise_of_no_shutter harmed' hdst hat)) hroom', harmed', if_pos rfl]
      simp only [notePassed, hforward]
      rfl
  case own =>
    intro u gone
    have harmed' : u.armed = true := (panelHeard_armed _ s).trans harmed
    have hknows' : u.knows h := panelHeard_knows hknows
    have hmissing : u.missing = s.missing := funext (panelHeard_missing _ s)
    have hzone : u.zoneAlarm = s.zoneAlarm := funext (panelHeard_zoneAlarm _ s)
    have hpat : u.pat = s.pat := by simp [u]
    have hshut : u.shut = s.shut := by simp [u]
    have hat : shutterAt u h.dst.toNat = some i := by
      rw [← hi]
      simp [shutterAt, u]
    have hroom' : u.line.orders.length < 16 := by simpa [u] using hroom
    have hdrop : ∀ v, filterOrder ⟨h, .drop⟩ u = v → EndsAs (exec (.dropOrder h) s) v :=
      fun _ => endsAs_order (o := ⟨h, .drop⟩) rfl htakes
    have hraise : ∀ v, filterOrder ⟨h, .raise⟩ u = v → EndsAs (exec (.raiseOrder h) s) v :=
      fun _ => endsAs_order (o := ⟨h, .raise⟩) rfl htakes
    rw [← hshut] at he hkeys
    have hgone : gone ↔ (e.state = .unknown ∨ (e.state = .faulted ∧ u.missing e.station = true)) := by rw [hmissing]
    clear_value gone
    rw [← hpat, ← hmissing, ← hzone]
    clear_value u
    have hentry : ∀ b, tget (u.forwarding ⟨h, b⟩).shut i = some e := fun _ => he
    have hdropped : judgeOrder ⟨h, .drop⟩ u = .pass → filterOrder ⟨h, .drop⟩ u =
        onShutter (u.forwarding ⟨h, .drop⟩) i fun e => e.notePanelDrop (u.missing e.station) := by
      intro hjudge
      have hforward : shutterAt (u.forwarding ⟨h, .drop⟩) h.dst.toNat = some i := hat
      rw [filterOrder_of_room hjudge hroom', harmed', if_pos rfl]
      simp only [notePassed, hforward]
      rfl
    have hraised : judgeOrder ⟨h, .raise⟩ u = .pass → filterOrder ⟨h, .raise⟩ u =
        onShutter (u.forwarding ⟨h, .raise⟩) i fun e => if e.state = .closed ∨ e.state = .obstructed ∨
          (e.state = .faulted ∧ !u.missing e.station) then e.toRaising else e := by
      intro hjudge
      have hforward : shutterAt (u.forwarding ⟨h, .raise⟩) h.dst.toNat = some i := hat
      rw [filterOrder_of_room hjudge hroom', harmed', if_pos rfl]
      simp only [notePassed, hforward]
      rfl
    refine ⟨fun hclear => ?_, fun hkept => hraise _ ?_, fun hstate hheld => hraise _ ?_⟩
    · have hpass : judgeOrder ⟨h, .drop⟩ u = .pass := by
        refine (judgeOrder_of_knows (o := ⟨h, .drop⟩) hknows').trans ((judgeDrop_of_shutter hdst hat he).trans ?_)
        cases hkind : e.kind with
        | department => rfl
        | shaft =>
          have hjudge := hclear.resolve_left (by rw [hkind]; nofun)
          simp [shaftDropVeto, harmed', hjudge]
      refine ⟨fun h => hdrop _ ((hdropped hpass).trans ?_), fun h => hdrop _ ((hdropped hpass).trans ?_)⟩
      · refine onShutter_id hkeys (hentry _) ?_
        rw [Shutter.notePanelDrop, if_pos (hgone.mp h)]
      · refine onShutter_congr hkeys (hentry _) ?_
        rw [Shutter.notePanelDrop, if_neg (mt hgone.mpr h)]
        rfl
    · have hpass : judgeOrder ⟨h, .raise⟩ u = .pass := by
        refine (judgeOrder_of_knows (o := ⟨h, .raise⟩) hknows').trans ((judgeRaise_of_shutter harmed' hdst hat he).trans ?_)
        rcases hkept with h | h | ⟨h, hz⟩ | ⟨h, hm⟩
        · simp only [Shutter.raiseVerdict, h]
        · simp only [Shutter.raiseVerdict, h]
        · simp [Shutter.raiseVerdict, h, hz]
        · simp [Shutter.raiseVerdict, h, hm]
      refine (hraised hpass).trans ?_
      refine onShutter_id hkeys (hentry _) (if_neg ?_)
      rcases hkept with h | h | ⟨h, -⟩ | ⟨h, hm⟩
      · simp [h]
      · simp [h]
      · simp [h]
      · simp [h, hm]
    · have hheld' : u.raiseHeld e = false := raiseHeld_eq_false hheld
      have hpass : judgeOrder ⟨h, .raise⟩ u = .pass := by
        refine (judgeOrder_of_knows (o := ⟨h, .raise⟩) hknows').trans ((judgeRaise_of_shutter harmed' hdst hat he).trans ?_)
        rcases hstate with h | h | ⟨h, hm⟩
        · simp [Shutter.raiseVerdict, h, hheld']
        · simp [Shutter.raiseVerdict, h, hheld']
        · simp [Shutter.raiseVerdict, h, hm, hheld']
      refine (hraised hpass).trans (onShutter_congr hkeys (hentry _) ?_)
      rw [if_pos (by simpa using hstate)]
      rfl

/-! ## A panel Ring, Phrase or Gate (R118, R155) -/

theorem gateValue_of_listed {v : Nat} (h : v ≤ 2) (draws : Nat) : gateValue v draws = v := if_pos h

theorem gateValue_le (v draws : Nat) : gateValue v draws ≤ 2 := by
  unfold gateValue
  split <;> omega

/-- Settles O36. -/
theorem ringPhraseAndGateOrdersNoted : Obligations.RingPhraseAndGateOrdersNoted := by
  refine ⟨fun h strokes spacing number s htakes hknows harmed hroom => ?ring, fun h s htakes hknows harmed hroom hquiet => ?amps⟩
  case ring =>
    intro f note ends
    have harmed' : (panelHeard h.src s).armed = true := (panelHeard_armed _ s).trans harmed
    have hends : ∀ v, notePassed ⟨h, .ring strokes spacing number⟩ f = v → ends v := by
      intro v hv
      refine endsAs_order (o := ⟨h, .ring strokes spacing number⟩) rfl htakes ?_
      rw [filterOrder_of_room (judgeOrder_of_knows (o := ⟨h, .ring strokes spacing number⟩) (panelHeard_knows hknows))
        (by simpa using hroom), harmed']
      exact hv
    have hcall : f.call = s.call := by
      show (panelHeard h.src s).call = s.call
      simp
    have hat : ringerAt f h.dst.toNat = ringerAt s h.dst.toNat := by simp only [ringerAt, hcall]
    refine ⟨fun v i g hg => ?_, fun hdst => ⟨fun hnone => hends _ ?_, fun i hi => hends _ ?_⟩, fun hdst => hends _ ?_⟩
    · simp only [note, notePanelRing, hg]
      rfl
    · simp only [notePassed, reached, if_neg hdst, hat, hnone]
      rfl
    · simp only [notePassed, reached, if_neg hdst, hat, hi]
      rfl
    · simp only [notePassed, reached, if_pos hdst, hcall]
      rfl
  case amps =>
    intro u floors
    have harmed' : u.armed = true := (panelHeard_armed _ s).trans harmed
    have hann : u.ann = s.ann := by simp [u]
    have hfire : u.fire = s.fire := by simp [u]
    have hroom' : u.line.orders.length < 16 := by simpa [u] using hroom
    have hknows' : u.knows h := panelHeard_knows hknows
    have hquiet' : (u.armed && u.anyFull && !u.fire.silence) = false := by
      rw [hfire, show u.anyFull = s.anyFull from panelHeard_anyFull _ s]
      rcases hquiet with h | h <;> simp [h]
    have hreached : ∀ v : State, v.ann = u.ann → reached h.dst (v.ann.amps.map Prod.fst) (ampAt v h.dst.toNat) = floors := by
      intro v hv
      simp only [reached, ampAt, hv, hann]
      rfl
    have hnoted : ∀ b, (⟨h, b⟩ : Order).judged u = .pass → filterOrder ⟨h, b⟩ u = notePassed ⟨h, b⟩ (u.forwarding ⟨h, b⟩) := by
      intro b hb
      rw [filterOrder_of_room ((judgeOrder_of_knows (o := ⟨h, b⟩) hknows').trans hb) hroom', harmed', if_pos rfl]
    have hpass : (if (u.armed && u.anyFull && !u.fire.silence) = true then Verdict.veto .evacuation else .pass) = .pass := by
      rw [hquiet', if_neg Bool.false_ne_true]
    refine ⟨fun phrase number => ?_, fun value hlisted => ?_, fun value hunlisted => ?_, fun v f a ha => ⟨fun p n => ?_, fun g => ?_, ?_⟩⟩
    · refine endsAs_order (o := ⟨h, .phrase phrase number⟩) rfl htakes ((hnoted (.phrase phrase number) hpass).trans ?_)
      simp only [notePassed]
      rw [hreached (u.forwarding _) rfl]
    · refine endsAs_order (o := ⟨h, .gate value⟩) rfl htakes ((hnoted (.gate value) hpass).trans ?_)
      simp only [notePassed, gateValue_of_listed hlisted, if_pos hlisted]
      rw [hreached (u.forwarding _) rfl]
    · refine ⟨_, gateValue_le value.toNat u.mgmt.draws,
        endsAs_order (o := ⟨h, .gate value⟩) rfl htakes ((hnoted (.gate value) hpass).trans ?_)⟩
      simp only [notePassed, if_neg (Nat.not_le.mpr hunlisted)]
      rw [hreached (u.forwarding _) rfl]
      rfl
    · simp only [notePanelPhrase, ha]
    · simp only [notePanelGate, ha]
    · simp only [notePanelGate, ha]
      rfl

/-! ## The vetoes (R174) -/

/-- A notice leaves the Line Unit as it is, or it is the Veto notice. -/
theorem takeNotice_line {s t : State} {f : Frame} (h : takeNotice s = some (f, t)) :
    t.line = s.line ∨ ∃ v, s.line.veto = some v ∧ f = noticeFrame s 7 (vetoPayload v) := by
  unfold takeNotice at h
  (repeat' split at h) <;> cases h
  all_goals first | exact .inl rfl | exact .inr ⟨_, ‹_›, rfl⟩

/-- A veto in the slot stays there, or its notice is being sent (R174, R192). -/
theorem arbiterA_vetoed {s : State} {v : Veto} (h : s.line.veto = some v) : (arbiterA s).vetoed v := by
  have hlocal : ∀ t, takeLocal s = some t → t.vetoed v := by
    intro t ht
    unfold takeLocal at ht
    dsimp only at ht
    split at ht
    · cases ht; exact .inl h
    · obtain ⟨⟨f, u⟩, hu, rfl⟩ := Option.map_eq_some_iff.mp ht
      rcases takeNotice_line hu with hline | ⟨w, hw, rfl⟩
      · exact .inl ((congrArg LineUnit.veto hline).trans h)
      · rw [h] at hw
        cases hw
        exact .inr ⟨_, rfl, rfl, rfl⟩
  unfold arbiterA
  split
  · exact .inl h
  · split
    · cases ht : takeLocal s with
      | none => exact .inl h
      | some t => exact hlocal t ht
    · split
      · exact .inl h
      · split
        next t ht => exact hlocal t ht
        next => exact .inl h

theorem settle_vetoed {b s : State} {v : Veto} (h : (arbiterB 128 s).line.veto = some v) : (settle b s).vetoed v := by
  rw [settle_eq]
  exact arbiterA_vetoed h

theorem runVeto_of_armed {s : State} (h : s.armed = true) : s.runVeto =
    if s.pat.state ≠ .idle then some .chainNotIdle
    else if s.anyFull then some .fire
    else if !s.shaftsOpen then some .shutterNotOpen
    else if !s.driveStation.any s.present then some .chainNotIdle
    else none := by
  rw [State.runVeto, h]
  rfl

/-- Settles O37: each veto by the judgment that gives it. -/
theorem vetoedOrders : Obligations.VetoedOrders := by
  intro c o s hc htakes hbusy vetoed drivePresent shaftsOpen
  have hveto : ∀ r, judgeOrder o (panelHeard o.head.src s) = .veto r → vetoed r := by
    intro r hr
    have hport : (fillVeto o r .arrival (panelHeard o.head.src s)).line.portB ≠ .free := by
      show (panelHeard o.head.src s).line.portB ≠ .free
      simpa using hbusy
    have hexec : exec c s = finish s (fillVeto o r .arrival (panelHeard o.head.src s)) :=
      (exec_order_taken hc htakes).trans (congrArg (finish s) (filterOrder_of_veto hr))
    refine ⟨_, hexec, (settle_records ..).trans (served_busy hport), settle_vetoed ?_⟩
    rw [arbiterB_busy hport]
    rfl
  have hjudged : s.knows o.head → ∀ r, o.judged (panelHeard o.head.src s) = .veto r → vetoed r :=
    fun hknows r hr => hveto r ((judgeOrder_of_knows (panelHeard_knows hknows)).trans hr)
  have harmed : (panelHeard o.head.src s).armed = s.armed := panelHeard_armed _ s
  have hfull : (panelHeard o.head.src s).anyFull = s.anyFull := panelHeard_anyFull _ s
  have hpresent : (panelHeard o.head.src s).present = s.present := funext (panelHeard_present _ s)
  have hdrive : (panelHeard o.head.src s).driveStation = s.driveStation := panelHeard_driveStation _ s
  have hmissing : (panelHeard o.head.src s).missing = s.missing := funext (panelHeard_missing _ s)
  have hzone : (panelHeard o.head.src s).zoneAlarm = s.zoneAlarm := funext (panelHeard_zoneAlarm _ s)
  have hopen : (panelHeard o.head.src s).shaftsOpen = s.shaftsOpen := panelHeard_shaftsOpen _ s
  have hstations : (panelHeard o.head.src s).reg.stations = s.reg.stations := panelHeard_stations _ s
  have hpat : (panelHeard o.head.src s).pat = s.pat := by simp
  have hshut : (panelHeard o.head.src s).shut = s.shut := by simp
  have hfire : (panelHeard o.head.src s).fire = s.fire := by simp
  have hdriven : s.driveStation.any s.present = true ↔ drivePresent := drivePresent_iff s
  have hopens : s.shaftsOpen = true ↔ shaftsOpen := shaftsOpen_iff s
  clear_value drivePresent shaftsOpen
  have hshutters : shutterAt s = shutterAt (panelHeard o.head.src s) := by
    funext a
    simp only [shutterAt, hshut]
  have hshaft : s.anyShaft = (panelHeard o.head.src s).anyShaft := by simp only [State.anyShaft, hshut]
  rw [← harmed, ← hfull, ← hpat, ← hfire, ← hstations, hshaft, ← hmissing, ← hzone, hshutters, ← hshut]
  rw [← hopen] at hopens
  rw [← hdrive, ← hpresent] at hdriven
  generalize panelHeard o.head.src s = u at *
  refine ⟨fun harm hdst hnone => hveto _ (judgeOrder_of_unknown harm hdst hnone), fun hknows =>
    ⟨fun hbody => ?_, fun hbody hun => ?_, fun hbody hun hall hsome => ?_, fun harm => ?_⟩, fun hknows i e hdst hi he =>
    ⟨fun hbody hkind => ?_, fun hbody harm => ?_⟩⟩
  · exact hjudged hknows _ (by simp only [Order.judged, hbody])
  · exact hjudged hknows _ (by simp [Order.judged, hbody, State.runVeto, hun])
  · exact hjudged hknows _ (by simp [Order.judged, hbody, judgeDrop, hall, hun, hsome])
  · refine ⟨fun x hbody => hjudged hknows _ ?_, fun hbody => hjudged hknows _ ?_, fun hbody => ?_,
      fun hbody hrun hout => hjudged hknows _ ?_, fun hbody hall => hjudged hknows _ ?_,
      fun a b hbody hany hsil => hjudged hknows _ ?_, fun a hbody hany hsil => hjudged hknows _ ?_⟩
    · simp [Order.judged, hbody, harm]
    · simp [Order.judged, hbody, harm]
    · have hrun : ∀ r, u.runVeto = some r → vetoed r := fun r hr =>
        hjudged hknows _ (by simp only [Order.judged, hbody, hr])
      refine ⟨fun hstate => hrun _ ?_, fun hidle hany => hrun _ ?_, fun hidle hany hshut' => hrun _ ?_,
        fun hidle hany hshut' hno => hrun _ ?_⟩
      · rw [runVeto_of_armed harm, if_pos hstate]
      · rw [runVeto_of_armed harm, if_neg (not_not.mpr hidle), if_pos hany]
      · have hclosed : u.shaftsOpen = false := eq_false_of_ne_true (mt hopens.mp hshut')
        rw [runVeto_of_armed harm, if_neg (not_not.mpr hidle), hany, hclosed]
        rfl
      · have hundriven : u.driveStation.any u.present = false := eq_false_of_ne_true (mt hdriven.mp hno)
        rw [runVeto_of_armed harm, if_neg (not_not.mpr hidle), hany, hopens.mpr hshut', hundriven]
        rfl
    · simp [Order.judged, hbody, harm, hrun, hout]
    · rcases hbody with h | h
      · simp [Order.judged, h, judgeDrop, hall, harm]
      · simp [Order.judged, h, judgeRaise, hall, harm]
    · simp [Order.judged, hbody, harm, hany, hsil]
    · simp [Order.judged, hbody, harm, hany, hsil]
  · have hdrop : ∀ r, shaftDropVeto u e = some r → vetoed r := fun r hr => by
      refine hjudged hknows _ ?_
      simp only [Order.judged, hbody, judgeDrop_of_shutter hdst hi he, hkind, hr]
    exact ⟨fun hun => hdrop _ (by simp [shaftDropVeto, hun]), fun harm hj => hdrop _ (by simp [shaftDropVeto, harm, hj]),
      fun harm hj => hdrop _ (by simp [shaftDropVeto, harm, hj])⟩
  · have hraise : ∀ r, e.raiseVerdict u = .veto r → vetoed r := fun r hr => by
      refine hjudged hknows _ ?_
      simp only [Order.judged, hbody, judgeRaise_of_shutter harm hdst hi he, hr]
    refine ⟨fun hstate => hraise _ ?_, fun hin => ⟨fun hstate => hraise _ ?_, fun hreason hstate => hraise _ ?_⟩⟩
    · rcases hstate with h | h | h <;> simp only [Shutter.raiseVerdict, h]
    · simp [Shutter.raiseVerdict, hstate, hin]
    · have hheld := raiseHeld_eq_true hreason hin
      rcases hstate with h | h | ⟨h, hm⟩
      · simp [Shutter.raiseVerdict, h, hheld]
      · simp [Shutter.raiseVerdict, h, hheld]
      · simp [Shutter.raiseVerdict, h, hm, hheld]

end Sys2Proof.Machine
end
section
/-! SUPPORT. Entering LOCKED, the landing judgment handed over, the beginning of a stop, and a landing added to the fire
stop set. -/

namespace Sys2Proof.Machine

/-! ## Locking -/

theorem lock_of_locked {p : Paternoster} (h : p.state = .locked) (c : LockCause) : p.lock (some c) = p.addCause c :=
  if_pos h

theorem lock_of_unlocked {p : Paternoster} (h : p.state ≠ .locked) (c : LockCause) : p.lock (some c) =
    { p with
      state := .locked, stopTimer := none, resumeTimer := none, revs := none, remembered := none
      start := none, stop := none
      causes := if p.state = .stopping ∨ p.fireStop ≠ 0 then addBit (addBit p.causes c.index) 0
        else addBit p.causes c.index } := by
  rw [Paternoster.lock, if_neg h]
  by_cases hfire : p.state = .stopping ∨ p.fireStop ≠ 0
  · rw [if_pos hfire, if_pos hfire]
    rfl
  · rw [if_neg hfire, if_neg hfire]
    rfl

theorem lock_fireStop (p : Paternoster) (c : LockCause) : (p.lock (some c)).fireStop = p.fireStop := by
  by_cases h : p.state = .locked
  · rw [lock_of_locked h]
    rfl
  · rw [lock_of_unlocked h]

/-! ## The landing judgment (R19, R20) -/

section
variable {p : Paternoster} {f : Nat}

theorem judge_of_moving (h : p.chain.motion ≠ .stopped) : p.judge f = .notStopped := if_neg fun hc => h hc.1

theorem judge_of_state (h : ¬(p.state = .idle ∨ p.state = .held ∨ p.state = .locked)) : p.judge f = .notStopped :=
  if_neg fun hc => h hc.2

theorem judge_of_stopped (hmotion : p.chain.motion = .stopped) (hstate : p.state = .idle ∨ p.state = .held ∨ p.state = .locked)
    {g : Geometry} (hg : p.geometry = some g) {l : Landing} (hl : tget p.landings f = some l) {q : Nat}
    (hq : p.chain.position = some q) :
    p.judge f = if sideBlocked g l.up q = false ∧ sideBlocked g l.down q = false then .clear else .blocked := by
  rw [Paternoster.judge, if_pos ⟨hmotion, hstate⟩, hg, hl, hq]
  simp only [landingClear, Bool.and_eq_true, Bool.not_eq_true']

theorem tget_handLanding {t : Table Shutter} {i : Nat} {e : Shutter} (he : tget t i = some e) :
    tget (handLanding p f t) i = some (if e.landing = some f then e.hand p (p.judge f) else e) := by
  rw [handLanding, tget_tmap, he]
  rfl

theorem waits_iff (e : Shutter) : e.waits = true ↔
    e.kind = .shaft ∧ (e.state = .awaitClear ∨ (e.state = .obstructed ∧ e.obstruction = some .car)) := by
  simp only [Shutter.waits, Bool.and_eq_true, Bool.or_eq_true, beq_iff_eq]

theorem hand_of_not_waits {e : Shutter} (h : e.waits = false) (j : Judgment) : e.hand p j = e := by
  simp only [Shutter.hand, h, Bool.false_eq_true, if_false]

theorem hand_of_waits {e : Shutter} (h : e.waits = true) (j : Judgment) : e.hand p j =
    match j with
    | .clear => e.warn p
    | .blocked => if e.state = .awaitClear then e.obstructCar else e
    | .notStopped => e :=
  if_pos h

end

/-! ## A landing added to the fire stop set (R17) -/

/-- The state with floor `f` in the fire stop set, and the Monitor's mark set. -/
def State.withFireStop (f : Nat) (s : State) : State :=
  s.onPat fun p => { p with fireStop := addBit p.fireStop f, mark := true }

theorem addLanding_of_member {f : Nat} {s : State} (h : s.pat.fireStop.getLsbD f = true) : addLanding f s = s := if_pos h

section
variable {f : Nat} {s : State}

/-- What follows the addition, by the state and by the latest report. -/
theorem addLanding_of_new (h : s.pat.fireStop.getLsbD f = false) : addLanding f s =
    match s.pat.state with
    | .unknown => s.withFireStop f
    | .running | .runout => (s.withFireStop f).onPat fun p => p.beginStop .fire .stopping
    | .resting =>
      if s.pat.stopHalted then (s.withFireStop f).onPat fun p => { p with state := .stopping }
      else (s.withFireStop f).onPat fun p => p.beginStop .fire .stopping
    | .stopping =>
      if s.pat.stopHalted then s.withFireStop f
      else (s.withFireStop f).onPat fun p => p.beginStop .fire .stopping
    | .idle | .held =>
      if s.pat.chain.motion = .stopped then lockAndJudge (s.withFireStop f) else s.withFireStop f
    | .locked =>
      if s.pat.chain.motion = .stopped then lockAndJudge (s.withFireStop f)
      else (s.withFireStop f).onPat fun p => p.addCause .fire :=
  if_neg (Bool.eq_false_iff.mp h)

theorem stopHalted_iff (p : Paternoster) : p.stopHalted = true ↔ ∃ r, p.stop = some r ∧ r.halted = true := by
  rw [Paternoster.stopHalted, Option.any_eq_true]

theorem lockAndJudge_withFireStop : lockAndJudge (s.withFireStop f) =
    judgeLandings ((List.range 8).filter fun y => y == f && decide (f < 8) || s.pat.fireStop.getLsbD y)
      ((s.withFireStop f).onPat fun p => p.lock (some .fire)) := by
  have hset : ((s.withFireStop f).onPat fun p => p.lock (some .fire)).pat.fireStop = addBit s.pat.fireStop f :=
    lock_fireStop _ _
  rw [lockAndJudge, hset, members]
  congr 1
  refine List.filter_congr fun y hy => ?_
  have hy8 : y < 8 := List.mem_range.mp hy
  rw [getLsbD_addBit, Bool.or_comm]
  congr 1
  by_cases hyf : f = y
  · subst hyf
    simp [hy8]
  · simp [hyf, Ne.symm hyf]

end

/-- Settles O38, part by part: the lock, the place, the judgments, the judgment handed over by what waits, the beginning
of a stop, and the addition of a landing by state. -/
theorem lockPlaceAndLandingJudgment : Obligations.LockPlaceAndLandingJudgment := by
  unfold Obligations.LockPlaceAndLandingJudgment
  refine ⟨fun p c o f => ⟨fun h => lock_of_locked h c, fun h => lock_of_unlocked h c, rfl, rfl,
    fun x => ⟨judge_of_landing, fun h => ?_⟩, judge_of_moving, fun hidle hheld hlocked => judge_of_state ?_,
    fun g l q hmotion hstate hg hl hq => judge_of_stopped hmotion hstate hg hl hq⟩, ?_, ?_, ?_⟩
  · simp only [Paternoster.judgeShutter, h]
  · rintro (h | h | h)
    exacts [hidle h, hheld h, hlocked h]
  · intro p f i e t he
    have hentry := tget_handLanding (p := p) (f := f) he
    refine ⟨fun hnot => hentry.trans (congrArg some ?_), ?_⟩
    · by_cases hlanding : e.landing = some f
      · rw [if_pos hlanding]
        refine hand_of_not_waits (Bool.eq_false_iff.mpr fun hw => hnot ?_) _
        obtain ⟨hkind, hstate⟩ := (waits_iff e).mp hw
        exact ⟨hkind, hlanding, hstate⟩
      · exact if_neg hlanding
    · rintro ⟨hkind, hlanding, hstate⟩
      have hwaits : e.waits = true := (waits_iff e).mpr ⟨hkind, hstate⟩
      rw [if_pos hlanding, hand_of_waits hwaits] at hentry
      refine ⟨fun hj htime => ?_, fun hj htime => ?_, fun hj hawait => ?_, fun hj hobst => ?_, fun hj => ?_⟩
      all_goals rw [hentry, hj]
      · dsimp only
        rw [warn_of_pos (by omega)]
        rfl
      · dsimp only
        have hclear : p.judgeShutter e.warning = .clear :=
          (judge_of_landing (e := e.warning) hlanding).trans hj
        rw [warn_of_zero htime, warnExpiry_of_clear (e := e.warning) hkind hclear]
        rfl
      · dsimp only
        rw [if_pos hawait]
        rfl
      · exact congrArg some (if_neg (by rw [hobst]; nofun))
  · intro p g k st hg
    have hempty : searchedLandings p .rest = [] ↔ ∀ e ∈ p.landings, e.2.restClear = false := by
      simp only [searchedLandings, List.filter_eq_nil_iff, Bool.not_eq_true]
    refine ⟨fun h => ?_, fun h => beginStop_of_searched hg (fun hk hnil => h ⟨hk, hempty.mp hnil⟩) st⟩
    obtain ⟨rfl, hnone⟩ := h
    exact beginStop_of_empty hg (hempty.mpr hnone) st
  · intro f s added stopped halted renewed locked
    refine ⟨fun _ _ => rfl, addLanding_of_member, fun hnew => ?_⟩
    have hadd := addLanding_of_new hnew
    refine ⟨fun h => ?_, fun h => ?_, fun h => ⟨fun hh => ?_, fun hh => ?_⟩, fun h hs => ?_, fun h hs => ?_, fun h hs => ?_⟩
    · rw [hadd, h]
      rfl
    · rw [hadd]
      rcases h with h | h <;> (rw [h]; rfl)
    · have hnot : ¬s.pat.stopHalted = true := fun hc => hh ((stopHalted_iff _).mp hc)
      rw [hadd]
      rcases h with h | h <;> (rw [h]; exact if_neg hnot)
    · have hyes : s.pat.stopHalted = true := (stopHalted_iff _).mpr hh
      rw [hadd]
      rcases h with h | h <;> rw [h]
      · exact if_pos hyes
      · refine (if_pos hyes).trans ?_
        show _ = { s.withFireStop f with pat := { (s.withFireStop f).pat with state := .stopping } }
        rw [← h]
        rfl
    · rw [hadd]
      rcases h with h | h | h <;> (rw [h]; exact (if_pos hs).trans lockAndJudge_withFireStop)
    · rw [hadd, h]
      exact if_neg hs
    · rw [hadd]
      rcases h with h | h <;> (rw [h]; exact if_neg hs)

end Sys2Proof.Machine
end
section
/-! SUPPORT. The release of a shutter for FIRE, of the shutters of a zone, and a zone's entry to FULL_ALARM in every
unit. -/

namespace Sys2Proof.Machine

/-! ## A release for FIRE (R76) -/

/-- The record of a shutter of state `st` and kind `k` released for FIRE. -/
def Shutter.releasedFrom (p : Paternoster) (e : Shutter) (st : ShutterState) (k : ShutterKind) : Shutter :=
  match st, k with
  | .unknown, _ | .awaitClear, .department => e
  | .open, .department => { e with reason := .fire }.warn p
  | .open, .shaft => { e.await with reason := .fire }
  | .awaitClear, .shaft | .warning, _ | .descending, _ | .closed, _ | .faulted, _ => { e with reason := .fire }
  | .raising, .department => { e with reason := .fire }.drop
  | .raising, .shaft => { { e with slot := if e.slot = some ShutterOrder.raise then none else e.slot }.await with reason := .fire }
  | .obstructed, .department =>
    { e with reason := .fire, timer := if e.timer = none then some (secs 10) else e.timer }
  | .obstructed, .shaft =>
    if e.obstruction = some .car then { e.await with reason := .fire } else { e with reason := .fire }

/-- The record of a shutter released for FIRE. -/
def Shutter.released (p : Paternoster) (e : Shutter) : Shutter := e.releasedFrom p e.state e.kind

theorem released_eq {e : Shutter} {st : ShutterState} {k : ShutterKind} (hstate : e.state = st) (hkind : e.kind = k)
    (p : Paternoster) : e.released p = e.releasedFrom p st k := by rw [← hstate, ← hkind, Shutter.released]

/-- A release hands the shutter's landing over. -/
def Shutter.handsOver (e : Shutter) : Bool :=
  match e.state, e.kind with
  | .open, .shaft | .raising, .shaft => true
  | .awaitClear, .shaft => e.reason != .fire
  | .obstructed, .shaft => e.obstruction == some .car
  | _, _ => false

section
variable {s : State} {i : Nat} {e : Shutter}

theorem release_eq (hkeys : (s.shut.map Prod.fst).Nodup) (he : tget s.shut i = some e) : release i s =
    if e.handsOver then awaitEntered i (onShutter s i (Shutter.released s.pat)) else onShutter s i (Shutter.released s.pat) := by
  have hset : ∀ {f : Shutter → Shutter}, f e = e.released s.pat → onShutter s i f = onShutter s i (Shutter.released s.pat) :=
    fun h => onShutter_congr hkeys he h
  have hstay : e.released s.pat = e → s = onShutter s i (Shutter.released s.pat) :=
    fun h => (onShutter_id hkeys he h).symm
  unfold release
  simp only [he, onShutter_onShutter, enterAwait]
  obtain ⟨_, _, _, kind, _, _, _, _, _, state, reason, obstruction, _, _, _, _, _, _, _⟩ := e
  cases state <;> cases kind
  case unknown.department | unknown.shaft | awaitClear.department => exact hstay rfl
  case awaitClear.shaft =>
    by_cases hreason : reason = .fire
    · subst hreason
      exact hstay rfl
    · refine (if_neg hreason).trans (Eq.trans ?_ (if_pos (bne_iff_ne.mpr hreason)).symm)
      exact congrArg (awaitEntered i) (hset rfl)
  case obstructed.shaft =>
    by_cases hcar : obstruction = some .car
    · refine (if_pos hcar).trans (Eq.trans ?_ (if_pos (beq_iff_eq.mpr hcar)).symm)
      exact congrArg (awaitEntered i) (hset (if_pos hcar).symm)
    · refine (if_neg hcar).trans (Eq.trans ?_ (if_neg (mt beq_iff_eq.mp hcar)).symm)
      exact hset (if_neg hcar).symm
  case open.shaft | raising.shaft => exact congrArg (awaitEntered i) (hset rfl)
  all_goals exact hset rfl

/-- A released SHAFT shutter with a landing hands it to the Monitor. -/
theorem release_of_handsOver (hkeys : (s.shut.map Prod.fst).Nodup) (he : tget s.shut i = some e) {f : Nat}
    (hlanding : e.landing = some f) (h : e.handsOver = true) (hstate : (e.released s.pat).state = .awaitClear)
    (hkept : (e.released s.pat).landing = e.landing) (hreason : (e.released s.pat).reason = .fire) :
    release i s = addLanding f (onShutter s i (Shutter.released s.pat)) := by
  rw [release_eq hkeys he, if_pos h, awaitEntered_of (tget_onShutter he _) hstate (hkept.trans hlanding), if_pos hreason]

theorem release_of_kept (hkeys : (s.shut.map Prod.fst).Nodup) (he : tget s.shut i = some e) (h : e.handsOver = false) :
    release i s = onShutter s i (Shutter.released s.pat) := by
  rw [release_eq hkeys he, if_neg (Bool.eq_false_iff.mp h)]

end

/-! ## What other shutters' judgments do to a shutter -/

/-- What judgments handed over may make of a shutter: loaded fields and reason stay, and all of it unless it waits. -/
structure Shutter.Handed (e x : Shutter) : Prop where
  loaded : x.loaded = e.loaded
  reason : x.reason = e.reason
  known : e.state ≠ .unknown → x.state ≠ .unknown
  still : e.waits = false → x = e

namespace Shutter.Handed

theorem refl (e : Shutter) : e.Handed e := ⟨rfl, rfl, id, fun _ => rfl⟩

theorem trans {e x y : Shutter} (h : e.Handed x) (h' : x.Handed y) : e.Handed y where
  loaded := h'.loaded.trans h.loaded
  reason := h'.reason.trans h.reason
  known := fun hk => h'.known (h.known hk)
  still := fun hw => by
    have hx := h.still hw
    subst hx
    exact h'.still hw

end Shutter.Handed

theorem warn_reason (p : Paternoster) (e : Shutter) : (e.warn p).reason = e.reason ∧ (e.warn p).state ≠ .unknown := by
  unfold Shutter.warn
  dsimp only
  split
  · unfold Shutter.warnExpiry
    split
    · exact ⟨rfl, nofun⟩
    · split <;> exact ⟨rfl, nofun⟩
  · exact ⟨rfl, nofun⟩

theorem hand_handed (p : Paternoster) (j : Judgment) (e : Shutter) : e.Handed (e.hand p j) := by
  by_cases hw : e.waits = true
  · refine ⟨Shutter.hand_loaded .., ?_, ?_, fun hc => absurd hw (Bool.eq_false_iff.mp hc)⟩
    all_goals rw [hand_of_waits hw]
    · cases j
      · exact (warn_reason p e).1
      · dsimp only
        split <;> rfl
      · rfl
    · cases j
      · exact fun _ => (warn_reason p e).2
      · dsimp only
        split
        · exact fun _ => nofun
        · exact id
      · exact id
  · rw [hand_of_not_waits (Bool.eq_false_iff.mpr hw)]
    exact .refl e

/-- Shutter `i` has changed as judgments handed over may change it, if at all. -/
def State.HandedAt (i : Nat) (s t : State) : Prop :=
  ∀ e, tget s.shut i = some e → ∃ x, tget t.shut i = some x ∧ e.Handed x

namespace State.HandedAt
variable {i : Nat} {s t u : State}

theorem of_shut (h : t.shut = s.shut) : State.HandedAt i s t := fun e he => ⟨e, by rw [h, he], .refl e⟩

theorem trans (h : State.HandedAt i s t) (h' : State.HandedAt i t u) : State.HandedAt i s u := by
  intro e he
  obtain ⟨x, hx, hex⟩ := h e he
  obtain ⟨y, hy, hxy⟩ := h' x hx
  exact ⟨y, hy, hex.trans hxy⟩

theorem onShutter {j : Nat} (hne : i ≠ j) (f : Shutter → Shutter) : State.HandedAt i s (onShutter s j f) := by
  intro e he
  refine ⟨e, ?_, .refl e⟩
  show tget (tmod s.shut j f) i = some e
  rw [tget_tmod, if_neg hne.symm, he]

theorem handLanding (p : Paternoster) (f : Nat) : State.HandedAt i s (s.onShut (Machine.handLanding p f)) := by
  intro e he
  refine ⟨_, tget_handLanding he, ?_⟩
  split
  · exact hand_handed ..
  · exact .refl e

theorem judgeLandings (floors : List Nat) : State.HandedAt i s (judgeLandings floors s) :=
  foldl_of_step (p := State.HandedAt i s) (fun _ f h => h.trans (handLanding _ f)) floors (of_shut rfl)

theorem lockAndJudge : State.HandedAt i s (lockAndJudge s) :=
  trans (of_shut (t := s.onPat fun p => p.lock (some .fire)) rfl) (judgeLandings _)

theorem addLanding (f : Nat) : State.HandedAt i s (addLanding f s) := by
  by_cases h : s.pat.fireStop.getLsbD f = true
  · rw [addLanding_of_member h]
    exact of_shut rfl
  · rw [addLanding_of_new (Bool.eq_false_iff.mpr h)]
    have hjudged : State.HandedAt i s (Machine.lockAndJudge (s.withFireStop f)) :=
      trans (of_shut (t := s.withFireStop f) rfl) lockAndJudge
    split
    · exact of_shut rfl
    · exact of_shut rfl
    · exact of_shut rfl
    · split <;> exact of_shut rfl
    · split <;> exact of_shut rfl
    · split <;> [exact hjudged; exact of_shut rfl]
    · split <;> [exact hjudged; exact of_shut rfl]
    · split <;> [exact hjudged; exact of_shut rfl]

theorem awaitEntered (j : Nat) : State.HandedAt i s (awaitEntered j s) := by
  unfold Machine.awaitEntered
  split
  · exact of_shut rfl
  · split
    · split
      · exact of_shut rfl
      · split
        · exact addLanding _
        · exact handLanding _ _
    · exact of_shut rfl

end State.HandedAt

/-! ## A released shutter's own record -/

theorem keys_of_shutterLoaded {t u : Table Shutter} (h : u.map shutterLoaded = t.map shutterLoaded) :
    u.map Prod.fst = t.map Prod.fst := by
  have := congrArg (List.map Prod.fst) h
  rwa [List.map_map, List.map_map] at this

theorem release_keys (i : Nat) (s : State) : (release i s).shut.map Prod.fst = s.shut.map Prod.fst :=
  keys_of_shutterLoaded (release_kept (.refl s) i).shut

theorem released_loaded (p : Paternoster) (e : Shutter) : (e.released p).loaded = e.loaded := by
  unfold Shutter.released Shutter.releasedFrom
  split
  case h_3 => exact Shutter.warn_loaded ..
  case h_13 => split <;> rfl
  all_goals rfl

/-- The reason of a released shutter is FIRE, but for one in UNKNOWN and a DEPARTMENT one in AWAIT_CLEAR. -/
theorem released_reason (p : Paternoster) {e : Shutter} (hstate : e.state ≠ .unknown)
    (hkind : e.kind = .shaft ∨ e.state ≠ .awaitClear) : (e.released p).reason = .fire := by
  unfold Shutter.released Shutter.releasedFrom
  split
  case h_1 h => exact absurd h hstate
  case h_2 h hk => exact absurd h (hkind.resolve_left (by rw [hk]; nofun))
  case h_3 => exact (warn_reason ..).1
  case h_13 => split <;> rfl
  all_goals rfl

theorem released_unknown (p : Paternoster) {e : Shutter} (h : e.state = .unknown) : e.released p = e := released_eq h rfl p

theorem released_warned (p : Paternoster) {e : Shutter} (hstate : e.state = .open) (hkind : e.kind = .department)
    (htime : 1 ≤ e.warnTime) : e.released p =
      { e with reason := .fire, state := .warning, obstruction := none, fault := none
               prior := none, timer := some (e.warnTime * 125000), slot := some .warn } :=
  (released_eq hstate hkind p).trans (warn_of_pos (e := { e with reason := .fire }) (Nat.ne_of_gt htime))

section
variable {s : State} {i j : Nat} {e : Shutter}

/-- After its release a shutter is as released, but for the judgments that follow. -/
theorem release_self (hkeys : (s.shut.map Prod.fst).Nodup) (he : tget s.shut i = some e) :
    ∃ x, tget (release i s).shut i = some x ∧ (e.released s.pat).Handed x := by
  have hown := tget_onShutter he (Shutter.released s.pat)
  rw [release_eq hkeys he]
  split
  · exact State.HandedAt.awaitEntered i _ hown
  · exact ⟨_, hown, .refl _⟩

theorem release_other (hkeys : (s.shut.map Prod.fst).Nodup) (hne : i ≠ j) : State.HandedAt i s (release j s) := by
  cases hj : tget s.shut j with
  | none =>
    unfold release
    rw [hj]
    exact .of_shut rfl
  | some x =>
    rw [release_eq hkeys hj]
    split
    · exact (State.HandedAt.onShutter hne _).trans (.awaitEntered j)
    · exact .onShutter hne _

end

/-! ## The release of a zone's shutters (R75) -/

/-- One step of a zone's release: the shutter is released unless its other zone has done so already (log 8). -/
def releaseOne (z : Nat) (s : State) (i : Nat) : State :=
  match tget s.shut i with
  | none => s
  | some e => if e.reason = .fire ∧ e.inZone (fun y => y != z && s.zoneFull y) then s else release i s

theorem releaseZone_eq (z : Nat) (s : State) :
    releaseZone z s = (tkeys s.shut fun e => e.inZone (· == z)).foldl (releaseOne z) s := rfl

section
variable {s : State} {z i j : Nat} {e : Shutter}

theorem releaseOne_eq_or (z : Nat) (s : State) (i : Nat) : releaseOne z s i = s ∨ releaseOne z s i = release i s := by
  unfold releaseOne
  split
  · exact .inl rfl
  · split <;> [exact .inl rfl; exact .inr rfl]

theorem releaseOne_keys (z : Nat) (s : State) (i : Nat) : (releaseOne z s i).shut.map Prod.fst = s.shut.map Prod.fst := by
  rcases releaseOne_eq_or z s i with h | h <;> rw [h]
  exact release_keys i s

theorem releaseOne_fire (z : Nat) (s : State) (i : Nat) : (releaseOne z s i).fire = s.fire := by
  rcases releaseOne_eq_or z s i with h | h <;> rw [h]
  exact (release_keeps i s).2.2.1

theorem releaseOne_other (hkeys : (s.shut.map Prod.fst).Nodup) (hne : i ≠ j) : State.HandedAt i s (releaseOne z s j) := by
  rcases releaseOne_eq_or z s j with h | h <;> rw [h]
  · exact .of_shut rfl
  · exact release_other hkeys hne

theorem foldl_releaseOne_keys (z : Nat) (l : List Nat) (s : State) :
    (l.foldl (releaseOne z) s).shut.map Prod.fst = s.shut.map Prod.fst :=
  foldl_keep (fun s => s.shut.map Prod.fst) _ (releaseOne_keys z) l s

theorem foldl_releaseOne_fire (z : Nat) (l : List Nat) (s : State) : (l.foldl (releaseOne z) s).fire = s.fire :=
  foldl_keep State.fire _ (releaseOne_fire z) l s

theorem foldl_releaseOne_other (hkeys : (s.shut.map Prod.fst).Nodup) {l : List Nat} (hi : i ∉ l) :
    State.HandedAt i s (l.foldl (releaseOne z) s) := by
  induction l generalizing s with
  | nil => exact .of_shut rfl
  | cons j l ih =>
    obtain ⟨hne, hl⟩ := not_or.mp (mt List.mem_cons.mpr hi)
    exact (releaseOne_other hkeys hne).trans (ih (by rw [releaseOne_keys]; exact hkeys) hl)

/-- A shutter of the zone: handed judgments, its own step, and handed judgments again. -/
theorem releaseZone_entry (hkeys : (s.shut.map Prod.fst).Nodup) (he : tget s.shut i = some e)
    (hz : e.inZone (· == z) = true) : ∃ w x y, w.fire = s.fire ∧ (w.shut.map Prod.fst).Nodup ∧ tget w.shut i = some x ∧
      e.Handed x ∧ State.HandedAt i (releaseOne z w i) (releaseZone z s) ∧ tget (releaseZone z s).shut i = some y := by
  have hmem : i ∈ tkeys s.shut fun e => e.inZone (· == z) :=
    List.mem_map.mpr ⟨(i, e), List.mem_filter.mpr ⟨mem_of_tget he, hz⟩, rfl⟩
  have hnodup : (tkeys s.shut fun e => e.inZone (· == z)).Nodup := (List.filter_sublist.map _).nodup hkeys
  obtain ⟨l, r, hlist⟩ := List.append_of_mem hmem
  rw [hlist] at hnodup
  have hl : i ∉ l := fun hc => List.disjoint_of_nodup_append hnodup hc List.mem_cons_self
  have hr : i ∉ r := (List.nodup_cons.mp hnodup.of_append_right).1
  obtain ⟨x, hx, hex⟩ := foldl_releaseOne_other (z := z) hkeys hl e he
  have hkeys' : ((l.foldl (releaseOne z) s).shut.map Prod.fst).Nodup := by rw [foldl_releaseOne_keys]; exact hkeys
  have hrest : State.HandedAt i (releaseOne z (l.foldl (releaseOne z) s) i) (releaseZone z s) := by
    rw [releaseZone_eq, hlist, List.foldl_append, List.foldl_cons]
    exact foldl_releaseOne_other (by rw [releaseOne_keys]; exact hkeys') hr
  obtain ⟨y, hy⟩ : ∃ y, tget (releaseOne z (l.foldl (releaseOne z) s) i).shut i = some y := by
    rcases releaseOne_eq_or z (l.foldl (releaseOne z) s) i with h | h <;> rw [h]
    · exact ⟨x, hx⟩
    · obtain ⟨y, hy, -⟩ := release_self hkeys' hx
      exact ⟨y, hy⟩
  obtain ⟨y', hy', -⟩ := hrest y hy
  exact ⟨_, x, y', foldl_releaseOne_fire .., hkeys', hx, hex, hrest, hy'⟩

theorem releaseZone_unknown (hkeys : (s.shut.map Prod.fst).Nodup) (he : tget s.shut i = some e)
    (hz : e.inZone (· == z) = true) (hstate : e.state = .unknown) : tget (releaseZone z s).shut i = some e := by
  obtain ⟨w, x, y, -, hkeys', hx, hex, hrest, hy⟩ := releaseZone_entry hkeys he hz
  have hstill : e.waits = false := by simp [Shutter.waits, hstate]
  have hxe := hex.still hstill
  subst hxe
  have hstep : tget (releaseOne z w i).shut i = some x := by
    rcases releaseOne_eq_or z w i with h | h <;> rw [h]
    · exact hx
    · obtain ⟨y', hy', hr⟩ := release_self hkeys' hx
      rw [released_unknown _ hstate] at hr
      rw [hy', hr.still hstill]
  obtain ⟨y', hy', hr⟩ := hrest x hstep
  rw [hy', hr.still hstill]

theorem releaseZone_reason (hkeys : (s.shut.map Prod.fst).Nodup) (he : tget s.shut i = some e)
    (hz : e.inZone (· == z) = true) (hstate : e.state ≠ .unknown) (hkind : e.kind = .shaft ∨ e.state ≠ .awaitClear) :
    ∃ x, tget (releaseZone z s).shut i = some x ∧ x.reason = .fire := by
  obtain ⟨w, x, y, -, hkeys', hx, hex, hrest, hy⟩ := releaseZone_entry hkeys he hz
  have hkept : x.kind = e.kind := by simpa [Shutter.loaded] using congrArg (fun l => l.2.2.2.1) hex.loaded
  have hxkind : x.kind = .shaft ∨ x.state ≠ .awaitClear := by
    cases hk : e.kind with
    | shaft => exact .inl (hkept.trans hk)
    | department =>
      rw [hex.still (by simp [Shutter.waits, hk])]
      exact .inr (hkind.resolve_left (by rw [hk]; nofun))
  have hstep : ∃ x', tget (releaseOne z w i).shut i = some x' ∧ x'.reason = .fire := by
    unfold releaseOne
    rw [hx]
    dsimp only
    split
    next h => exact ⟨x, hx, h.1⟩
    next =>
      obtain ⟨x', hx', hr⟩ := release_self hkeys' hx
      exact ⟨x', hx', hr.reason.trans (released_reason _ (hex.known hstate) hxkind)⟩
  obtain ⟨x', hx', hreason⟩ := hstep
  obtain ⟨y', hy', hr⟩ := hrest x' hx'
  exact ⟨y', hy', hr.reason.trans hreason⟩

theorem releaseZone_warned (hkeys : (s.shut.map Prod.fst).Nodup) (he : tget s.shut i = some e)
    (hz : e.inZone (· == z) = true) (hstate : e.state = .open) (hkind : e.kind = .department) (htime : 1 ≤ e.warnTime)
    (hother : e.inZone (fun y => y != z && s.zoneFull y) = false) : tget (releaseZone z s).shut i = some
      { e with reason := .fire, state := .warning, obstruction := none, fault := none
               prior := none, timer := some (e.warnTime * 125000), slot := some .warn } := by
  obtain ⟨w, x, y, hfire, hkeys', hx, hex, hrest, hy⟩ := releaseZone_entry hkeys he hz
  have hstill : e.waits = false := by simp [Shutter.waits, hkind]
  have hxe := hex.still hstill
  subst hxe
  have hfull : w.zoneFull = s.zoneFull := by
    funext y
    simp only [State.zoneFull, hfire]
  have hstep : releaseOne z w i = release i w := by
    unfold releaseOne
    rw [hx, hfull]
    exact if_neg fun h => absurd h.2 (Bool.eq_false_iff.mp hother)
  obtain ⟨x', hx', hr⟩ := release_self hkeys' hx
  have hwarned := released_warned w.pat hstate hkind htime
  have hxr : x' = x.released w.pat := hr.still (by rw [hwarned]; simp [Shutter.waits, hkind])
  rw [← hstep] at hx'
  obtain ⟨y', hy', hr'⟩ := hrest x' hx'
  rw [hxr, hwarned] at hr'
  rw [hy', hr'.still (by simp [Shutter.waits, hkind])]

/-- A DEPARTMENT shutter of other zones is left as it is. -/
theorem releaseZone_outside (hkeys : (s.shut.map Prod.fst).Nodup) (he : tget s.shut i = some e)
    (hz : e.inZone (· == z) = false) (hkind : e.kind = .department) : tget (releaseZone z s).shut i = some e := by
  have hout : i ∉ tkeys s.shut fun e => e.inZone (· == z) := by
    intro hc
    obtain ⟨⟨k, x⟩, hx, rfl⟩ := List.mem_map.mp hc
    obtain ⟨hmem, hzone⟩ := List.mem_filter.mp hx
    obtain rfl : x = e := Option.some.inj ((tget_of_mem hkeys hmem).symm.trans he)
    exact absurd hzone (Bool.eq_false_iff.mp hz)
  obtain ⟨x, hx, hr⟩ := foldl_releaseOne_other (z := z) hkeys hout e he
  rw [releaseZone_eq, hx, hr.still (by simp [Shutter.waits, hkind])]

end

/-! ## The Monitor's state through the release -/

/-- The chain runs or comes to a stop. -/
def PatState.moves : PatState → Bool
  | .running | .runout | .resting | .stopping => true
  | .unknown | .idle | .held | .locked => false

/-- Where landings added to the fire stop set may take the state: to STOPPING from a moving one, to LOCKED else. -/
def PatState.Toward (a b : PatState) : Prop := b = a ∨ (a.moves = true ∧ b = .stopping) ∨ (a.moves = false ∧ b = .locked)

theorem PatState.Toward.trans {a b c : PatState} (h : a.Toward b) (h' : b.Toward c) : a.Toward c := by
  rcases h with rfl | ⟨ha, rfl⟩ | ⟨ha, rfl⟩
  · exact h'
  · rcases h' with rfl | ⟨-, rfl⟩ | ⟨hb, -⟩
    · exact .inr (.inl ⟨ha, rfl⟩)
    · exact .inr (.inl ⟨ha, rfl⟩)
    · cases hb
  · rcases h' with rfl | ⟨hb, -⟩ | ⟨-, rfl⟩
    · exact .inr (.inr ⟨ha, rfl⟩)
    · cases hb
    · exact .inr (.inr ⟨ha, rfl⟩)

theorem beginStop_state_or (p : Paternoster) (k : SearchSet) (st : PatState) :
    (p.beginStop k st).state = p.state ∨ (p.beginStop k st).state = st := by
  cases hg : p.geometry with
  | none =>
    left
    simp only [Paternoster.beginStop, hg]
  | some g =>
    right
    simp only [Paternoster.beginStop, hg, place_eq]
    split <;> rfl

theorem beginStop_state {p : Paternoster} (hg : p.geometry.isSome = true) (k : SearchSet) (st : PatState) :
    (p.beginStop k st).state = st := by
  obtain ⟨g, hg⟩ := Option.isSome_iff_exists.mp hg
  simp only [Paternoster.beginStop, hg, place_eq]
  split <;> rfl

theorem lockAndJudge_state (s : State) : (lockAndJudge s).pat.state = .locked := by
  have hpat : (lockAndJudge s).pat = s.pat.lock (some .fire) := (judgeLandings_keeps ..).2.2.1
  rw [hpat, Paternoster.lock_state]

theorem addLanding_state (f : Nat) (s : State) : s.pat.state.Toward (addLanding f s).pat.state := by
  by_cases h : s.pat.fireStop.getLsbD f = true
  · rw [addLanding_of_member h]
    exact .inl rfl
  · rw [addLanding_of_new (Bool.eq_false_iff.mpr h)]
    have hrenew : s.pat.state.moves = true →
        s.pat.state.Toward ((s.withFireStop f).onPat fun p => p.beginStop .fire .stopping).pat.state := fun hm =>
      (beginStop_state_or (s.withFireStop f).pat .fire .stopping).imp id fun hs => .inl ⟨hm, hs⟩
    have hjudge : s.pat.state.moves = false → s.pat.state.Toward (lockAndJudge (s.withFireStop f)).pat.state :=
      fun hm => .inr (.inr ⟨hm, lockAndJudge_state _⟩)
    cases hst : s.pat.state <;> rw [hst] at hrenew hjudge <;> dsimp only
    case unknown => exact .inl hst
    case running | runout => exact hrenew rfl
    case resting => split <;> [exact .inr (.inl ⟨rfl, rfl⟩); exact hrenew rfl]
    case stopping => split <;> [exact .inl hst; exact hrenew rfl]
    case idle | held => split <;> [exact hjudge rfl; exact .inl hst]
    case locked => split <;> [exact hjudge rfl; exact .inl hst]

theorem awaitEntered_state (i : Nat) (s : State) : s.pat.state.Toward (awaitEntered i s).pat.state := by
  unfold awaitEntered
  split
  · exact .inl rfl
  · split
    · split
      · exact .inl rfl
      · split <;> [exact addLanding_state ..; exact .inl rfl]
    · exact .inl rfl

theorem release_state (i : Nat) {s : State} (hkeys : (s.shut.map Prod.fst).Nodup) :
    s.pat.state.Toward (release i s).pat.state := by
  cases hi : tget s.shut i with
  | none =>
    unfold release
    rw [hi]
    exact .inl rfl
  | some e =>
    rw [release_eq hkeys hi]
    split
    · exact awaitEntered_state i (onShutter s i (Shutter.released s.pat))
    · exact .inl rfl

theorem releaseZone_state (z : Nat) {s : State} (hkeys : (s.shut.map Prod.fst).Nodup) :
    s.pat.state.Toward (releaseZone z s).pat.state := by
  rw [releaseZone_eq]
  refine (foldl_of_step (p := fun t => (t.shut.map Prod.fst).Nodup ∧ s.pat.state.Toward t.pat.state)
    (fun t i h => ⟨by rw [releaseOne_keys]; exact h.1, ?_⟩) _ ⟨hkeys, .inl rfl⟩).2
  rcases releaseOne_eq_or z t i with heq | heq <;> rw [heq]
  · exact h.2
  · exact h.2.trans (release_state i h.1)

/-! ## The calls and the generators through an entry -/

theorem joinAndDispatch_pushes (a b c : Nat) (o : Origin) (s : State) :
    (joinAndDispatch a b c o s).call.calls.map (fun c => c.push) = s.call.calls.map fun c => c.push := by
  obtain ⟨q, n, m, l, hl, hjoin⟩ := joinNew_call a b c o s
  rw [joinAndDispatch, (dispatch_served _).pushes_of_calls, hjoin]
  exact (CallUnit.Served.of_calls s.call q n m hl).pushes_of_calls

theorem rejoin_pushes (g : Option Ring) (s : State) :
    (rejoin g s).call.calls.map (fun c => c.push) = s.call.calls.map fun c => c.push := by
  unfold rejoin
  split
  next r =>
    obtain ⟨q, m, l, hl, h⟩ := s.call.join_served r
    change (s.call.join r).calls.map _ = _
    rw [h]
    exact (CallUnit.Served.of_calls s.call q s.call.nextSeq m hl).pushes_of_calls
  next => rfl

theorem preemptOne_pushes (s : State) (i : Nat) :
    (preemptOne s i).call.calls.map (fun c => c.push) = s.call.calls.map fun c => c.push := by
  unfold preemptOne
  split
  · rfl
  · split
    · rfl
    · split
      · rw [(departures_served _).pushes_of_calls, rejoin_pushes, (dispatchOne_served ..).pushes_of_calls]
        rfl
      · rfl

theorem fireRings_pushes (s : State) :
    (fireRings s).call.calls.map (fun c => c.push) = s.call.calls.map fun c => c.push := by
  have hpreempt : ∀ (l : List Nat) (t : State),
      (dispatch (l.foldl preemptOne t)).call.calls.map (fun c => c.push) = t.call.calls.map fun c => c.push := fun l t =>
    (dispatch_served _).pushes_of_calls.trans
      (foldl_keep (fun t => t.call.calls.map fun c => c.push) _ preemptOne_pushes l t)
  unfold fireRings
  split
  · exact hpreempt _ _
  next f _ =>
    refine (hpreempt _ _).trans ?_
    exact foldl_keep (fun t => t.call.calls.map fun c => c.push) _ (fun t i => joinAndDispatch_pushes i f.pattern 7 .fire t) _ s

theorem joinAndDispatch_fireLevel (a b c : Nat) (o : Origin) (s : State) :
    (joinAndDispatch a b c o s).call.fireLevel = s.call.fireLevel := by
  obtain ⟨q, n, m, l, -, hjoin⟩ := joinNew_call a b c o s
  rw [joinAndDispatch, (dispatch_served _).fireLevel, hjoin]
  rfl

theorem fireRings_fireLevel (s : State) : (fireRings s).call.fireLevel = s.call.fireLevel := by
  unfold fireRings
  split
  · exact (preempt_fixed ..).fireLevel
  next f _ =>
    refine (preempt_fixed ..).fireLevel.trans ?_
    exact foldl_keep (fun t => t.call.fireLevel) _ (fun t i => joinAndDispatch_fireLevel i f.pattern 7 .fire t) _ s

theorem abandonClosing_served (s : State) : s.abandoned.call.Served (abandonClosing s).call := by
  rw [abandonClosing_call]
  exact departures_served _

/-- Both generators are IDLE, and the closing stands as in `a`. -/
structure Announce.Silent (a b : Announce) : Prop where
  gen0 : b.gen0 = none
  gen1 : b.gen1 = none
  closing : b.closing = a.closing

theorem giveFirePhrase_silent {a : Announce} {s : State} (h : a.Silent s.ann) (f : Nat) :
    a.Silent (giveFirePhrase f s).ann := by
  unfold giveFirePhrase
  split
  · exact h
  · unfold placePhrase
    split
    · exact h
    · dsimp only
      rw [leaveGate_of_silent (by exact h.gen0) (by exact h.gen1)]
      exact ⟨h.gen0, h.gen1, h.closing⟩

theorem fireOverride_silent (s : State) : s.ann.Silent (fireOverride s).ann := by
  have hstop : s.ann.Silent (markClosing (stopGenerators s)).ann := ⟨rfl, rfl, rfl⟩
  unfold fireOverride
  split
  · exact ⟨rfl, rfl, rfl⟩
  · exact foldl_of_step (p := fun t => s.ann.Silent t.ann) (fun t f h => giveFirePhrase_silent h f) _ hstop

/-! ## An entry to FULL_ALARM -/

/-- The state in which the units are told of the entry: the zone in FULL_ALARM, the silence flag clear (R53). -/
def State.inFullAlarm (z : Nat) (s : State) : State :=
  markFullZones ((onZone s z Zone.toFull).onFire fun u => { u with silence := false })

@[simp] theorem inFullAlarm_keeps (z : Nat) (s : State) :
    (s.inFullAlarm z).line = s.line ∧ (s.inFullAlarm z).reg = s.reg ∧ (s.inFullAlarm z).pat = s.pat ∧
    (s.inFullAlarm z).shut = s.shut ∧ (s.inFullAlarm z).call = s.call ∧ (s.inFullAlarm z).board = s.board ∧
    (s.inFullAlarm z).ann = s.ann ∧ (s.inFullAlarm z).mgmt = s.mgmt :=
  ⟨rfl, rfl, rfl, rfl, rfl, rfl, rfl, rfl⟩

theorem enterFullAlarm_eq (z : Nat) (s : State) :
    enterFullAlarm z s = annFullAlarm (callFullAlarm (monitorFullAlarm (releaseZone z (s.inFullAlarm z)))) := rfl

theorem enterFullAlarm_shut (z : Nat) (s : State) :
    (enterFullAlarm z s).shut = (releaseZone z (s.inFullAlarm z)).shut := by
  simp only [enterFullAlarm_eq, annFullAlarm_keeps, callFullAlarm_keeps, monitorFullAlarm_keeps]

theorem enterFullAlarm_pat (z : Nat) (s : State) :
    (enterFullAlarm z s).pat = (monitorFullAlarm (releaseZone z (s.inFullAlarm z))).pat := by
  simp only [enterFullAlarm_eq, annFullAlarm_keeps, callFullAlarm_keeps]

theorem inFullAlarm_zoneFull {z y : Nat} (h : y ≠ z) (s : State) : (s.inFullAlarm z).zoneFull y = s.zoneFull y := by
  have hfire : (s.inFullAlarm z).fire.zones = tmap (tmod s.fire.zones z Zone.toFull) fun _ e =>
      { e with mark := e.mark || e.state == .fullAlarm } := rfl
  simp only [State.zoneFull, hfire, tget_tmap, tget_tmod, if_neg (Ne.symm h), Option.any_map]

theorem annFullAlarm_ann (s : State) : (annFullAlarm s).ann.gen0 = none ∧ (annFullAlarm s).ann.gen1 = none ∧
    (annFullAlarm s).ann.closing = if s.ann.closing = .running then .aborted else s.ann.closing := by
  have h := fireOverride_silent (if s.ann.closing = .running then abandonClosing s else s)
  refine ⟨h.gen0, h.gen1, h.closing.trans ?_⟩
  split
  · exact (abandonClosing_aborted s).closing
  · rfl

theorem annFullAlarm_call (s : State) :
    (annFullAlarm s).call.calls.map (fun c => c.push) = s.call.calls.map (fun c => c.push) ∧
    (annFullAlarm s).call.fireLevel = s.call.fireLevel ∧
    (s.ann.closing = .running → (annFullAlarm s).call.closingLevel = 0) := by
  have hcall : (annFullAlarm s).call = (if s.ann.closing = .running then abandonClosing s else s).call :=
    (fireOverride_keeps _).2.2.2.2.2.1
  rw [hcall]
  by_cases hrun : s.ann.closing = .running
  · rw [if_pos hrun]
    have h := abandonClosing_served s
    exact ⟨h.pushes_of_calls, h.fireLevel, fun _ => h.closingLevel⟩
  · rw [if_neg hrun]
    exact ⟨rfl, rfl, fun hc => absurd hc hrun⟩

theorem inZone_iff (e : Shutter) (z : Nat) : e.inZone (· == z) = true ↔ e.zoneA = z ∨ e.zoneB = some z := by
  simp [Shutter.inZone, Option.any_eq_true]

theorem releaseZone_geometry (z : Nat) (s : State) : (releaseZone z s).pat.geometry = s.pat.geometry :=
  (releaseZone_kept (.refl s) z).pat.geometry

theorem inZone_eq (e : Shutter) (z : Nat) : e.inZone (· == z) = (e.zoneA == z || e.zoneB == some z) := by
  rw [Bool.eq_iff_iff, inZone_iff, Bool.or_eq_true, beq_iff_eq, beq_iff_eq]

theorem releaseOne_some (z : Nat) {s : State} {i : Nat} {x : Shutter} (hx : tget s.shut i = some x) : releaseOne z s i =
    if x.reason = .fire ∧ ((x.zoneA != z && s.zoneFull x.zoneA) = true ∨
      x.zoneB.any (fun y => y != z && s.zoneFull y) = true) then s else release i s := by
  unfold releaseOne
  rw [hx]
  simp only [Shutter.inZone, Bool.or_eq_true]

theorem enterFullAlarm_units (z : Nat) (s : State) : (enterFullAlarm z s).line = s.line ∧ (enterFullAlarm z s).reg = s.reg ∧
    (enterFullAlarm z s).mgmt = s.mgmt ∧ (enterFullAlarm z s).board = s.board := by
  simp only [enterFullAlarm_eq, annFullAlarm_keeps, callFullAlarm_keeps, monitorFullAlarm_keeps, releaseZone_keeps,
    inFullAlarm_keeps, and_self]

/-- The generators and the closing at an entry (R145, R151). -/
theorem enterFullAlarm_ann (z : Nat) (s : State) : (enterFullAlarm z s).ann.gen0 = none ∧
    (enterFullAlarm z s).ann.gen1 = none ∧
    (enterFullAlarm z s).ann.closing = if s.ann.closing = .running then .aborted else s.ann.closing := by
  have hann : (callFullAlarm (monitorFullAlarm (releaseZone z (s.inFullAlarm z)))).ann = s.ann := by
    simp only [callFullAlarm_keeps, monitorFullAlarm_keeps, releaseZone_keeps, inFullAlarm_keeps]
  rw [enterFullAlarm_eq, ← hann]
  exact annFullAlarm_ann _

/-- The calls and the levels at an entry (R103, R145). -/
theorem enterFullAlarm_call (z : Nat) (s : State) : (enterFullAlarm z s).call.fireLevel = 7 ∧
    (enterFullAlarm z s).call.calls.map (fun c => c.push) = s.call.calls.map (fun c => c.push) ∧
    (s.ann.closing = .running → (enterFullAlarm z s).call.closingLevel = 0) := by
  have hcall : (monitorFullAlarm (releaseZone z (s.inFullAlarm z))).call = s.call := by
    simp only [monitorFullAlarm_keeps, releaseZone_keeps, inFullAlarm_keeps]
  have hann : (callFullAlarm (monitorFullAlarm (releaseZone z (s.inFullAlarm z)))).ann = s.ann := by
    simp only [callFullAlarm_keeps, monitorFullAlarm_keeps, releaseZone_keeps, inFullAlarm_keeps]
  obtain ⟨hpushes, hlevel, hclosing⟩ := annFullAlarm_call (callFullAlarm (monitorFullAlarm (releaseZone z (s.inFullAlarm z))))
  rw [hann] at hclosing
  rw [enterFullAlarm_eq]
  refine ⟨hlevel.trans (fireRings_fireLevel _), ?_, hclosing⟩
  rw [hpushes, callFullAlarm, fireRings_pushes, ← hcall]
  rfl

/-- A chain that runs is brought to a stop, once the geometry is known (R18). -/
theorem enterFullAlarm_stops (z : Nat) {s : State} (hkeys : (s.shut.map Prod.fst).Nodup)
    (hg : s.pat.geometry.isSome = true) (h : s.pat.state = .running ∨ s.pat.state = .runout ∨ s.pat.state = .resting) :
    (enterFullAlarm z s).pat.state = .stopping := by
  have hstate := releaseZone_state z (s := s.inFullAlarm z) hkeys
  have hgeometry := releaseZone_geometry z (s.inFullAlarm z)
  rw [enterFullAlarm_pat]
  generalize releaseZone z (s.inFullAlarm z) = w at hstate hgeometry
  have hwg : w.pat.geometry.isSome = true := by rw [hgeometry]; exact hg
  have hwst : w.pat.state = s.pat.state ∨ w.pat.state = .stopping :=
    hstate.imp id fun hs => hs.elim And.right fun hc => by
      have hmoves : s.pat.state.moves = false := hc.1
      rcases h with h | h | h <;> (rw [h] at hmoves; cases hmoves)
  unfold monitorFullAlarm
  rcases hwst with hw | hw
  · rcases h with h | h | h <;> rw [hw, h]
    exacts [beginStop_state hwg .., beginStop_state hwg .., rfl]
  · rw [hw]
    exact hw

/-- A held chain is locked. -/
theorem enterFullAlarm_locks (z : Nat) {s : State} (hkeys : (s.shut.map Prod.fst).Nodup) (h : s.pat.state = .held) :
    (enterFullAlarm z s).pat.state = .locked := by
  have hstate := releaseZone_state z (s := s.inFullAlarm z) hkeys
  rw [enterFullAlarm_pat]
  generalize releaseZone z (s.inFullAlarm z) = w at hstate
  have hwst : w.pat.state = .held ∨ w.pat.state = .locked :=
    hstate.imp (fun hs => hs.trans h) fun hs => hs.elim
      (fun hc => by
        have hmoves : s.pat.state.moves = true := hc.1
        rw [h] at hmoves
        cases hmoves)
      And.right
  unfold monitorFullAlarm
  rcases hwst with hw | hw <;> rw [hw]
  exacts [Paternoster.lock_state .., hw]

/-- Settles O39: the release and the reactions of the units in their order, each with its effect. -/
theorem fullAlarmEntry : Obligations.FullAlarmEntry := by
  unfold Obligations.FullAlarmEntry
  refine ⟨fun z e s he hzones hshut => ?_, fun z s => ⟨?_, ?_, ?_, ?_, ?_⟩, fun i x s hx hkeys => ?_⟩
  · have hkeys := nodup_of_rising hshut
    have hzone : ∀ y d, tget s.fire.zones y = some d → _ := fun y d hd => enterFullAlarm_zone z s (y := y) (e := d) hd
    obtain ⟨hline, hreg, hmgmt, hboard⟩ := enterFullAlarm_units z s
    obtain ⟨hlevel, hpushes, hclosing⟩ := enterFullAlarm_call z s
    obtain ⟨hgen0, hgen1, hclosed⟩ := enterFullAlarm_ann z s
    refine ⟨?_, fun y d hy hd => ?_, by rw [enterFullAlarm_fire], by rw [enterFullAlarm_fire], by rw [enterFullAlarm_fire],
      hline, hreg, hmgmt, hboard, hlevel, hpushes, hgen0, hgen1, fun h => ⟨hclosed.trans (if_pos h), hclosing h⟩,
      fun h => hclosed.trans (if_neg h), enterFullAlarm_stops z hkeys, enterFullAlarm_locks z hkeys, fun i sh hi hz => ?_, fun i sh hi hkind hA hB => ?_, rfl⟩
    · obtain ⟨m, hm⟩ := hzone z e he
      rw [if_pos rfl] at hm
      exact ⟨_, hm, rfl⟩
    · obtain ⟨m, hm⟩ := hzone y d hd
      rw [if_neg (Ne.symm hy)] at hm
      exact ⟨_, hm, rfl⟩
    · have hin := (inZone_iff sh z).mpr hz
      rw [enterFullAlarm_shut]
      obtain ⟨w, x, y, -, -, -, -, -, hy⟩ := releaseZone_entry (s := s.inFullAlarm z) hkeys hi hin
      refine ⟨y, hy, fun hst => ?_, fun hst hk => ?_, fun hst hk ht hother => ?_⟩
      · exact Option.some.inj (hy.symm.trans (releaseZone_unknown (s := s.inFullAlarm z) hkeys hi hin hst))
      · obtain ⟨y', hy', hr⟩ := releaseZone_reason (s := s.inFullAlarm z) hkeys hi hin hst hk
        rw [Option.some.inj (hy.symm.trans hy'), hr]
      · refine Option.some.inj (hy.symm.trans (releaseZone_warned (s := s.inFullAlarm z) hkeys hi hin hst hk ht ?_))
        have hcalm : ∀ y, sh.zoneA = y ∨ sh.zoneB = some y → (y != z && (s.inFullAlarm z).zoneFull y) = false := by
          intro y hsy
          by_cases hyz : y = z
          · simp [hyz]
          · rw [inFullAlarm_zoneFull hyz, hother y hsy hyz, Bool.and_false]
        unfold Shutter.inZone
        beta_reduce
        rw [hcalm _ (.inl rfl), Bool.false_or, Option.any_eq_false]
        exact fun y hy => hcalm y (.inr hy)
    · rw [enterFullAlarm_shut]
      refine releaseZone_outside (s := s.inFullAlarm z) hkeys hi (Bool.eq_false_iff.mpr fun hc => ?_) hkind
      exact ((inZone_iff sh z).mp hc).elim hA hB
  · intro h
    unfold monitorFullAlarm
    rcases h with h | h <;> rw [h]
  · intro h
    unfold monitorFullAlarm
    rw [h]
  · intro h
    unfold monitorFullAlarm
    rw [h]
  · intro h
    unfold monitorFullAlarm
    rcases h with h | h | h | h <;> rw [h]
  · have hlist : (tkeys s.shut fun e => e.inZone (· == z)) =
        (s.shut.filter fun e => e.2.zoneA == z || e.2.zoneB == some z).map Prod.fst :=
      congrArg (fun p => (s.shut.filter p).map Prod.fst) (funext fun e => inZone_eq e.2 z)
    rw [releaseZone_eq, hlist]
    refine congrArg (fun f => List.foldl f s _) ?_
    funext w i
    cases hx : tget w.shut i with
    | none => simp only [releaseOne, hx]
    | some x => exact releaseOne_some z hx
  · intro set fired drop awaiting
    have hset : ∀ {f : Shutter → Shutter}, x.released s.pat = f x → onShutter s i (Shutter.released s.pat) = set f :=
      fun h => onShutter_congr hkeys hx h
    have hkept : x.handsOver = false → release i s = onShutter s i (Shutter.released s.pat) := release_of_kept hkeys hx
    have hsame : x.handsOver = false → x.released s.pat = x → release i s = s :=
      fun hh h => (hkept hh).trans (onShutter_id hkeys hx h)
    refine ⟨fun h => hsame ?_ (released_unknown _ h), fun h => (hkept ?_).trans (hset ?_), fun hkind => ⟨fun h ht => ?_,
      fun h ht => ?_, fun h => ?_, fun h => ?_⟩, fun f hkind hlanding => ⟨fun h => ?_, fun h hr => ?_, fun h hr => ?_,
      fun h => ?_, fun h hc => ?_, fun h hc => ?_⟩⟩
    · simp only [Shutter.handsOver, h]
    · rcases h with h | h | h | h <;> simp only [Shutter.handsOver, h]
    · rcases h with h | h | h | h <;> exact released_eq h rfl _
    · exact (hkept (by simp only [Shutter.handsOver, h, hkind])).trans (hset (released_warned _ h hkind ht))
    · refine (hkept (by simp only [Shutter.handsOver, h, hkind])).trans (hset ((released_eq h hkind _).trans ?_))
      refine (warn_of_zero (e := { x with reason := .fire }) ht).trans ?_
      simp only [Shutter.warnExpiry, Shutter.warning, hkind]
      rw [← hkind]
      rfl
    · exact (hkept (by simp only [Shutter.handsOver, h, hkind])).trans (hset (released_eq h hkind _))
    · exact (hkept (by simp only [Shutter.handsOver, h, hkind])).trans (hset (released_eq h hkind _))
    · have hr : x.released s.pat = awaiting x := released_eq h hkind _
      rw [release_of_handsOver hkeys hx hlanding (by simp only [Shutter.handsOver, h, hkind]) (by rw [hr]) (by rw [hr]) (by rw [hr]),
        hset hr]
    · refine hsame (by simp [Shutter.handsOver, h, hkind, hr]) ((released_eq h hkind _).trans ?_)
      show { x with reason := .fire } = x
      rw [← hr]
    · have hrel : x.released s.pat = { x with reason := .fire } := released_eq h hkind _
      rw [release_of_handsOver hkeys hx hlanding (by simp [Shutter.handsOver, h, hkind, hr]) (by rw [hrel]; exact h)
        (by rw [hrel]) (by rw [hrel]), hset (f := fun x => { x with reason := .fire }) hrel]
    · have hr : x.released s.pat = { awaiting x with slot := if x.slot = some .raise then none else x.slot } :=
        released_eq h hkind _
      rw [release_of_handsOver hkeys hx hlanding (by simp only [Shutter.handsOver, h, hkind]) (by rw [hr]) (by rw [hr]) (by rw [hr]),
        hset (f := fun x => { awaiting x with slot := if x.slot = some .raise then none else x.slot }) hr]
    · have hr : x.released s.pat = awaiting x := (released_eq h hkind _).trans (if_pos hc)
      rw [release_of_handsOver hkeys hx hlanding (by simp [Shutter.handsOver, h, hkind, hc]) (by rw [hr]) (by rw [hr]) (by rw [hr]),
        hset hr]
    · exact (hkept (by simp [Shutter.handsOver, h, hkind, hc])).trans (hset ((released_eq h hkind _).trans (if_neg hc)))

end Sys2Proof.Machine
end
section
/-! SUPPORT. A poll answered and a poll missed: the frame that arrives, and the reaction of each owner. -/

namespace Sys2Proof.Machine

/-! ## A frame during the outstanding poll (R163) -/

section
variable {s t : State} {h : Hdr} {e : Station} {r : Report} {a w : Nat}

theorem frameParts_reportCommand (h : Hdr) (r : Report) : frameParts (reportCommand h r) = some (h, some r) := by
  cases r <;> rfl

theorem exec_reportCommand (h : Hdr) (r : Report) (s : State) : exec (reportCommand h r) s = finish s (receiveB h (some r) s) :=
  exec_frame (frameParts_reportCommand h r) s

theorem outstandingMissed_of_awaiting (hport : s.line.portB = .awaiting a w) :
    outstandingMissed s = pollMissed a (freePortB s) := by
  unfold outstandingMissed
  rw [hport]

theorem outstandingMissed_of_none (hport : ∀ a w, s.line.portB ≠ .awaiting a w) : outstandingMissed s = s := by
  unfold outstandingMissed
  split
  next a w h => exact absurd h (hport a w)
  next => rfl

theorem receiveB_of_awaiting (hport : s.line.portB = .awaiting a w) (hdst : h.dst ≠ 0) (hsrc : h.src ≠ 0)
    (r : Option Report) : receiveB h r s = frameDuringPoll a h r (freePortB s) := by
  unfold receiveB
  rw [hport]
  exact if_neg fun hc => hc.elim hdst hsrc

theorem receiveB_of_none (hport : ∀ a w, s.line.portB ≠ .awaiting a w) (h : Hdr) (r : Option Report) :
    receiveB h r s = s := by
  unfold receiveB
  split
  next a w hb => exact absurd hb (hport a w)
  next => rfl

/-- A report of the polled station: malformed it is a missed poll, and otherwise tapped and forwarded. -/
theorem receiveB_of_answers (hans : s.answers h e) (r : Report) : receiveB h (some r) s =
    if malformed h.src.toNat r (freePortB s) then pollMissed h.src.toNat (freePortB s)
    else forwardReport h r (tap h.src.toNat r (s.answeredBy h)) := by
  obtain ⟨⟨w, hport⟩, hdst, hsrc, he⟩ := hans
  rw [receiveB_of_awaiting hport hdst hsrc]
  have he' : tget (freePortB s).reg.stations h.src.toNat = some e := he
  unfold frameDuringPoll
  dsimp only
  rw [he']
  dsimp only
  split
  · rfl
  · exact if_pos rfl

theorem malformed_presence : malformed a .presence s = false := rfl

theorem answered_of_wellFormed (hans : s.answers h e) (hwf : malformed h.src.toNat r (freePortB s) = false) :
    receiveB h (some r) s = forwardReport h r (tap h.src.toNat r (s.answeredBy h)) := by
  rw [receiveB_of_answers hans, if_neg (Bool.eq_false_iff.mp hwf)]

theorem receiveB_presence (hans : s.answers h e) : receiveB h (some .presence) s = s.answeredBy h := by
  rw [answered_of_wellFormed hans rfl, forwardReport, if_pos rfl, tap]
  exact ite_self _

/-! ## A poll answered (R166) -/

/-- The station PRESENT with no poll missed. -/
def State.heard (a : Nat) (s : State) : State := onStation s a fun e => { e with miss := 0, presence := .present }

theorem pollAnswered_eq (he : tget s.reg.stations a = some e) : pollAnswered a s =
    if e.returns = true ∧ s.armed = true then ownerReturn a e.role (s.heard a) else s.heard a := by
  unfold pollAnswered
  rw [he]
  rfl

theorem pollAnswered_of_present (he : tget s.reg.stations a = some e)
    (h : e.presence = .present ∨ s.armed = false ∨ (e.presence = .unseen ∧ e.role = .landing)) :
    pollAnswered a s = s.heard a := by
  rw [pollAnswered_eq he]
  refine if_neg fun ⟨hreturns, harmed⟩ => ?_
  unfold Station.returns at hreturns
  rcases h with h | h | ⟨h, hr⟩
  · rw [h] at hreturns
    cases hreturns
  · rw [h] at harmed
    cases harmed
  · rw [h, hr] at hreturns
    cases hreturns

theorem pollAnswered_of_back (he : tget s.reg.stations a = some e) (hback : e.presence ≠ .present) (harmed : s.armed = true)
    (hrole : e.role = .landing → e.presence = .missing) : pollAnswered a s = ownerReturn a e.role (s.heard a) := by
  rw [pollAnswered_eq he]
  refine if_pos ⟨?_, harmed⟩
  unfold Station.returns
  cases hp : e.presence with
  | present => exact absurd hp hback
  | missing => rfl
  | unseen =>
    rw [hp] at hrole
    exact bne_iff_ne.mpr fun hc => nomatch hrole hc

theorem detectorReturns_of (i : Nat) {d : Detector} (hd : tget s.fire.detectors i = some d) :
    detectorReturns i s = refreshZoneFault d.zone (onDetector s i fun d => { d with fault := false }) := by
  unfold detectorReturns
  rw [hd]

theorem callPointReturns_of (i : Nat) {c : CallPoint} (hc : tget s.fire.callPoints i = some c) :
    callPointReturns i s = refreshZoneFault c.zone (onCallPoint s i fun c => { c with fault := false }) := by
  unfold callPointReturns
  rw [hc]

theorem detectorMissing_of (i : Nat) {d : Detector} (hd : tget s.fire.detectors i = some d) :
    detectorMissing i s = refreshZoneFault d.zone (onDetector s i fun d => { d with fault := true, run := 0 }) := by
  unfold detectorMissing
  rw [hd]

theorem callPointMissing_of (i : Nat) {c : CallPoint} (hc : tget s.fire.callPoints i = some c) :
    callPointMissing i s = refreshZoneFault c.zone (onCallPoint s i fun c => { c with fault := true }) := by
  unfold callPointMissing
  rw [hc]

theorem ampReturns_of (f : Nat) {x : Amp} (hx : tget s.ann.amps f = some x) : ampReturns f s =
    if s.issuing then if x.state = .idle then giveFirePhrase f s else onAmp s f fun b => { b with owed := true } else s := by
  unfold ampReturns
  rw [hx]

/-- The fault flag of a zone, from its entries'. -/
theorem entryFault_iff (u : FireUnit) (z : Nat) : u.entryFault z = true ↔
    (∃ d ∈ u.detectors, d.2.zone = z ∧ d.2.fault = true) ∨ ∃ c ∈ u.callPoints, c.2.zone = z ∧ c.2.fault = true := by
  simp only [FireUnit.entryFault, tany, Bool.or_eq_true, List.any_eq_true, Bool.and_eq_true, beq_iff_eq]

theorem refreshZoneFault_eq (z : Nat) (s : State) :
    refreshZoneFault z s = onZone s z fun x => { x with fault := s.fire.entryFault z } := rfl

/-! ## What a known end of an event shows of the Fire Zone Unit -/

/-- The Port B arbiter leaves the Fire Zone Unit. -/
theorem fire_of_served (h : t.records = s.served) : t.records.fire = s.records.fire := by
  rw [h]
  show (arbiterB 128 s).records.fire = s.records.fire
  unfold State.records
  dsimp only
  rw [(arbiterB_keeps 128 s).2.1]

theorem detectors_of_served (h : t.records = s.served) : t.fire.detectors = s.fire.detectors := by
  have hunit := congrArg (fun u : FireUnit => u.detectors) (fire_of_served h)
  exact hunit

theorem callPoints_of_served (h : t.records = s.served) : t.fire.callPoints = s.fire.callPoints := by
  have hunit := congrArg (fun u : FireUnit => u.callPoints) (fire_of_served h)
  exact hunit

theorem zone_of_served (h : t.records = s.served) {z : Nat} {e : Zone} (he : tget s.fire.zones z = some e) :
    ∃ f, tget t.fire.zones z = some f ∧ { f with mark := false } = { e with mark := false } := by
  have hzones := congrArg (fun u : FireUnit => tget u.zones z) (fire_of_served h)
  change tget (tmap t.fire.zones _) z = tget (tmap s.fire.zones _) z at hzones
  rw [tget_tmap, tget_tmap, he] at hzones
  exact Option.map_eq_some_iff.mp hzones

/-- An event that changes the fault flag of a detector marks its zone while Port A is busy (R66). -/
theorem zone_marked_of_detector {c : Instr} {u : State} (hpower : c ≠ .powerOn) (hpin : c ≠ .resetPinReset)
    (hsent : c ≠ .portATransmissionComplete) (hbusy : s.line.portA.isSome = true) (hexec : exec c s = .next t)
    (hrec : t.records = u.served) {z i : Nat} (hz : (tget s.fire.zones z).isSome = true)
    (hu : (tget u.fire.zones z).isSome = true) {d g : Detector} (hd : tget s.fire.detectors i = some d)
    (hg : tget u.fire.detectors i = some g) (hdz : d.zone = z) (hgz : g.zone = z) (hne : d.fault ≠ g.fault) :
    ∃ f, tget t.fire.zones z = some f ∧ f.mark = true := by
  obtain ⟨x, hx⟩ := Option.isSome_iff_exists.mp hz
  obtain ⟨y, hy⟩ := Option.isSome_iff_exists.mp hu
  obtain ⟨f, hf, -⟩ := zone_of_served hrec hy
  obtain ⟨-, -, hzone, -⟩ := imageAndCallStatesKept.2 c s t hpower hpin hsent hbusy hexec
  exact ⟨f, hf, (hzone z x f hx hf).2.2.1 i d g hd ((congrArg (tget · i) (detectors_of_served hrec)).trans hg) hdz hgz
    fun hc => hne (congrArg Prod.snd hc)⟩

/-- So does one that changes that of a call point. -/
theorem zone_marked_of_callPoint {c : Instr} {u : State} (hpower : c ≠ .powerOn) (hpin : c ≠ .resetPinReset)
    (hsent : c ≠ .portATransmissionComplete) (hbusy : s.line.portA.isSome = true) (hexec : exec c s = .next t)
    (hrec : t.records = u.served) {z i : Nat} (hz : (tget s.fire.zones z).isSome = true)
    (hu : (tget u.fire.zones z).isSome = true) {d g : CallPoint} (hd : tget s.fire.callPoints i = some d)
    (hg : tget u.fire.callPoints i = some g) (hdz : d.zone = z) (hgz : g.zone = z) (hne : d.fault ≠ g.fault) :
    ∃ f, tget t.fire.zones z = some f ∧ f.mark = true := by
  obtain ⟨x, hx⟩ := Option.isSome_iff_exists.mp hz
  obtain ⟨y, hy⟩ := Option.isSome_iff_exists.mp hu
  obtain ⟨f, hf, -⟩ := zone_of_served hrec hy
  obtain ⟨-, -, hzone, -⟩ := imageAndCallStatesKept.2 c s t hpower hpin hsent hbusy hexec
  exact ⟨f, hf, (hzone z x f hx hf).2.2.2 i d g hd ((congrArg (tget · i) (callPoints_of_served hrec)).trans hg) hdz hgz
    fun hc => hne (congrArg Prod.snd hc)⟩

theorem tget_onZone_isSome {z y : Nat} {f : Zone → Zone} (h : (tget s.fire.zones y).isSome = true) :
    (tget (onZone s z f).fire.zones y).isSome = true := by
  show (tget (tmod s.fire.zones z f) y).isSome = true
  rw [tget_tmod]
  split
  next hz =>
    subst hz
    rw [Option.isSome_map]
    exact h
  next => exact h

theorem tget_onDetector {i : Nat} {d : Detector} (hd : tget s.fire.detectors i = some d) (f : Detector → Detector) :
    tget (onDetector s i f).fire.detectors i = some (f d) := by
  show tget (tmod s.fire.detectors i f) i = _
  rw [tget_tmod, if_pos rfl, hd]
  rfl

theorem tget_onCallPoint {i : Nat} {c : CallPoint} (hc : tget s.fire.callPoints i = some c) (f : CallPoint → CallPoint) :
    tget (onCallPoint s i f).fire.callPoints i = some (f c) := by
  show tget (tmod s.fire.callPoints i f) i = _
  rw [tget_tmod, if_pos rfl, hc]
  rfl

end

/-- Settles O40: the answer, and the return by the role of the station. -/
theorem answeredPolls : Obligations.AnsweredPolls := by
  unfold Obligations.AnsweredPolls
  refine ⟨fun h e s hans => endsAs_finish_of_eq (receiveB_presence hans), fun a e s he => ?_⟩
  intro v
  refine ⟨fun h => pollAnswered_of_present he h, fun hback harmed => ?_, fun h z hans ha hback harmed hbusy hz hentry => ?_,
    fun z w => ?_⟩
  · have hreturn : (e.role = .landing → e.presence = .missing) → pollAnswered a s = ownerReturn a e.role v :=
      pollAnswered_of_back he hback harmed
    have hown : ∀ {r : Role}, r ≠ .landing → e.role = r → pollAnswered a s = ownerReturn a r v := by
      rintro r hr rfl
      exact hreturn fun hc => absurd hc hr
    refine ⟨fun h => ?_, fun i h hi => ?_, fun f h hm hf => ?_, fun i h hi => ?_, fun i d h hi hd => ?_,
      fun i c h hi hc => ?_, fun f x h hf hx => ?_⟩
    · rcases h with h | h | h <;> exact hown (by nofun) h
    · rw [hown (by nofun) h]
      exact congrArg (fun j => withEntry j (fun i s => onShutter s i Shutter.stationBack) v) hi
    · rw [hreturn fun _ => hm, h]
      show withEntry (landingAt s a) _ v = _
      rw [hf]
      rfl
    · rw [hown (by nofun) h]
      show withEntry (ringerAt s a) _ v = _
      rw [hi]
      rfl
    · rw [hown (by nofun) h]
      show withEntry (detectorAt s a) _ v = _
      rw [hi]
      exact detectorReturns_of (s := v) i hd
    · rw [hown (by nofun) h]
      show withEntry (callPointAt s a) _ v = _
      rw [hi]
      exact callPointReturns_of (s := v) i hc
    · have hissuing : v.issuing = s.issuing := rfl
      have hamp : pollAnswered a s = ampReturns f v := by
        rw [hown (by nofun) h]
        show withEntry (ampAt s a) _ v = _
        rw [hf]
        rfl
      rw [hamp, ampReturns_of (s := v) f hx, hissuing]
      refine ⟨fun hi => if_neg (Bool.eq_false_iff.mp hi), fun hi hst => ?_, fun hi hst => ?_⟩ <;> rw [if_pos hi]
      · exact if_pos hst
      · exact if_neg hst
  · have hexec : exec (.presenceReport h) s = .next (settle s (s.answeredBy h)) :=
      congrArg (fun u => Host.Outcome.next (settle s u)) (receiveB_presence hans)
    have hrec := settle_records s (s.answeredBy h)
    have hfree : tget (freePortB s).reg.stations h.src.toNat = some e := hans.2.2.2
    have hown : ∀ {r : Role}, r ≠ .landing → e.role = r →
        s.answeredBy h = ownerReturn h.src.toNat r ((freePortB s).heard h.src.toNat) := by
      rintro r hr rfl
      exact pollAnswered_of_back hfree hback harmed fun hc => absurd hc hr
    have hend : ∀ f, tget (settle s (s.answeredBy h)).fire.zones z = some f ∧ f.mark = true →
        ∃ t f, exec (.presenceReport h) s = .next t ∧ tget t.fire.zones z = some f ∧ f.mark = true :=
      fun f hf => ⟨_, f, hexec, hf⟩
    rcases hentry with ⟨hrole, i, d, hi, hd, hdz, hfault⟩ | ⟨hrole, i, d, hi, hd, hdz, hfault⟩
    · have hu : s.answeredBy h = refreshZoneFault d.zone
          (onDetector ((freePortB s).heard h.src.toNat) i fun d => { d with fault := false }) := by
        rw [hown (by nofun) hrole]
        show withEntry (detectorAt s h.src.toNat) _ _ = _
        rw [ha, hi]
        exact detectorReturns_of (s := (freePortB s).heard a) i hd
      rw [hu] at hexec hrec hend
      obtain ⟨f, hf⟩ := zone_marked_of_detector (c := .presenceReport h) (by nofun) (by nofun) (by nofun) hbusy hexec hrec hz
        (by rw [refreshZoneFault_eq]; exact tget_onZone_isSome hz) hd (tget_onDetector hd _) hdz hdz (by rw [hfault]; nofun)
      exact hend f hf
    · have hu : s.answeredBy h = refreshZoneFault d.zone
          (onCallPoint ((freePortB s).heard h.src.toNat) i fun d => { d with fault := false }) := by
        rw [hown (by nofun) hrole]
        show withEntry (callPointAt s h.src.toNat) _ _ = _
        rw [ha, hi]
        exact callPointReturns_of (s := (freePortB s).heard a) i hd
      rw [hu] at hexec hrec hend
      obtain ⟨f, hf⟩ := zone_marked_of_callPoint (c := .presenceReport h) (by nofun) (by nofun) (by nofun) hbusy hexec hrec hz
        (by rw [refreshZoneFault_eq]; exact tget_onZone_isSome hz) hd (tget_onCallPoint hd _) hdz hdz (by rw [hfault]; nofun)
      exact hend f hf
  · dsimp only
    intro flag hflag
    rw [refreshZoneFault_eq, show w.fire.entryFault z = flag from Bool.eq_iff_iff.mpr ((entryFault_iff _ _).trans hflag.symm)]

end Sys2Proof.Machine
end
section
/-! SUPPORT. A poll missed, and the frames on Port B that answer no poll. -/

namespace Sys2Proof.Machine

/-! ## A poll missed (R165) -/

/-- The station with the miss count `n`. -/
def State.missed (a n : Nat) (s : State) : State := onStation s a fun x => { x with miss := n }

/-- The station MISSING with the miss count `n`. -/
def State.lost (a n : Nat) (s : State) : State := onStation s a fun x => { x with miss := n, presence := .missing }

section
variable {s t : State} {a w : Nat} {e : Station}

theorem pollMissed_of_short (he : tget s.reg.stations a = some e)
    (h : min (e.miss + 1) e.missLimit ≠ e.missLimit ∨ e.presence = .missing) :
    pollMissed a s = s.missed a (min (e.miss + 1) e.missLimit) := by
  have hlost : (min (e.miss + 1) e.missLimit == e.missLimit && e.presence != .missing) = false := by
    rcases h with h | h <;> simp [h]
  unfold pollMissed
  rw [he]
  dsimp only
  simp only [hlost, Bool.false_and, Bool.false_eq_true, if_false]
  rfl

theorem pollMissed_of_lost (he : tget s.reg.stations a = some e) (hlimit : min (e.miss + 1) e.missLimit = e.missLimit)
    (hpresence : e.presence ≠ .missing) : pollMissed a s =
      if s.armed then ownerLoss a e.role (s.lost a (min (e.miss + 1) e.missLimit))
      else s.lost a (min (e.miss + 1) e.missLimit) := by
  have hlost : (min (e.miss + 1) e.missLimit == e.missLimit && e.presence != .missing) = true := by
    rw [Bool.and_eq_true, beq_iff_eq, bne_iff_ne]
    exact ⟨hlimit, hpresence⟩
  unfold pollMissed
  rw [he]
  dsimp only
  simp only [hlost, Bool.true_and, if_true]
  rfl

/-- With no index twice, two changes that agree on the one amplifier of a floor are one. -/
theorem onAmp_congr {f : Nat} {x : Amp} {g k : Amp → Amp} (hkeys : (s.ann.amps.map Prod.fst).Nodup)
    (hx : tget s.ann.amps f = some x) (h : g x = k x) : onAmp s f g = onAmp s f k := by
  have htable : tmod s.ann.amps f g = tmod s.ann.amps f k := by
    rw [tmod_eq_map, tmod_eq_map]
    refine List.map_congr_left fun y hy => ?_
    split
    next hf =>
      obtain ⟨i, b⟩ := y
      subst hf
      obtain rfl : b = x := Option.some.inj ((tget_of_mem hkeys hy).symm.trans hx)
      rw [h]
    next => rfl
  simp only [onAmp, State.onAnn, htable]

/-- The amplifier with its slot emptied and no gap timer. -/
def Amp.emptied (b : Amp) : Amp := { b with slot := none, gapTimer := none, owed := false }

theorem ampMissing_of (f : Nat) {x : Amp} (hx : tget s.ann.amps f = some x) (hkeys : (s.ann.amps.map Prod.fst).Nodup) :
    ampMissing f s = if x.state = .gated then stepCheck (leaveGate f x (onAmp s f fun b => b.emptied.idle))
      else stepCheck (onAmp s f Amp.emptied) := by
  unfold ampMissing
  rw [hx]
  dsimp only
  by_cases hgated : x.state = .gated
  · rw [if_pos hgated, if_pos hgated]
    exact congrArg (fun u => stepCheck (leaveGate f x u)) (onAmp_congr hkeys hx (if_pos hgated))
  · rw [if_neg hgated, if_neg hgated]
    exact congrArg stepCheck (onAmp_congr hkeys hx (if_neg hgated))

theorem malformed_iff (a : Nat) (r : Report) (s : State) : malformed a r s = true ↔ match r with
    | .callPoint v => 1 < v.toNat
    | .chain p m c => 1 < m.toNat ∨ 1 < c.toNat ∨ (s.armed = true ∧ s.driveStation = some a ∧
        ∃ g, s.pat.geometry = some g ∧ g.cars * g.pitch ≤ p.toNat)
    | .landing _ _ g t => 1 < g.toNat ∨ 1 < t.toNat
    | .shutterPosition v => 5 < v.toNat
    | .push k => 7 < k.toNat
    | .answer c => 64 < c.toNat
    | .presence | .detectorLevel _ | .ringDone _ | .phraseDone _ => False := by
  cases r with
  | chain p m c =>
    simp only [malformed, reportListed, Bool.or_eq_true, Bool.and_eq_true, Bool.not_eq_true', Bool.and_eq_false_iff,
      decide_eq_false_iff_not, Nat.not_le, beq_iff_eq, Option.any_eq_true, decide_eq_true_iff, Geometry.loop, ge_iff_le,
      or_assoc, and_assoc]
  | landing u d g t =>
    simp only [malformed, reportListed, Bool.or_false, Bool.not_eq_true', Bool.and_eq_false_iff, decide_eq_false_iff_not,
      Nat.not_le]
  | callPoint v | shutterPosition v | push v | answer v =>
    simp only [malformed, reportListed, Bool.or_false, Bool.not_eq_true', decide_eq_false_iff_not, Nat.not_le]
  | presence | detectorLevel v | ringDone v | phraseDone v =>
    simp [malformed, reportListed]

/-! ## The zone of a faulty entry -/

theorem tget_refreshed {z : Nat} {x : Zone} (hx : tget s.fire.zones z = some x) (h : s.fire.entryFault z = true) :
    tget (refreshZoneFault z s).fire.zones z = some { x with fault := true } := by
  show tget (tmod s.fire.zones z _) z = _
  rw [tget_tmod, if_pos rfl, hx, ← h]
  rfl

theorem entryFault_of_detector {z i : Nat} {d : Detector} (hd : tget s.fire.detectors i = some d) (hz : d.zone = z)
    (hf : d.fault = true) : s.fire.entryFault z = true :=
  (entryFault_iff _ z).mpr (.inl ⟨(i, d), mem_of_tget hd, hz, hf⟩)

theorem entryFault_of_callPoint {z i : Nat} {c : CallPoint} (hc : tget s.fire.callPoints i = some c) (hz : c.zone = z)
    (hf : c.fault = true) : s.fire.entryFault z = true :=
  (entryFault_iff _ z).mpr (.inr ⟨(i, c), mem_of_tget hc, hz, hf⟩)

end

/-- Settles O41: the events at which a poll is missed, the malformed reports, and the loss by the role of the station. -/
theorem missedPolls : Obligations.MissedPolls := by
  unfold Obligations.MissedPolls
  refine ⟨fun s a w hport => ?_, fun s hport => ?_, fun h e r s hans hbad => ?_, fun a r s => malformed_iff a r s,
    fun a e s he => ?_⟩
  · have hmiss := outstandingMissed_of_awaiting hport
    exact ⟨endsAs_finish_of_eq hmiss, endsAs_finish_of_eq hmiss, endsAs_finish_of_eq hmiss⟩
  · have hmiss := outstandingMissed_of_none hport
    exact ⟨endsAs_finish_of_eq hmiss, endsAs_finish_of_eq hmiss, endsAs_finish_of_eq hmiss⟩
  · rw [exec_reportCommand]
    exact endsAs_finish_of_eq ((receiveB_of_answers hans r).trans (if_pos hbad))
  · intro n
    refine ⟨pollMissed_of_short he, fun hn hp => ?_⟩
    intro v
    have hloss := pollMissed_of_lost he hn hp
    refine ⟨fun h => ?_, fun harmed => ?_⟩
    · rw [hloss]
      split
      · rcases h with h | h
        · simp_all
        · rcases h with h | h | h | h <;> (rw [h]; rfl)
      · rfl
    · rw [if_pos harmed] at hloss
      refine ⟨fun h => ?_, fun i h hi => ?_, fun i d h hi hd => ?_, fun i c h hi hc => ?_, fun f x h hf hx => ?_,
        fun z w hport hz hentry => ?_⟩
      · rw [hloss, h]
        rfl
      · rw [hloss, h]
        exact congrArg (fun j => withEntry j (fun i s => onShutter s i Shutter.stationLost) v) hi
      · rw [hloss, h]
        exact (congrArg (fun j => withEntry j detectorMissing v) hi).trans (detectorMissing_of (s := v) i hd)
      · rw [hloss, h]
        exact (congrArg (fun j => withEntry j callPointMissing v) hi).trans (callPointMissing_of (s := v) i hc)
      · rw [h] at hloss
        have hamp := fun hkeys => hloss.trans ((congrArg (fun j => withEntry j ampMissing v) hf).trans
          (ampMissing_of (s := v) f hx hkeys))
        exact ⟨fun hst hkeys => (hamp hkeys).trans (if_neg hst), fun hst hkeys => (hamp hkeys).trans (if_pos hst)⟩
      · obtain ⟨x, hx⟩ := Option.isSome_iff_exists.mp hz
        have hexec : exec .answerWindowExpiry s = .next (settle s (pollMissed a (freePortB s))) :=
          congrArg (fun u => Host.Outcome.next (settle s u)) (outstandingMissed_of_awaiting hport)
        have hrec := settle_records s (pollMissed a (freePortB s))
        have hloss' := pollMissed_of_lost (s := freePortB s) he hn hp
        rw [if_pos (show (freePortB s).armed = true from harmed)] at hloss'
        have hend : ∀ u : State, pollMissed a (freePortB s) = refreshZoneFault z u → tget u.fire.zones z = some x →
            u.fire.entryFault z = true →
            (∀ t, s.line.portA.isSome = true → exec .answerWindowExpiry s = .next t → t.records = (refreshZoneFault z u).served →
              ∃ f, tget t.fire.zones z = some f ∧ f.mark = true) →
            ∃ t f, exec .answerWindowExpiry s = .next t ∧ tget t.fire.zones z = some f ∧ f.fault = true ∧
              (s.line.portA.isSome = true → f.mark = true) := by
          intro u hu hux hfault hmark
          rw [hu] at hexec hrec
          obtain ⟨f, hf, heq⟩ := zone_of_served hrec (tget_refreshed hux hfault)
          refine ⟨_, f, hexec, hf, (congrArg (fun x : Zone => x.fault) heq :), fun hbusy => ?_⟩
          obtain ⟨f', hf', hm⟩ := hmark _ hbusy hexec hrec
          rw [hf] at hf'
          cases hf'
          exact hm
        rcases hentry with ⟨hrole, i, d, hi, hd, rfl, hfault⟩ | ⟨hrole, i, c, hi, hc, rfl, hfault⟩
        · rw [hrole] at hloss'
          have hd' := tget_onDetector (s := (freePortB s).lost a n) hd fun d => { d with fault := true, run := 0 }
          refine hend _ (hloss'.trans ((congrArg (fun j => withEntry j detectorMissing _) hi).trans
            (detectorMissing_of (s := (freePortB s).lost a n) i hd))) hx (entryFault_of_detector hd' rfl rfl)
            fun t hbusy ht hrec => ?_
          exact zone_marked_of_detector (c := .answerWindowExpiry) (by nofun) (by nofun) (by nofun) hbusy ht hrec hz
            (by rw [refreshZoneFault_eq]; exact tget_onZone_isSome hz) hd hd' rfl rfl (by rw [hfault]; nofun)
        · rw [hrole] at hloss'
          have hc' := tget_onCallPoint (s := (freePortB s).lost a n) hc fun c => { c with fault := true }
          refine hend _ (hloss'.trans ((congrArg (fun j => withEntry j callPointMissing _) hi).trans
            (callPointMissing_of (s := (freePortB s).lost a n) i hc))) hx (entryFault_of_callPoint hc' rfl rfl)
            fun t hbusy ht hrec => ?_
          exact zone_marked_of_callPoint (c := .answerWindowExpiry) (by nofun) (by nofun) (by nofun) hbusy ht hrec hz
            (by rw [refreshZoneFault_eq]; exact tget_onZone_isSome hz) hc hc' rfl rfl (by rw [hfault]; nofun)

end Sys2Proof.Machine
end
section
/-! SUPPORT. The frames on Port B that are no answer, what joins the forwarded-report FIFO, and the reports of detectors
and call points. -/

namespace Sys2Proof.Machine

/-! ## The forwarded reports at the end of an event -/

section
variable {s u : State} {h : Hdr} {e : Station} {a w : Nat}

theorem settle_reports (hbusy : s.line.portA.isSome = true) (b : State) : (settle b s).line.reports = s.line.reports := by
  obtain ⟨c, hsettle⟩ := settle_of_busy hbusy b
  rw [hsettle]
  exact congrArg (fun l : List Frame × _ => l.1) (arbiterB_portASide 128 s)

/-- While Port A is busy the FIFO stands as the command's effect leaves it. -/
theorem shows_of {c : Instr} {l : List Frame} (hexec : exec c s = finish s u) (hport : u.line.portA = s.line.portA)
    (hl : u.line.reports = l) : s.line.portA.isSome = true → ∃ t, exec c s = .next t ∧ t.line.reports = l :=
  fun hbusy => ⟨_, hexec, (settle_reports (hport ▸ hbusy) s).trans hl⟩

/-- The FIFO after a report was to join it. -/
def joinedReports (h : Hdr) (x : Report) (l : List Frame) : List Frame :=
  if x ≠ .presence ∧ l.length < 24 then l ++ [reportFrame h x] else l

theorem forwardReport_eq (h : Hdr) (r : Report) (v : State) : forwardReport h r v =
    if r = .presence then v
    else if v.line.reports.length < 24 then v.onLine fun l => { l with reports := l.reports ++ [reportFrame h r] }
    else v.onLine fun l => { l with reportOverflow := true } := by
  unfold forwardReport
  by_cases hp : r = .presence
  · rw [if_pos hp, if_pos hp]
  · rw [if_neg hp, if_neg hp]
    by_cases hroom : v.line.reports.length < 24
    · rw [if_pos hroom]
      exact congrArg (fun l => { v with line := l }) (if_pos hroom)
    · rw [if_neg hroom]
      exact congrArg (fun l => { v with line := l }) (if_neg hroom)

theorem forwardReport_reports (h : Hdr) (r : Report) (v : State) :
    (forwardReport h r v).line.reports = joinedReports h r v.line.reports := by
  rw [forwardReport_eq, joinedReports]
  by_cases hp : r = .presence
  · rw [if_pos hp, if_neg fun hc => hc.1 hp]
  · rw [if_neg hp]
    by_cases hroom : v.line.reports.length < 24
    · rw [if_pos hroom, if_pos ⟨hp, hroom⟩]
      rfl
    · rw [if_neg hroom, if_neg fun hc => hroom hc.2]
      rfl

theorem missed_line (a : Nat) (s : State) : (pollMissed a (freePortB s)).line = { s.line with portB := .free } :=
  (pollMissed_keeps a (freePortB s)).1

theorem missed_armed (a : Nat) (s : State) : (pollMissed a (freePortB s)).armed = s.armed :=
  congrArg (fun m : Mgmt => m.mode == .armed) (pollMissed_keeps a (freePortB s)).2.2.1

theorem answeredBy_line (h : Hdr) (s : State) : (s.answeredBy h).line = { s.line with portB := .free } :=
  (pollAnswered_keeps h.src.toNat (freePortB s)).1

theorem answeredBy_armed (h : Hdr) (s : State) : (s.answeredBy h).armed = s.armed :=
  congrArg (fun m : Mgmt => m.mode == .armed) (pollAnswered_keeps h.src.toNat (freePortB s)).2.2.1

theorem tap_of_configuring (hmode : s.armed = false) (a : Nat) (r : Report) : tap a r s = s :=
  if_neg (Bool.eq_false_iff.mp hmode)

/-! ## Frames of other stations and of strangers -/

theorem frameDuringPoll_known (he : tget s.reg.stations h.src.toNat = some e) (hne : h.src.toNat ≠ a) (r : Option Report) :
    frameDuringPoll a h r s = match r with
      | none => pollMissed a s
      | some x =>
        if malformed h.src.toNat x s then pollMissed a s
        else if e.presence = .present then forwardReport h x (tap h.src.toNat x (pollMissed a s)) else pollMissed a s := by
  unfold frameDuringPoll
  dsimp only
  rw [he]
  dsimp only
  cases r with
  | none => rfl
  | some x =>
    dsimp only
    rw [if_neg hne]

theorem frameDuringPoll_stranger (he : tget s.reg.stations h.src.toNat = none) (r : Option Report) :
    frameDuringPoll a h r s = strangerArrives h r (pollMissed a s) := by
  unfold frameDuringPoll
  dsimp only
  rw [he]

end

/-- Settles O42: with no poll outstanding nothing happens; otherwise by who sends the frame, and what joins the FIFO. -/
theorem untappedFramesOnPortB : Obligations.UntappedFramesOnPortB := by
  unfold Obligations.UntappedFramesOnPortB
  intro joined shows
  have hjoined : ∀ h x l, joined h x l = joinedReports h x l := fun _ _ _ => rfl
  refine ⟨fun h r s hwf => ⟨endsAs_finish s s, fun hport => ⟨endsAs_finish_of_eq (receiveB_of_none hport h r),
    endsAs_finish_of_eq (receiveB_of_none hport h r), fun x => ?_⟩, fun a w hport => ?_⟩, fun h e r s hans => ?_⟩
  · rw [exec_reportCommand]
    exact endsAs_finish_of_eq (receiveB_of_none hport h _)
  · intro missed reports
    obtain ⟨hdst, hsrc⟩ : h.dst ≠ 0 ∧ h.src ≠ 0 := by simpa [Hdr.wf] using hwf
    have hreceive := receiveB_of_awaiting hport hdst hsrc r
    have hline : missed.line = { s.line with portB := .free } := missed_line a s
    have hends : ∀ (c : Instr) (v : State), exec c s = finish s (receiveB h r s) →
        frameDuringPoll a h r (freePortB s) = v → v.line.portA = s.line.portA →
        EndsAs (exec c s) v ∧ shows c s v.line.reports := by
      intro c v hc hv hA
      have hexec : exec c s = finish s v := by rw [hc, hreceive, hv]
      exact ⟨by rw [hexec]; exact endsAs_finish s v, shows_of hexec hA rfl⟩
    have hmissed : ∀ c : Instr, exec c s = finish s (receiveB h r s) → frameDuringPoll a h r (freePortB s) = missed →
        EndsAs (exec c s) missed ∧ shows c s reports := by
      intro c hc hv
      have := hends c missed hc hv (by rw [hline])
      rwa [hline] at this
    have hforward : ∀ (c : Instr) (x : Report) (v : State), exec c s = finish s (receiveB h r s) →
        frameDuringPoll a h r (freePortB s) = forwardReport h x v → v.line.portA = s.line.portA →
        v.line.reports = reports → EndsAs (exec c s) (forwardReport h x v) ∧ shows c s (joined h x reports) := by
      intro c x v hc hv hA hR
      have := hends c _ hc hv ((forwardReport_ports h x v).portA.trans hA)
      rwa [forwardReport_reports, hR] at this
    refine ⟨fun e hne he => ?_, fun he => ?_⟩
    · intro c
      have hc : exec c s = finish s (receiveB h r s) := exec_frame rfl s
      have hframe := frameDuringPoll_known (s := freePortB s) he hne r
      refine ⟨fun hcase => hmissed c hc (hframe.trans ?_), fun x hx hbad => hmissed c hc (hframe.trans ?_),
        fun x hx hgood hpresent => ?_⟩
      · cases r with
        | none => rfl
        | some x =>
          dsimp only
          rw [if_neg (hcase.resolve_right nofun), ite_self]
      · subst hx
        exact if_pos hbad
      · subst hx
        refine hforward c x _ hc (hframe.trans ?_) ?_ ?_
        · exact (if_neg (Bool.eq_false_iff.mp hgood)).trans (if_pos hpresent)
        · rw [(tap_keeps ..).1, missed_line]
        · rw [(tap_keeps ..).1, missed_line]
    · intro noted c
      have hc : exec c s = finish s (receiveB h r s) := exec_frame rfl s
      have hframe := frameDuringPoll_stranger (s := freePortB s) (a := a) he r
      have harmed : missed.armed = s.armed := missed_armed a s
      have hnoted : noted.line.portA = s.line.portA ∧ noted.line.reports = reports := by
        constructor <;> (show _ = _; rw [show noted.line = { missed.line with stranger := some h.src.toNat } from rfl, hline])
      refine ⟨fun hcase hlist => ?_, fun x hx hlist hmode => ?_, fun x hx hlist => hmissed c hc (hframe.trans ?_)⟩
      · have hstep : frameDuringPoll a h r (freePortB s) = noted := by
          rw [hframe]
          cases r with
          | none => rfl
          | some x =>
            unfold strangerArrives
            dsimp only
            rw [hlist x rfl, hcase.resolve_left nofun |> harmed.trans]
            rfl
        have := hends c noted hc hstep hnoted.1
        rwa [hnoted.2] at this
      · subst hx
        refine hforward c x noted hc (hframe.trans ?_) hnoted.1 hnoted.2
        unfold strangerArrives
        dsimp only
        rw [hlist, harmed.trans hmode]
        rfl
      · subst hx
        unfold strangerArrives
        dsimp only
        rw [hlist]
        rfl
  · intro c
    have hexec : exec c s = finish s (receiveB h (some r) s) := exec_reportCommand h r s
    refine ⟨fun hmode hlist => ?_, fun hgood => ?_, fun hbad => ?_, fun v => forwardReport_eq h r v⟩
    · have hgood : malformed h.src.toNat r (freePortB s) = false := by
        have harmed : (freePortB s).armed = false := hmode
        unfold malformed
        rw [hlist, harmed]
        cases r <;> rfl
      rw [hexec, answered_of_wellFormed hans hgood, tap_of_configuring ((answeredBy_armed h s).trans hmode)]
      exact endsAs_finish ..
    · rw [answered_of_wellFormed hans hgood] at hexec
      refine shows_of hexec ((forwardReport_ports ..).portA.trans ?_) ((forwardReport_reports ..).trans ?_)
      · rw [(tap_keeps ..).1, answeredBy_line]
      · rw [(tap_keeps ..).1, answeredBy_line]
        rfl
    · rw [receiveB_of_answers hans, if_pos hbad] at hexec
      exact shows_of hexec (by rw [missed_line]) (by rw [missed_line])

/-! ## A report tapped -/

section
variable {s w : State} {h : Hdr} {st : Station}

/-- A well-formed report of the polled station ends as its owner leaves it, with the report forwarded. -/
theorem endsAs_tapped (hans : s.answers h st) {r : Report} (hgood : malformed h.src.toNat r (freePortB s) = false)
    (htap : tap h.src.toNat r (s.answeredBy h) = w) : EndsAs (exec (reportCommand h r) s) (forwardReport h r w) := by
  rw [exec_reportCommand]
  exact endsAs_finish_of_eq (by rw [answered_of_wellFormed hans hgood, htap])

theorem withEntry_none {f : Nat → State → State} : withEntry none f s = s := rfl

theorem withEntry_some {i : Nat} {f : Nat → State → State} : withEntry (some i) f s = f i s := rfl

/-! ## Detectors and call points -/

theorem tap_detectorLevel (harmed : s.armed = true) (a : Nat) (v : Byte) :
    tap a (.detectorLevel v) s = withEntry (detectorAt s a) (fun i => detectorReport i v.toNat) s := if_pos harmed

theorem tap_callPoint (harmed : s.armed = true) (a : Nat) (v : Byte) :
    tap a (.callPoint v) s = withEntry (callPointAt s a) (fun i => callPointReport i (v == 1)) s := if_pos harmed

/-- The record a Detector Level report leaves, and whether the zone is told (R49, R50). -/
theorem detectorReport_of {i v : Nat} {d : Detector} (hd : tget s.fire.detectors i = some d) : detectorReport i v s =
    if (d.onLevel v).active && !d.active then detectorConfirmed i d.zone (onDetector s i fun _ => d.onLevel v)
    else onDetector s i fun _ => d.onLevel v := by
  unfold detectorReport
  rw [hd]

theorem onLevel_eq (v : Nat) (d : Detector) : d.onLevel v = { d with
    level := v
    run := if d.alarm ≤ v then min (d.run + 1) d.confirm else 0
    active := if d.active then decide (d.restore ≤ v)
      else decide ((if d.alarm ≤ v then min (d.run + 1) d.confirm else 0) = d.confirm) } := by
  have hrestore : (!decide (v < d.restore)) = decide (d.restore ≤ v) := by
    rw [Bool.eq_iff_iff]
    simp
  unfold Detector.onLevel
  rw [hrestore]
  rfl

/-- What a zone makes of a detector confirmed, by its state (R50, R52, R54, R55, R60). -/
theorem detectorConfirmed_of {d z : Nat} {e : Zone} (he : tget s.fire.zones z = some e) : detectorConfirmed d z s =
    match e.state with
    | .quiet => onZone s z (Zone.preAlarm (addBit 0 d))
    | .preAlarm =>
      if e.confirmers.getLsbD d then s
      else if e.coincidence then
        enterFullAlarm z (onZone s z fun e => { e with confirmers := addBit e.confirmers d, mark := true })
      else onZone s z fun e => { e with confirmers := addBit e.confirmers d, mark := true }
    | .fullAlarm =>
      if e.confirmers.getLsbD d then s
      else onZone s z fun e => { e with confirmers := addBit e.confirmers d, mark := true }
    | .isolated => s := by
  unfold detectorConfirmed
  rw [he] <;> rfl

theorem detectorConfirmed_of_none {d z : Nat} (he : tget s.fire.zones z = none) : detectorConfirmed d z s = s := by
  unfold detectorConfirmed
  rw [he]

end

/-- Settles O43: the level written, and a detector newly active confirmed to its zone, by the zone's state. -/
theorem detectorReportsTapped : Obligations.DetectorReportsTapped := by
  intro h st level s hans harmed u ends
  have hends : ∀ w, withEntry (detectorAt u h.src.toNat) (fun i => detectorReport i level.toNat) u = w → ends w :=
    fun w hw => endsAs_tapped hans (r := .detectorLevel level) rfl
      ((tap_detectorLevel ((answeredBy_armed h s).trans harmed) _ _).trans hw)
  refine ⟨fun hnone => hends u (by rw [hnone]; rfl), fun i d hi hd => ?_⟩
  intro run v
  have hreport : ∀ w, detectorReport i level.toNat u = w → ends w := fun w hw => hends w (by rw [hi]; exact hw)
  have hkept : ∀ on, d.onLevel level.toNat = { d with level := level.toNat, run := run, active := on } →
      (on = true → d.active = true) → ends (v on) := by
    intro on hlevel hact
    refine hreport _ ((detectorReport_of hd).trans ?_)
    rw [hlevel]
    refine if_neg fun hc => ?_
    obtain ⟨hon, hoff⟩ := Bool.and_eq_true_iff.mp hc
    rw [hact hon] at hoff
    cases hoff
  refine ⟨fun hact => hkept _ ((onLevel_eq _ d).trans ?_) fun _ => hact, fun hact hrun => hkept _ ((onLevel_eq _ d).trans ?_) nofun,
    fun hact hrun => ?_⟩
  · rw [hact]
    rfl
  · rw [hact, decide_eq_false hrun]
    rfl
  · have hlevel : d.onLevel level.toNat = { d with level := level.toNat, run := run, active := true } := by
      rw [onLevel_eq, hact, decide_eq_true hrun]
      rfl
    have hconfirmed : ∀ w, detectorConfirmed i d.zone (v true) = w → ends w := by
      intro w hw
      refine hreport _ ((detectorReport_of hd).trans ?_)
      rw [hlevel, hact]
      exact hw
    refine ⟨fun hz => hconfirmed _ (detectorConfirmed_of_none hz), fun z hz => ?_⟩
    intro joined
    have hstep := detectorConfirmed_of (s := v true) (d := i) hz
    have hconfirmer : (addBit 0 i : DetSet) = BitVec.twoPow 48 i := BitVec.zero_or
    refine ⟨fun hst => hconfirmed _ ?_, fun hst => hconfirmed _ ?_, fun hst hin => hconfirmed _ ?_,
      fun hst hin hco => hconfirmed _ ?_, fun hst hin hco => hconfirmed _ ?_, fun hst hin => hconfirmed _ ?_⟩
    · rw [hstep, hst, hconfirmer]
      rfl
    · rw [hstep, hst]
    · rw [hstep]
      rcases hst with hst | hst <;> (rw [hst]; exact if_pos hin)
    · rw [hstep, hst]
      exact (if_neg (Bool.eq_false_iff.mp hin)).trans (if_neg (Bool.eq_false_iff.mp hco))
    · rw [hstep, hst]
      exact (if_neg (Bool.eq_false_iff.mp hin)).trans (if_pos hco)
    · rw [hstep, hst]
      exact if_neg (Bool.eq_false_iff.mp hin)

section
variable {s : State} {z : Nat} {e : Zone}

theorem alarmZone_of (he : tget s.fire.zones z = some e) : alarmZone z s =
    if e.state = .quiet ∨ e.state = .preAlarm then enterFullAlarm z s else s := by
  unfold alarmZone
  rw [he]

theorem alarmZone_of_none (he : tget s.fire.zones z = none) : alarmZone z s = s := by
  unfold alarmZone
  rw [he]

theorem callPointReport_of {i : Nat} {c : CallPoint} (hc : tget s.fire.callPoints i = some c) (on : Bool) :
    callPointReport i on s =
      if on then alarmZone c.zone (onCallPoint s i fun c => { c with operated := on })
      else onCallPoint s i fun c => { c with operated := on } := by
  unfold callPointReport
  rw [hc]

theorem stageTimerExpires_of (he : tget s.fire.zones z = some e) : stageTimerExpires z s =
    if e.state = .preAlarm ∧ e.timer.isSome = true then enterFullAlarm z s else s := by
  unfold stageTimerExpires
  rw [he]

end

/-- Settles O44: a call point operated, and the stage timer of a zone in PRE_ALARM. -/
theorem callPointsAndStageTimer : Obligations.CallPointsAndStageTimer := by
  unfold Obligations.CallPointsAndStageTimer
  refine ⟨fun h st value s hans harmed hvalue => ?_, fun z e s he => ⟨fun hst ht => ?_, fun hcase => ?_⟩⟩
  · intro u ends
    have hends : ∀ w, withEntry (callPointAt u h.src.toNat) (fun i => callPointReport i (value == 1)) u = w → ends w :=
      fun w hw => endsAs_tapped hans (r := .callPoint value)
        (Bool.eq_false_iff.mpr fun hc => absurd ((malformed_iff _ _ _).mp hc) (Nat.not_lt.mpr hvalue))
        ((tap_callPoint ((answeredBy_armed h s).trans harmed) _ _).trans hw)
    refine ⟨fun hnone => hends u (by rw [hnone]; rfl), fun i c hi hc => ?_⟩
    intro v
    have hreport : ∀ w, callPointReport i (value == 1) u = w → ends w := fun w hw => hends w (by rw [hi]; exact hw)
    refine ⟨fun h0 => hreport _ ?_, fun h1 => ?_⟩
    · subst h0
      exact callPointReport_of hc false
    · subst h1
      have halarm : ∀ w, alarmZone c.zone v = w → ends w := fun w hw => hreport _ ((callPointReport_of hc true).trans hw)
      exact ⟨fun hz => halarm _ (alarmZone_of_none hz), fun z hz =>
        ⟨fun hst => halarm _ ((alarmZone_of (s := v) hz).trans (if_pos hst)),
          fun hst => halarm _ ((alarmZone_of (s := v) hz).trans (if_neg (by rcases hst with h | h <;> simp [h])))⟩⟩
  · exact endsAs_finish_of_eq ((stageTimerExpires_of he).trans (if_pos ⟨hst, ht⟩))
  · refine endsAs_finish_of_eq ((stageTimerExpires_of he).trans (if_neg fun hc => ?_))
    rcases hcase with hne | hnone
    · exact hne hc.1
    · rw [hnone] at hc
      cases hc.2

end Sys2Proof.Machine
end
section
/-! SUPPORT. The Chain reports: the reaction by state, motion and condition, and the landings judged after it. -/

namespace Sys2Proof.Machine

/-! ## A start of movement (R9, R28) -/

section
variable {s w : State} {g : Geometry} {position : Nat} {moving fault : Bool} {fs : FloorSet}

/-- Every side settling afresh, the start record taken; a start without one is unbidden. -/
def State.started (s : State) : State :=
  s.onPat fun p => { p.resettleAll with start := none, mark := p.mark || p.start.isNone }

theorem startOfMovement_fire (h : s.pat.fireStop ≠ 0) :
    startOfMovement s = s.started.onPat fun p => p.beginStop .fire .stopping := if_pos h

theorem startOfMovement_full (h : s.pat.fireStop = 0) (hfull : s.anyFull = true) :
    startOfMovement s = s.started.onPat fun p => p.beginStop .rest .stopping :=
  (if_neg (not_not.mpr h)).trans (if_pos hfull)

theorem startOfMovement_free (h : s.pat.fireStop = 0) (hfull : s.anyFull = false) : startOfMovement s =
    match s.pat.start with
    | some (.runout r) => s.started.onPat fun p => { p with state := .runout, revs := some r }
    | _ => s.started.onPat fun p => { p with state := .running } :=
  (if_neg (not_not.mpr h)).trans (if_neg (Bool.eq_false_iff.mp hfull))

theorem startOfMovement_running (h : s.pat.fireStop = 0) (hfull : s.anyFull = false)
    (hstart : s.pat.start = none ∨ s.pat.start = some .running) :
    startOfMovement s = s.started.onPat fun p => { p with state := .running } := by
  rw [startOfMovement_free h hfull]
  rcases hstart with hstart | hstart <;> rw [hstart]

theorem startOfMovement_runout (h : s.pat.fireStop = 0) (hfull : s.anyFull = false) {r : Nat}
    (hstart : s.pat.start = some (.runout r)) :
    startOfMovement s = s.started.onPat fun p => { p with state := .runout, revs := some r } := by
  rw [startOfMovement_free h hfull, hstart]

/-- A start of movement does not leave the chain held. -/
theorem startOfMovement_not_held (h : s.pat.state ≠ .held) : (startOfMovement s).pat.state ≠ .held := by
  have hstop : ∀ k, (s.started.pat.beginStop k .stopping).state ≠ .held := fun k => by
    rcases beginStop_state_or s.started.pat k .stopping with hs | hs <;> rw [hs]
    exacts [h, nofun]
  by_cases hfire : s.pat.fireStop = 0
  · by_cases hfull : s.anyFull = true
    · rw [startOfMovement_full hfire hfull]
      exact hstop _
    · rw [startOfMovement_free hfire (Bool.eq_false_iff.mpr hfull)]
      split <;> exact nofun
  · rw [startOfMovement_fire hfire]
    exact hstop _

/-! ## The first report after Arm (R8) -/

theorem firstReport_fault (mv : Bool) :
    firstReport mv true s = ((markPat s).onPat fun p => (p.place .halt).lock (some .driveFault), 0) := rfl

theorem firstReport_locked (h : s.pat.causes ≠ 0) (mv : Bool) : firstReport mv false s =
    ((markPat s).onPat fun p => (if mv then p.place .halt else p).lock none, 0) := by
  unfold firstReport
  dsimp only
  rw [if_neg Bool.false_ne_true, if_pos h]

theorem firstReport_fire (h : s.pat.causes = 0) (hfire : s.pat.fireStop ≠ 0) :
    firstReport false false s = (lockAndJudge (markPat s), s.pat.fireStop) := by
  have hcond : (!false && s.pat.fireStop != 0) = true := bne_iff_ne.mpr hfire
  unfold firstReport
  dsimp only
  rw [if_neg Bool.false_ne_true, if_neg (not_not.mpr h), if_pos hcond]

theorem firstReport_moving (h : s.pat.causes = 0) : firstReport true false s = (startOfMovement (markPat s), 0) := by
  unfold firstReport
  dsimp only
  rw [if_neg Bool.false_ne_true, if_neg (not_not.mpr h)]
  rfl

theorem firstReport_idle (h : s.pat.causes = 0) (hfire : s.pat.fireStop = 0) :
    firstReport false false s = ((markPat s).onPat fun p => { p with state := .idle }, 0) := by
  unfold firstReport
  dsimp only
  rw [if_neg Bool.false_ne_true, if_neg (not_not.mpr h), hfire]
  rfl

/-! ## A Chain report by its parts (R43) -/

/-- What a Chain report does before the landings are judged, with the landings its own stop has judged. -/
def State.chainEvent (g : Geometry) (position : Nat) (moving fault : Bool) (s : State) : State × FloorSet :=
  if s.pat.state = .unknown then firstReport moving fault (s.onPat (chainRecord g position moving fault))
  else if fault then (faultReport (s.onPat (chainRecord g position moving fault)), 0)
  else normalReport moving (readMove g s.pat.chain.position position).wrap
    (s.onPat (chainRecord g position moving fault))

theorem chainReport_moving (hg : s.pat.geometry = some g) (h : s.chainEvent g position true fault = (w, fs)) :
    chainReport position true fault s = w.onPat Paternoster.tryResumeTimer := by
  have hw : (s.chainEvent g position true fault).1 = w := by rw [h]
  unfold chainReport
  rw [hg, ← hw]
  rfl

theorem chainReport_stopped (hg : s.pat.geometry = some g) (h : s.chainEvent g position false fault = (w, fs))
    (hstate : w.pat.state = .idle ∨ w.pat.state = .held ∨ w.pat.state = .locked) :
    chainReport position false fault s =
      (judgeLandings ((waitingFloors w).filter fun f => !fs.getLsbD f) w).onPat Paternoster.tryResumeTimer := by
  have hrests : (!false && (w.pat.state == .idle || w.pat.state == .held || w.pat.state == .locked)) = true := by
    rcases hstate with h | h | h <;> rw [h] <;> rfl
  have hw : (s.chainEvent g position false fault).1 = w := by rw [h]
  have hfs : (s.chainEvent g position false fault).2 = fs := by rw [h]
  unfold chainReport
  rw [hg]
  dsimp only
  change State.onPat (if (!false && ((s.chainEvent g position false fault).1.pat.state == .idle ||
    (s.chainEvent g position false fault).1.pat.state == .held ||
    (s.chainEvent g position false fault).1.pat.state == .locked)) = true then
      judgeLandings ((waitingFloors (s.chainEvent g position false fault).1).filter fun f =>
        !(s.chainEvent g position false fault).2.getLsbD f) (s.chainEvent g position false fault).1
    else (s.chainEvent g position false fault).1) _ = _
  rw [hw, hfs, if_pos hrests]

theorem filter_not_empty (l : List Nat) : (l.filter fun f => !(0 : FloorSet).getLsbD f) = l :=
  List.filter_eq_self.mpr fun f _ => by simp

theorem tryResumeTimer_of_not_held {p : Paternoster} (h : p.state ≠ .held) : p.tryResumeTimer = p := by
  unfold Paternoster.tryResumeTimer
  split
  · rfl
  · exact if_neg fun hc => h hc.1

theorem waitingFloors_eq (s : State) : waitingFloors s = (List.range 8).filter fun f => s.shut.any fun e =>
    decide (e.2.kind = .shaft ∧ e.2.landing = some f ∧
      (e.2.state = .awaitClear ∨ (e.2.state = .obstructed ∧ e.2.obstruction = some .car))) := by
  unfold waitingFloors
  congr
  funext f
  congr
  funext e
  rw [Bool.eq_iff_iff, Bool.and_eq_true, beq_iff_eq, waits_iff, decide_eq_true_iff]
  tauto

theorem chainReport_of_none (hg : s.pat.geometry = none) : chainReport position moving fault s = s := by
  unfold chainReport
  rw [hg]

theorem tap_chain (harmed : s.armed = true) (a : Nat) (p : BitVec 16) (m c : Byte) : tap a (.chain p m c) s =
    if s.driveStation = some a then chainReport p.toNat (m == 1) (c == 1) s else s := if_pos harmed

/-- A listed Chain report is malformed by its position alone. -/
theorem chain_wellFormed {a : Nat} {p : BitVec 16} {m c : Byte} (hm : m.toNat ≤ 1) (hc : c.toNat ≤ 1)
    (hp : ∀ g, s.driveStation = some a → s.pat.geometry = some g → p.toNat < g.loop) :
    malformed a (.chain p m c) s = false := by
  refine Bool.eq_false_iff.mpr fun hbad => ?_
  rcases (malformed_iff _ _ _).mp hbad with h | h | ⟨-, hdrive, g, hg, hle⟩
  · omega
  · omega
  · exact absurd (hp g hdrive hg) (Nat.not_lt.mpr hle)

theorem tkeys_tmod {α : Type} {q : α → Bool} {f : α → α} (hq : ∀ v, q (f v) = q v) (t : Table α) (i : Nat) :
    tkeys (tmod t i f) q = tkeys t q := by
  rw [tkeys, tkeys, tmod_eq_map, List.filter_map, List.map_map]
  have hfilter : (fun e => q e.2) ∘ (fun e : Nat × α => if e.1 = i then (e.1, f e.2) else e) = fun e => q e.2 := by
    funext e
    by_cases he : e.1 = i <;> simp [he, hq]
  rw [hfilter]
  refine List.map_congr_left fun e _ => ?_
  by_cases he : e.1 = i <;> simp [he]

theorem answeredBy_reg (h : Hdr) (s : State) : (s.answeredBy h).reg = s.reg ∨
    (s.answeredBy h).reg = (s.heard h.src.toNat).reg := by
  unfold State.answeredBy pollAnswered
  split
  · exact .inl rfl
  · dsimp only
    split <;> [exact .inr (ownerReturn_keeps ..).2.1; exact .inr rfl]

theorem answeredBy_driveStation (h : Hdr) (s : State) : (s.answeredBy h).driveStation = s.driveStation := by
  unfold State.driveStation
  rcases answeredBy_reg h s with hreg | hreg <;> rw [hreg]
  exact congrArg List.head? (tkeys_tmod (q := fun e : Station => e.role == .drive)
    (f := fun e : Station => { e with miss := 0, presence := .present }) (fun _ => rfl) _ _)

theorem answeredBy_geometry (h : Hdr) (s : State) : (s.answeredBy h).pat.geometry = s.pat.geometry :=
  (pollAnswered_kept (freePortB_kept (.refl s)) h.src.toNat).pat.geometry

end

section
variable {s : State} {h : Hdr} {st : Station} {p : BitVec 16} {m c : Byte}

/-- A well-formed Chain report of the drive station is tapped and forwarded (R43). -/
theorem endsAs_chain (hans : s.answers h st) (harmed : s.armed = true) (hm : m.toNat ≤ 1) (hc : c.toNat ≤ 1) {g : Geometry}
    (hdrive : (s.answeredBy h).driveStation = some h.src.toNat) (hg : (s.answeredBy h).pat.geometry = some g)
    (hp : p.toNat < g.loop) {w : State} (hw : chainReport p.toNat (m == 1) (c == 1) (s.answeredBy h) = w) :
    EndsAs (exec (.chainReport h p m c) s) (forwardReport h (.chain p m c) w) := by
  refine endsAs_tapped hans (r := .chain p m c) (chain_wellFormed hm hc fun g' _ hg' => ?_) ?_
  · obtain rfl : g' = g := Option.some.inj (hg'.symm.trans ((answeredBy_geometry h s).symm.trans hg))
    exact hp
  · exact (tap_chain ((answeredBy_armed h s).trans harmed) _ _ _ _).trans ((if_pos hdrive).trans hw)

/-- So is one that no drive or no geometry gives a meaning, untapped (R3, R5). -/
theorem endsAs_chain_untapped (hans : s.answers h st) (harmed : s.armed = true) (hm : m.toNat ≤ 1) (hc : c.toNat ≤ 1)
    (hnone : (s.answeredBy h).pat.geometry = none ∨ (s.answeredBy h).driveStation ≠ some h.src.toNat) :
    EndsAs (exec (.chainReport h p m c) s) (forwardReport h (.chain p m c) (s.answeredBy h)) := by
  refine endsAs_tapped hans (r := .chain p m c) (chain_wellFormed hm hc fun g hd hg => ?_) ?_
  · rcases hnone with hn | hn
    · rw [answeredBy_geometry] at hn
      exact nomatch hg.symm.trans hn
    · exact absurd ((answeredBy_driveStation h s).trans hd) hn
  · rw [tap_chain ((answeredBy_armed h s).trans harmed)]
    split
    next hd => exact chainReport_of_none (hnone.resolve_right (not_not.mpr hd))
    next => rfl

end

section
variable {v : State}

theorem judgeLandings_not_held {w : State} (h : w.pat.state ≠ .held) (floors : List Nat) :
    (judgeLandings floors w).onPat Paternoster.tryResumeTimer = judgeLandings floors w := by
  have hpat : (judgeLandings floors w).pat = w.pat := (judgeLandings_keeps floors w).2.2.1
  have hstill : (judgeLandings floors w).pat.tryResumeTimer = (judgeLandings floors w).pat :=
    tryResumeTimer_of_not_held (by rw [hpat]; exact h)
  rw [State.onPat, hstill]

theorem onPat_not_held {w : State} (h : w.pat.state ≠ .held) : w.onPat Paternoster.tryResumeTimer = w := by
  rw [State.onPat, tryResumeTimer_of_not_held h]

end

/-- Settles O45: by the state, the motion and the condition; the landings judged afterwards by whether the state rests. -/
theorem chainReportsTapped : Obligations.ChainReportsTapped := by
  unfold Obligations.ChainReportsTapped
  refine ⟨fun h st p2 m c g s hans harmed => ?_, fun h st p2 m c s hans harmed hm hc => ?_, fun s => ?_⟩
  · intro u hdrive hg hloop hm hc hknown v done judged stopJudged set
    have hends : ∀ w, chainReport p2.toNat (m == 1) (c == 1) u = w → EndsAs (exec (.chainReport h p2 m c) s)
        (forwardReport h (.chain p2 m c) w) := fun w hw => endsAs_chain hans harmed hm hc hdrive hg hloop hw
    -- a moving chain: nothing is judged
    have hmoving : m = 1 → ∀ w fs, u.chainEvent g p2.toNat true (c == 1) = (w, fs) → done w := by
      rintro rfl w fs hw
      exact hends _ (chainReport_moving hg hw)
    -- a stopped one: the landings that wait are judged, but for those judged already
    have hstopped : m = 0 → ∀ w fs, u.chainEvent g p2.toNat false (c == 1) = (w, fs) →
        w.pat.state = .idle ∨ w.pat.state = .held ∨ w.pat.state = .locked →
        done (judgeLandings ((waitingFloors w).filter fun f => !fs.getLsbD f) w) := by
      rintro rfl w fs hw hst
      exact hends _ (chainReport_stopped hg hw hst)
    have hjudged : m = 0 → ∀ w, u.chainEvent g p2.toNat false (c == 1) = (w, 0) →
        w.pat.state = .idle ∨ w.pat.state = .held ∨ w.pat.state = .locked → judged w := by
      intro h0 w hw hst
      have := hstopped h0 w 0 hw hst
      rwa [filter_not_empty] at this
    have hfault : ∀ mv, u.chainEvent g p2.toNat mv true =
        ((u.onPat (chainRecord g p2.toNat mv true)).onPat fun p => (p.place .halt).lock (some .driveFault), 0) := fun mv =>
      (if_neg hknown).trans (if_pos rfl)
    have hnormal : ∀ mv, u.chainEvent g p2.toNat mv false =
        normalReport mv (readMove g u.pat.chain.position p2.toNat).wrap (u.onPat (chainRecord g p2.toNat mv false)) :=
      fun mv => (if_neg hknown).trans (if_neg nofun)
    have hstate : ∀ mv ft, (u.onPat (chainRecord g p2.toNat mv ft)).pat.state = u.pat.state := fun _ _ => rfl
    refine ⟨?_, ?_, ?_, ?_⟩
    · rintro rfl rfl
      exact hmoving rfl _ _ (hfault true)
    · rintro rfl rfl
      exact hjudged rfl _ (hfault false) (.inr (.inr (Paternoster.lock_state ..)))
    · rintro rfl rfl
      have hreact : ∀ w, (normalReport true (readMove g u.pat.chain.position p2.toNat).wrap v).1 = w → done w := by
        rintro w rfl
        exact hmoving rfl _ _ (hnormal true)
      have hv : v.pat.state = u.pat.state := rfl
      refine ⟨fun hst => hreact v ?_, fun hst => hreact _ ?_, fun hst => ?_, fun hst => ?_⟩
      · unfold normalReport
        rw [hv]
        rcases hst with hst | hst | hst <;> rw [hst]
      · unfold normalReport
        rw [hv]
        rcases hst with hst | hst <;> rw [hst]
      · have hcount : ∀ w, countRevolution (readMove g u.pat.chain.position p2.toNat).wrap v = w → done w := by
          rintro w rfl
          refine hreact _ ?_
          unfold normalReport
          rw [hv, hst]
        intro wrap
        refine ⟨fun hw => hcount _ (if_neg (Bool.eq_false_iff.mp hw)), fun r hw hr => hcount _ ((if_pos hw).trans ?_),
          fun hw hr => hcount _ ((if_pos hw).trans ?_)⟩
        · rw [show v.pat.revs = some (r + 2) from hr]
          rfl
        · rw [show v.pat.revs = some 1 from hr]
      · have hstart : ∀ w, startOfMovement v = w → done w := by
          rintro w rfl
          refine hreact _ ?_
          unfold normalReport
          rw [hv, hst]
        intro moved
        have hmoved : v.started = set moved := rfl
        exact ⟨fun hf => hstart _ (startOfMovement_fire (s := v) hf),
          fun hf hfull => hstart _ (startOfMovement_full (s := v) hf hfull),
          fun hf hfree => ⟨fun hs => hstart _ (startOfMovement_running (s := v) hf hfree hs),
            fun r hr => hstart _ (startOfMovement_runout (s := v) hf hfree hr)⟩⟩
    · rintro rfl rfl
      have hv : v.pat.state = u.pat.state := rfl
      have hreact : ∀ w, normalReport false (readMove g u.pat.chain.position p2.toNat).wrap v = (w, 0) →
          w.pat.state = .idle ∨ w.pat.state = .held ∨ w.pat.state = .locked → judged w :=
        fun w hw => hjudged rfl w ((hnormal false).trans hw)
      have hstop : ∀ w, normalReport false (readMove g u.pat.chain.position p2.toNat).wrap v = (w, u.pat.fireStop) →
          w.pat.state = .locked → stopJudged w :=
        fun w hw hl => hstopped rfl w _ ((hnormal false).trans hw) (.inr (.inr hl))
      refine ⟨fun hst => hreact v ?_ ?_, fun hst => hreact _ ?_ (.inl rfl), fun hst => hreact _ ?_ (.inl rfl),
        fun hst => hreact _ ?_ (.inl rfl), fun hst => hstop _ ?_ ?_,
        fun hst => ⟨fun hf => hreact _ ?_ (.inr (.inl hst)), fun hf => hstop _ ?_ (lockAndJudge_state _)⟩⟩
      · unfold normalReport
        rw [hv]
        rcases hst with hst | hst <;> rw [hst]
      · exact hst.imp id .inr
      · unfold normalReport
        rw [hv, hst]
      · unfold normalReport
        rw [hv, hst]
      · unfold normalReport
        rw [hv, hst]
        exact if_neg (by rw [hv, hst]; nofun)
      · unfold normalReport
        rw [hv, hst]
        exact if_pos (hv.trans hst)
      · exact (Paternoster.withdrawStopAt_state _).trans (lockAndJudge_state v)
      · unfold normalReport
        rw [hv, hst]
        exact if_neg (not_not.mpr hf)
      · unfold normalReport
        rw [hv, hst]
        exact if_pos hf
  · intro u ends
    refine ⟨fun hnone => endsAs_chain_untapped hans harmed hm hc hnone, fun g hdrive hg hloop hunknown => ?_⟩
    intro v judged
    have hends : ∀ w, chainReport p2.toNat (m == 1) (c == 1) u = w → ends w :=
      fun w hw => endsAs_chain hans harmed hm hc hdrive hg hloop hw
    have hfirst : ∀ mv ft, u.chainEvent g p2.toNat mv ft = firstReport mv ft (u.onPat (chainRecord g p2.toNat mv ft)) :=
      fun mv ft => if_pos hunknown
    have hmoving : m = 1 → ∀ w fs, firstReport true (c == 1) (u.onPat (chainRecord g p2.toNat true (c == 1))) = (w, fs) →
        w.pat.state ≠ .held → ends w := by
      rintro rfl w fs hw hst
      refine hends _ ((chainReport_moving hg ((hfirst ..).trans hw)).trans (onPat_not_held hst))
    have hstopped : m = 0 → ∀ w fs, firstReport false (c == 1) (u.onPat (chainRecord g p2.toNat false (c == 1))) = (w, fs) →
        w.pat.state = .idle ∨ w.pat.state = .locked →
        ends (judgeLandings ((waitingFloors w).filter fun f => !fs.getLsbD f) w) := by
      rintro rfl w fs hw hst
      refine hends _ ((chainReport_stopped hg ((hfirst ..).trans hw) (hst.imp id .inr)).trans (judgeLandings_not_held ?_ _))
      rcases hst with hst | hst <;> (rw [hst]; nofun)
    have hjudged : ∀ w, firstReport (m == 1) (c == 1) (u.onPat (chainRecord g p2.toNat (m == 1) (c == 1))) = (w, 0) →
        w.pat.state = .idle ∨ w.pat.state = .locked → judged w := by
      intro w hw hst
      by_cases h0 : m = 0
      · subst h0
        have := hstopped rfl w 0 hw hst
        rw [filter_not_empty] at this
        show ends (if _ then _ else _)
        rwa [if_pos rfl]
      · have h1 : m = 1 := by
          have hne : m.toNat ≠ 0 := fun hc => h0 (BitVec.eq_of_toNat_eq hc)
          exact BitVec.eq_of_toNat_eq (show m.toNat = 1 by omega)
        subst h1
        show ends (if _ then _ else _)
        rw [if_neg h0]
        exact hmoving rfl w 0 hw (by rcases hst with hst | hst <;> (rw [hst]; nofun))
    refine ⟨?_, ?_, ?_, ?_, ?_, ?_⟩
    · rintro rfl
      exact hjudged _ rfl (.inr (Paternoster.lock_state ..))
    · rintro rfl hcauses rfl
      refine hmoving rfl _ 0 (firstReport_locked (s := u.onPat (chainRecord g p2.toNat _ _)) hcauses true) ?_
      show ((Paternoster.place _ _).lock none).state ≠ _
      rw [Paternoster.lock_state]
      nofun
    · rintro rfl hcauses rfl
      exact hjudged _ (firstReport_locked (s := u.onPat (chainRecord g p2.toNat _ _)) hcauses false) (.inr (Paternoster.lock_state ..))
    · rintro rfl hcauses hfire rfl
      exact hstopped rfl _ u.pat.fireStop (firstReport_fire (s := u.onPat (chainRecord g p2.toNat _ _)) hcauses hfire) (.inr (lockAndJudge_state _))
    · rintro rfl hcauses rfl
      refine hmoving rfl _ 0 (firstReport_moving (s := u.onPat (chainRecord g p2.toNat _ _)) hcauses) (startOfMovement_not_held ?_)
      show u.pat.state ≠ .held
      rw [hunknown]
      nofun
    · rintro rfl hcauses hfire rfl
      exact hjudged _ (firstReport_idle (s := u.onPat (chainRecord g p2.toNat _ _)) hcauses hfire) (.inl rfl)
  · intro afresh moved
    refine ⟨waitingFloors_eq s, ?_, ?_, ⟨fun t ht => ?_, fun hne => ?_⟩, startOfMovement_fire, startOfMovement_full,
      fun hf hfree => ⟨startOfMovement_running hf hfree, fun r hr => startOfMovement_runout hf hfree hr⟩⟩
    · show judgeLandings (members (s.pat.lock (some .fire)).fireStop) _ = _
      rw [lock_fireStop]
      rfl
    · simp only [Paternoster.resettleAll, tmap_eq_map]
      rfl
    · rw [withdrawStopAt_eq, ht]
    · unfold Paternoster.withdrawStopAt
      split
      next t ht => exact absurd ht (hne t)
      next => rfl

end Sys2Proof.Machine
end
section
/-! SUPPORT. The reports of landings and of shutters. -/

namespace Sys2Proof.Machine

/-! ## Landing reports (R4, R21, R23, R29) -/

theorem lock_geometry (p : Paternoster) (c : Option LockCause) : (p.lock c).geometry = p.geometry :=
  (Paternoster.lock_kept p c).geometry

theorem lock_landings (p : Paternoster) (c : LockCause) : (p.lock (some c)).landings = p.landings := by
  by_cases h : p.state = .locked
  · rw [lock_of_locked h]
    rfl
  · rw [lock_of_unlocked h]

section
variable {s : State} {f : Nat} {l : Landing} {g : Geometry}

theorem slip_of_locked (h : s.pat.state = .locked) : slip s = s.onPat fun p => p.addCause .slip := by
  unfold slip
  rw [h]

theorem slip_of_unknown (h : s.pat.state = .unknown) : slip s = s := by
  unfold slip
  rw [h]

theorem slip_of_known (hlocked : s.pat.state ≠ .locked) (hunknown : s.pat.state ≠ .unknown) :
    slip s = s.onPat fun p => (p.place .halt).lock (some .slip) := by
  unfold slip
  cases h : s.pat.state with
  | locked => exact absurd h hlocked
  | unknown => exact absurd h hunknown
  | running | runout | resting | stopping | held | idle => rfl

theorem stopSwitch_of_locked (h : s.pat.state = .locked) : stopSwitch s = s.onPat fun p => p.addCause .emergency := by
  unfold stopSwitch
  rw [h]

theorem stopSwitch_of_unknown (h : s.pat.state = .unknown) :
    stopSwitch s = s.onPat fun p => (p.place .halt).addCause .emergency := by
  unfold stopSwitch
  rw [h]

theorem stopSwitch_of_known (hlocked : s.pat.state ≠ .locked) (hunknown : s.pat.state ≠ .unknown) :
    stopSwitch s = s.onPat fun p => (p.place .halt).lock (some .emergency) := by
  unfold stopSwitch
  cases h : s.pat.state with
  | locked => exact absurd h hlocked
  | unknown => exact absurd h hunknown
  | running | runout | resting | stopping | held | idle => rfl

/-- The beam counts of a Landing report compared, and a slip if a side has reached the limit (R29). -/
def State.beamsChecked (f up down : Nat) (l : Landing) (g : Geometry) (s : State) : State :=
  let a := l.upBeam.compare g.slipLimit up
  let b := l.downBeam.compare g.slipLimit down
  let x := onLanding s f fun l => { l with upBeam := a.1, downBeam := b.1 }
  if a.2 = true ∨ b.2 = true then slip x else x

theorem beamCheck_of (hg : s.pat.geometry = some g) (hl : tget s.pat.landings f = some l) (up down : Nat) :
    beamCheck f up down s = s.beamsChecked f up down l g := by
  unfold beamCheck State.beamsChecked
  rw [hg, hl]
  dsimp only
  simp only [Bool.or_eq_true]

/-- A Landing report tapped: switch and guard, then the beam counts, then the records, then the resume timer. -/
theorem landingReport_of (hl : tget s.pat.landings f = some l) (up down : Nat) (tripped operated : Bool) :
    landingReport f up down tripped operated s =
      (onLanding (beamCheck f up down
        (if tripped && !l.tripped then guardTrip (if operated then stopSwitch s else s)
          else if operated then stopSwitch s else s)) f
        fun l => { l with tripped := tripped, stopSwitch := operated }).onPat Paternoster.tryResumeTimer := by
  unfold landingReport
  rw [hl]

theorem tap_landing (harmed : s.armed = true) (a : Nat) (u d g t : Byte) : tap a (.landing u d g t) s =
    withEntry (landingAt s a) (fun f => landingReport f u.toNat d.toNat (g == 1) (t == 1)) s := if_pos harmed

/-- A new trip in LOCKED or UNKNOWN only sets the mark (R21). -/
theorem guardTrip_of_locked (hg : s.pat.geometry = some g) (h : s.pat.state = .locked ∨ s.pat.state = .unknown) :
    guardTrip s = markPat s := by
  have hstate : (markPat s).pat.state = s.pat.state := rfl
  unfold guardTrip
  rw [hg]
  dsimp only
  rw [hstate]
  rcases h with h | h <;> rw [h]

/-- A new trip by state (R21). -/
theorem guardTrip_of (hg : s.pat.geometry = some g) {st : PatState} (hst : s.pat.state = st) : guardTrip s =
    let trips := addTrip s.now s.pat.trips
    let full := tripsReachLimit g s.now trips
    match st with
    | .running | .runout =>
      (markPat s).onPat fun p =>
        if full then { p.place .halt with trips := trips }.lock (some .guardLimit)
        else
          { p.place .halt with
            trips := trips, state := .held, revs := none, stopTimer := some (secs g.stopTimeout)
            remembered := some (match p.revs with
              | some r => .runout r
              | none => .running) }
    | .held =>
      (markPat s).onPat fun p =>
        if full then { p.place .halt with trips := trips, resumeTimer := none }.lock (some .guardLimit)
        else { p.place .halt with trips := trips, resumeTimer := none }
    | .resting | .stopping => (markPat s).onPat fun p => (p.place .halt).haltStop
    | .idle => if s.pat.start.isSome then (markPat s).onPat fun p => { p.place .halt with start := none } else markPat s
    | .unknown | .locked => markPat s := by
  have hstate : (markPat s).pat.state = st := hst
  unfold guardTrip
  rw [hg]
  dsimp only
  rw [hstate]
  cases st <;> rfl

theorem tripsReachLimit_iff (g : Geometry) (now : Nat) (trips : List Nat) :
    tripsReachLimit g now trips = true ↔ g.guardLimit ≤ (trips.filter fun t => now - t < g.guardWindow).length :=
  decide_eq_true_iff

end

theorem addTrip_of_short {l : List Nat} (h : l.length < 8) (now : Nat) : addTrip now l = l ++ [now] := by
  have hdrop : (l ++ [now]).length - Config.tripHistory = 0 := by
    rw [List.length_append, List.length_singleton]
    exact Nat.sub_eq_zero_of_le h
  unfold addTrip
  dsimp only
  rw [hdrop, List.drop_zero]

theorem addTrip_of_full {l : List Nat} (h : l.length = 8) (now : Nat) : addTrip now l = l.tail ++ [now] := by
  have hdrop : (l ++ [now]).length - Config.tripHistory = 1 := by
    rw [List.length_append, List.length_singleton, h]
    rfl
  unfold addTrip
  dsimp only
  rw [hdrop]
  cases l with
  | nil => cases h
  | cons x l => rfl

theorem orFalse_mark (p : Paternoster) : { p with mark := p.mark || false } = p := by rw [Bool.or_false]

/-- Settles O46: the switch, the guard by state, and the beam counts. -/
theorem landingReportsTapped : Obligations.LandingReportsTapped := by
  unfold Obligations.LandingReportsTapped
  refine ⟨fun h st up down guard stop s hans harmed hguard hstop => ?_, fun s => ⟨slip_of_locked, slip_of_unknown, slip_of_known⟩,
    fun now l => ⟨fun h => addTrip_of_short h now, fun h => addTrip_of_full h now⟩⟩
  intro u ends
  have hends : ∀ w, withEntry (landingAt u h.src.toNat)
      (fun f => landingReport f up.toNat down.toNat (guard == 1) (stop == 1)) u = w → ends w := fun w hw =>
    endsAs_tapped hans (r := .landing up down guard stop)
      (Bool.eq_false_iff.mpr fun hc => ((malformed_iff _ _ _).mp hc).elim (Nat.not_lt.mpr hguard) (Nat.not_lt.mpr hstop))
      ((tap_landing ((answeredBy_armed h s).trans harmed) ..).trans hw)
  refine ⟨fun hnone => hends u (by rw [hnone]; rfl), fun f l g hf hl hg => ?_⟩
  intro finished trip trips full set
  have hfinish : ∀ w : State, (if guard == 1 && !l.tripped then guardTrip (if stop == 1 then stopSwitch u else u)
      else if stop == 1 then stopSwitch u else u) = w → w.pat.geometry = some g → w.pat.landings = u.pat.landings →
      finished w := by
    intro w hw hwg hwl
    refine hends _ ?_
    rw [hf, withEntry_some, landingReport_of hl, hw, beamCheck_of hwg (by rw [hwl]; exact hl)]
    rfl
  have htrip : (guard == 1 && !l.tripped) = true ↔ trip := by
    rw [Bool.and_eq_true, beq_iff_eq, Bool.not_eq_true']
  refine ⟨?_, ?_, ?_⟩
  · rintro rfl hno
    exact hfinish u (if_neg (mt htrip.mp hno)) hg rfl
  · rintro rfl
    intro noted
    -- the state after the switch: LOCKED or UNKNOWN, so that a new trip only sets the mark
    have hswitch : ∀ k : Paternoster → Paternoster, stopSwitch u = u.onPat k → (k u.pat).geometry = some g →
        (k u.pat).landings = u.pat.landings → (k u.pat).state = .locked ∨ (k u.pat).state = .unknown →
        finished (u.onPat fun p => noted (k p)) := by
      intro k hk hkg hkl hkst
      have hon : (if (1 : Byte) == 1 then stopSwitch u else u) = u.onPat k := hk
      refine hfinish _ ?_ hkg hkl
      rw [hon]
      by_cases ht : (guard == 1 && !l.tripped) = true
      · rw [if_pos ht, guardTrip_of_locked (s := u.onPat k) hkg hkst]
        show { u with pat := { k u.pat with mark := true } } = { u with pat := noted (k u.pat) }
        show _ = { u with pat := { k u.pat with mark := (k u.pat).mark || (guard == 1 && !l.tripped) } }
        rw [ht, Bool.or_true]
      · rw [if_neg ht]
        show { u with pat := k u.pat } = { u with pat := { k u.pat with mark := (k u.pat).mark || (guard == 1 && !l.tripped) } }
        rw [Bool.eq_false_iff.mpr ht, orFalse_mark]
    refine ⟨fun hst => hswitch _ (stopSwitch_of_unknown hst) ?_ ?_ (.inr ?_),
      fun hst => hswitch _ (stopSwitch_of_locked hst) hg rfl (.inl hst),
      fun hu hl' => hswitch _ (stopSwitch_of_known hl' hu) ?_ ?_ (.inl (Paternoster.lock_state ..))⟩
    · exact (Paternoster.place_geometry ..).trans hg
    · exact Paternoster.place_landings ..
    · exact (Paternoster.place_state ..).trans hst
    · rw [lock_geometry, Paternoster.place_geometry, hg]
    · rw [lock_landings, Paternoster.place_landings]
  · rintro rfl ht
    have hguardTrip : ∀ w : State, guardTrip u = w → w.pat.geometry = some g → w.pat.landings = u.pat.landings → finished w :=
      fun w hw => hfinish w ((if_pos (htrip.mpr ht)).trans hw)
    have hplace : ∀ p : Paternoster, p.geometry = u.pat.geometry → p.landings = u.pat.landings →
        (p.place .halt).geometry = some g ∧ (p.place .halt).landings = u.pat.landings := fun p hpg hpl =>
      ⟨by rw [Paternoster.place_geometry, hpg, hg], by rw [Paternoster.place_landings, hpl]⟩
    obtain ⟨hgeo, hland⟩ := hplace { u.pat with mark := true } rfl rfl
    have hfull : tripsReachLimit g u.now trips = true ↔ full := tripsReachLimit_iff ..
    have hfire := @guardTrip_of u g hg
    refine ⟨fun hst => ⟨fun hf => ?_, fun hf => ?_⟩, fun hst => ⟨fun hf => ?_, fun hf => ?_⟩, fun hst => ?_, fun hst hs => ?_,
      fun hst hs => ?_, fun hst => ?_⟩
    · refine hguardTrip _ ?_ ((lock_geometry _ _).trans hgeo) ((lock_landings _ _).trans hland)
      rcases hst with hst | hst <;> exact (hfire hst).trans
        (congrArg (fun p => { u with pat := p }) (if_pos (hfull.mpr hf)))
    · refine hguardTrip _ ?_ hgeo hland
      rcases hst with hst | hst <;> exact (hfire hst).trans
        (congrArg (fun p => { u with pat := p }) (if_neg (mt hfull.mp hf)))
    · exact hguardTrip _ ((hfire hst).trans (congrArg (fun p => { u with pat := p }) (if_pos (hfull.mpr hf))))
        ((lock_geometry _ _).trans hgeo) ((lock_landings _ _).trans hland)
    · exact hguardTrip _ ((hfire hst).trans (congrArg (fun p => { u with pat := p }) (if_neg (mt hfull.mp hf)))) hgeo hland
    · refine hguardTrip _ ?_ hgeo hland
      rcases hst with hst | hst <;> exact hfire hst
    · exact hguardTrip _ ((hfire hst).trans (if_pos hs)) hgeo hland
    · exact hguardTrip _ ((hfire hst).trans (if_neg (by rw [hs]; nofun))) hg rfl
    · refine hguardTrip _ ?_ hg rfl
      rcases hst with hst | hst <;> exact hfire hst

/-! ## Shutter Position reports (R70 to R75) -/

section
variable {s w : State} {i : Nat} {e x : Shutter} {pos : Position}

theorem tap_shutterPosition (harmed : s.armed = true) (a : Nat) {v : Byte} (hv : valueOf positions v.toNat = some pos) :
    tap a (.shutterPosition v) s = withEntry (shutterAt s a) (fun i => shutterReport i pos) s := by
  refine (if_pos harmed).trans ?_
  dsimp only
  rw [hv]

/-- The shutter's record with the position reported. -/
def Shutter.reporting (pos : Position) (x : Shutter) : Shutter := { x with last := some pos }

theorem releaseIfAlarm_of (hx : tget w.shut i = some x) :
    releaseIfAlarm i w = if x.inZone w.zoneFull then release i w else w := by
  unfold releaseIfAlarm
  rw [hx]

theorem releaseIfAlarm_onShutter (he : tget s.shut i = some e) {k : Shutter → Shutter} (hk : (k e).loaded = e.loaded) :
    releaseIfAlarm i (onShutter s i k) =
      if e.inZone s.zoneFull then release i (onShutter s i k) else onShutter s i k := by
  have hzones : (k e).zoneA = e.zoneA ∧ (k e).zoneB = e.zoneB :=
    ⟨congrArg (fun l => l.2.1) hk, congrArg (fun l => l.2.2.1) hk⟩
  have hin : (k e).inZone (onShutter s i k).zoneFull = e.inZone s.zoneFull := by
    show (s.zoneFull (k e).zoneA || (k e).zoneB.any s.zoneFull) = _
    rw [hzones.1, hzones.2]
    rfl
  rw [releaseIfAlarm_of (tget_onShutter he k), hin]

theorem shutterReport_unknown (he : tget s.shut i = some e) (hst : e.state = .unknown) : shutterReport i pos s =
    releaseIfAlarm i (onShutter s i fun x => (x.reporting pos).leaveUnknown pos) := by
  unfold shutterReport
  rw [he]
  dsimp only
  rw [if_pos hst, onShutter_onShutter]
  rfl

theorem shutterReport_opened (he : tget s.shut i = some e) (hst : e.state = .closed ∨ e.state = .raising) :
    shutterReport i .open s = releaseIfAlarm i (onShutter s i fun x => (x.reporting .open).onReport .open) := by
  unfold shutterReport
  rw [he]
  dsimp only
  rw [if_neg (by rcases hst with h | h <;> (rw [h]; nofun)), onShutter_onShutter, if_pos ⟨rfl, hst⟩]
  rfl

theorem shutterReport_other (he : tget s.shut i = some e) (hst : e.state ≠ .unknown)
    (hno : pos ≠ .open ∨ (e.state ≠ .closed ∧ e.state ≠ .raising)) :
    shutterReport i pos s = onShutter s i fun x => (x.reporting pos).onReport pos := by
  unfold shutterReport
  rw [he]
  dsimp only
  rw [if_neg hst, onShutter_onShutter, if_neg]
  · rfl
  · rintro ⟨hopen, hc | hr⟩
    · exact hno.elim (fun h => h hopen) fun h => h.1 hc
    · exact hno.elim (fun h => h hopen) fun h => h.2 hr

/-- A report reads the shutter's state (R73). -/
theorem onReport_of {st : ShutterState} (hst : x.state = st) : x.onReport pos = { x with state := st }.onReport pos := by
  rw [← hst]

end

/-- Settles O47: the table of R71 and R73, state by state. -/
theorem shutterReportsTapped : Obligations.ShutterReportsTapped := by
  intro h st v pos s hans harmed hv u ends
  have hlisted : v.toNat ≤ 5 := by
    have hlt := (List.getElem?_eq_some_iff.mp hv).1
    exact Nat.le_of_lt_succ hlt
  have hends : ∀ w, withEntry (shutterAt u h.src.toNat) (fun i => shutterReport i pos) u = w → ends w := fun w hw =>
    endsAs_tapped hans (r := .shutterPosition v)
      (Bool.eq_false_iff.mpr fun hc => absurd ((malformed_iff _ _ _).mp hc) (Nat.not_lt.mpr hlisted))
      ((tap_shutterPosition ((answeredBy_armed h s).trans harmed) _ hv).trans hw)
  refine ⟨fun hnone => hends u (by rw [hnone]; rfl), fun i e hi he hkeys => ?_⟩
  intro set released opened closed faulted jammed
  have hreport : ∀ w, shutterReport i pos u = w → ends w := fun w hw => hends w (by rw [hi]; exact hw)
  have hset : ∀ {k f : Shutter → Shutter}, k (e.reporting pos) = f (e.reporting pos) →
      (onShutter u i fun x => k (x.reporting pos)) = set f := fun hkf =>
    onShutter_congr (f := fun x => _) (g := fun x => _) hkeys he hkf
  have hplain : e.state ≠ .unknown → (pos ≠ .open ∨ (e.state ≠ .closed ∧ e.state ≠ .raising)) →
      ∀ f : Shutter → Shutter, (e.reporting pos).onReport pos = f (e.reporting pos) → ends (set f) := fun hst hno f hf =>
    hreport _ ((shutterReport_other he hst hno).trans (hset hf))
  have hreleased : ∀ k f : Shutter → Shutter, shutterReport i pos u = releaseIfAlarm i (onShutter u i fun x => k (x.reporting pos)) →
      k (e.reporting pos) = f (e.reporting pos) → (f (e.reporting pos)).loaded = e.loaded → released (set f) := by
    intro k f hk hkf hloaded
    refine hreport _ (hk.trans ?_)
    rw [hset hkf]
    exact releaseIfAlarm_onShutter he hloaded
  have hleave : e.state = .unknown → ∀ f : Shutter → Shutter, (e.reporting pos).leaveUnknown pos = f (e.reporting pos) →
      (f (e.reporting pos)).loaded = e.loaded → released (set f) := fun hst f =>
    hreleased _ f (shutterReport_unknown he hst)
  have hkeep : ∀ {st' : ShutterState}, e.state = st' → { e.reporting pos with state := st' } = e.reporting pos := by
    rintro st' rfl
    rfl
  have hread : ∀ {st' : ShutterState} {f : Shutter → Shutter}, e.state = st' →
      { e.reporting pos with state := st' }.onReport pos = f (e.reporting pos) →
      (e.reporting pos).onReport pos = f (e.reporting pos) := fun hst hf =>
    (onReport_of (x := e.reporting pos) hst).trans hf
  have hof : ∀ {st' : ShutterState} (f : Shutter → Shutter), e.state = st' → st' ≠ .unknown →
      (pos ≠ .open ∨ (st' ≠ .closed ∧ st' ≠ .raising)) →
      { e.reporting pos with state := st' }.onReport pos = f (e.reporting pos) → ends (set f) := by
    rintro st' f rfl hst hno hf
    exact hplain hst hno f hf
  refine ⟨fun hst => ⟨?_, ?_, ?_, ?_⟩, fun hst => ⟨?_, ?_, ?_⟩, fun hst => ⟨?_, ?_, ?_⟩, fun hst => ⟨?_, ?_, ?_⟩,
    fun hst => ⟨?_, ?_, ?_, ?_⟩, fun hst => ⟨?_, ?_, ?_⟩, fun hst => ⟨?_, ?_⟩, fun hst => ⟨?_, ?_, ?_⟩, fun hst => ?_⟩
  -- UNKNOWN
  · rintro rfl
    exact hleave hst opened rfl rfl
  · rintro rfl
    exact hleave hst (fun x => closed { x with reason := .none }) rfl rfl
  · rintro (rfl | rfl | rfl) <;> exact hleave hst (fun x => faulted { x with reason := .none }) rfl rfl
  · rintro rfl
    exact hleave hst (fun x => jammed { x with reason := .none }) rfl rfl
  -- OPEN
  · rintro (rfl | rfl)
    · exact hof id hst nofun (.inr ⟨nofun, nofun⟩) (hkeep hst)
    · exact hof id hst nofun (.inl nofun) (hkeep hst)
  · rintro rfl
    exact hof (fun x => closed { x with reason := .manual }) hst nofun (.inl nofun) rfl
  · rintro (rfl | rfl | rfl) <;> exact hof faulted hst nofun (.inl nofun) rfl
  -- AWAIT_CLEAR
  · rintro (rfl | rfl)
    · exact hof id hst nofun (.inr ⟨nofun, nofun⟩) (hkeep hst)
    · exact hof id hst nofun (.inl nofun) (hkeep hst)
  · rintro rfl
    exact hof closed hst nofun (.inl nofun) rfl
  · rintro (rfl | rfl | rfl) <;> exact hof faulted hst nofun (.inl nofun) rfl
  -- WARNING
  · rintro rfl
    exact hof id hst nofun (.inr ⟨nofun, nofun⟩) (hkeep hst)
  · rintro rfl
    exact hof closed hst nofun (.inl nofun) rfl
  · rintro (rfl | rfl | rfl | rfl) <;> exact hof faulted hst nofun (.inl nofun) rfl
  -- DESCENDING
  · rintro (rfl | rfl)
    · exact hof id hst nofun (.inr ⟨nofun, nofun⟩) (hkeep hst)
    · exact hof id hst nofun (.inl nofun) (hkeep hst)
  · rintro rfl
    exact hof closed hst nofun (.inl nofun) rfl
  · rintro rfl
    exact hof faulted hst nofun (.inl nofun) rfl
  · rintro (rfl | rfl) <;> exact hof jammed hst nofun (.inl nofun) rfl
  -- CLOSED
  · rintro rfl
    exact hreleased _ opened (shutterReport_opened he (.inl hst)) (hread (f := opened) hst rfl) rfl
  · rintro (rfl | rfl) <;> exact hof id hst nofun (.inl nofun) (hkeep hst)
  · rintro (rfl | rfl | rfl) <;> exact hof faulted hst nofun (.inl nofun) rfl
  -- OBSTRUCTED
  · rintro rfl
    exact hof closed hst nofun (.inl nofun) rfl
  · intro hne
    refine hof id hst nofun (.inr ⟨nofun, nofun⟩) (Eq.trans ?_ (hkeep hst))
    cases pos with
    | closed => exact absurd rfl hne
    | _ => rfl
  -- RAISING
  · rintro rfl
    exact hreleased _ opened (shutterReport_opened he (.inr hst)) (hread (f := opened) hst rfl) rfl
  · rintro (rfl | rfl) <;> exact hof id hst nofun (.inl nofun) (hkeep hst)
  · rintro (rfl | rfl | rfl) <;> exact hof faulted hst nofun (.inl nofun) rfl
  -- FAULTED
  · refine hof id hst nofun (.inr ⟨nofun, nofun⟩) (Eq.trans ?_ (hkeep hst))
    cases pos <;> rfl

end Sys2Proof.Machine
end
section
/-! SUPPORT. The reports of pushes and of answer desks. -/

namespace Sys2Proof.Machine

/-! ## Escalation (R111) -/

section
variable {s : State} {i : Nat} {c : Call}

/-- The Call Unit with the call of push `i` escalated to priority `n`, and its queued requests at their new places. -/
def CallUnit.escalated (i n : Nat) (u : CallUnit) : CallUnit :=
  { u with
    calls := u.calls.map fun x =>
      if x.push = i then { x with priority := n, escalated := true, nextRing := none } else x
    queue := reorder (u.queue.map fun r => if r.origin = .call i then { r with priority := n } else r)
    mark := true }

theorem escalate_of_escalated (hc : s.call.calls.find? (fun c => c.push == i) = some c) (h : c.escalated = true) :
    escalate i s = s := by
  unfold escalate
  rw [hc]
  exact if_pos h

theorem escalate_of (hc : s.call.calls.find? (fun c => c.push == i) = some c) (h : c.escalated = false) : escalate i s =
    match (tget s.call.pushes i).bind fun p => p.escalation with
    | some (rg, pt) => joinNew rg pt (min (c.priority + 1) 6) (.call i)
        (s.onCall (CallUnit.escalated i (min (c.priority + 1) 6)))
    | none => s.onCall (CallUnit.escalated i (min (c.priority + 1) 6)) := by
  unfold escalate
  rw [hc]
  exact if_neg (Bool.eq_false_iff.mp h)

/-- All queued requests of an origin have the priority `n`. -/
def CallUnit.AtPriority (o : Origin) (n : Nat) (u : CallUnit) : Prop := ∀ r ∈ u.queue, r.origin = o → r.priority = n

theorem mem_reorder {r : Req} {q : List Req} : r ∈ reorder q ↔ r ∈ q := (reorder_perm q).mem_iff

theorem mem_insertReq {r x : Req} {q : List Req} : x ∈ insertReq r q ↔ x = r ∨ x ∈ q :=
  (insertReq_perm r q).mem_iff.trans List.mem_cons

theorem escalated_atPriority (u : CallUnit) (i n : Nat) : (u.escalated i n).AtPriority (.call i) n := by
  intro r hr horigin
  obtain ⟨x, -, rfl⟩ := List.mem_map.mp (mem_reorder.mp hr)
  by_cases hx : x.origin = .call i
  · rw [if_pos hx]
  · rw [if_neg hx] at horigin
    exact absurd horigin hx

/-- A request of the priority that joins leaves all at that priority. -/
theorem join_atPriority {u : CallUnit} {o : Origin} {n : Nat} (h : u.AtPriority o n) {r : Req} (ho : r.origin = o)
    (hn : r.priority = n) : (u.join r).AtPriority o n := by
  have hjoined : ∀ {q : List Req}, q ⊆ u.queue → ∀ x ∈ insertReq r q, x.origin = o → x.priority = n := by
    intro q hq x hx hxo
    rcases mem_insertReq.mp hx with rfl | hx
    · exact hn
    · exact h x (hq hx) hxo
  intro x hx hxo
  unfold CallUnit.join at hx
  split at hx
  · obtain ⟨y, hy, rfl⟩ := List.mem_map.mp (mem_reorder.mp hx)
    by_cases hsame : r.same y = true
    · rw [if_pos hsame] at hxo ⊢
      have hyo : y.origin = o := (Req.same_iff r y |>.mp hsame).2.2.symm.trans ho
      show max y.priority r.priority = n
      rw [h y hy hyo, hn, max_self]
    · rw [if_neg hsame] at hxo ⊢
      exact h y hy hxo
  · split at hx
    · exact hjoined (List.Subset.refl _) x hx hxo
    · split at hx
      · exact h x hx hxo
      · split at hx <;> rw [CallUnit.owe_queue] at hx
        · exact hjoined (List.dropLast_subset _) x hx hxo
        · exact h x hx hxo

theorem joinNew_atPriority {o : Origin} {n : Nat} (h : s.call.AtPriority o n) (rg pt : Nat) :
    (joinNew rg pt n o s).call.AtPriority o n := by
  show (CallUnit.join { s.call with nextSeq := s.call.nextSeq + 1 } _).AtPriority o n
  exact join_atPriority (u := { s.call with nextSeq := s.call.nextSeq + 1 }) h rfl rfl

/-- With room in the queue a joining leaves the calls. -/
theorem join_calls {u : CallUnit} (hroom : u.queue.length < 24) (r : Req) : (u.join r).calls = u.calls := by
  cases hsame : u.queue.any r.same with
  | true => rw [CallUnit.join_of_same hsame]
  | false => rw [CallUnit.join_of_room hsame hroom]

theorem joinNew_calls (hroom : s.call.queue.length < 24) (a b n : Nat) (o : Origin) :
    (joinNew a b n o s).call.calls = s.call.calls :=
  join_calls (u := { s.call with nextSeq := s.call.nextSeq + 1 }) hroom _

/-! ## Push reports (R104, R105) -/

theorem tap_push (harmed : s.armed = true) (a : Nat) (k : Byte) :
    tap a (.push k) s = withEntry (pushAt s a k.toNat) pushPressed s := if_pos harmed

theorem pushPressed_of_listed {p : Push} (hp : tget s.call.pushes i = some p)
    (hc : s.call.calls.find? (fun c => c.push == i) = some c) : pushPressed i s =
      let v := s.onCall fun u => u.onCallOf i fun x => { x with presses := min (c.presses + 1) 15 }
      if min (c.presses + 1) 15 ≥ 3 ∧ (!c.escalated) = true then dispatch (escalate i v) else v := by
  unfold pushPressed
  rw [hp]
  dsimp only
  rw [hc]

theorem find?_push_none {l : List Call} (h : ∀ c ∈ l, c.push ≠ i) : l.find? (fun c => c.push == i) = none := by
  rw [List.find?_eq_none]
  intro c hc
  simpa using h c hc

/-- The Call Unit with a new call of push `i`, or LIST_FULL. -/
def State.listed (i : Nat) (p : Push) (s : State) : State :=
  if s.call.calls.length < 32 then
    s.onCall fun k => { k with
      calls := k.calls ++ [{ push := i, priority := p.priority, arrival := s.now - s.mgmt.armedAt
                             presses := 1, rings := 0, nextRing := none, escalated := false
                             owed := false, state := .waiting }]
      mark := true }
  else s.onCall fun k => { k with listFull := true, mark := true }

theorem pushPressed_of_unlisted {p : Push} (hp : tget s.call.pushes i = some p) (hc : ∀ c ∈ s.call.calls, c.push ≠ i) :
    pushPressed i s = joinAndDispatch p.ringer p.pattern p.priority (.call i) (s.listed i p) := by
  unfold pushPressed
  rw [hp]
  dsimp only
  rw [find?_push_none hc]
  rfl

end

/-- Settles O48: a push with no call listed, one with a call, and the escalation. -/
theorem pushReportsTapped : Obligations.PushReportsTapped := by
  unfold Obligations.PushReportsTapped
  refine ⟨fun h st key s hans harmed hkey => ?_, fun i c v hc => ⟨escalate_of_escalated hc, fun hesc => ?_⟩⟩
  · intro u ends
    have hends : ∀ w, withEntry (pushAt u h.src.toNat key.toNat) pushPressed u = w → ends w := fun w hw =>
      endsAs_tapped hans (r := .push key)
        (Bool.eq_false_iff.mpr fun hc => absurd ((malformed_iff _ _ _).mp hc) (Nat.not_lt.mpr hkey))
        ((tap_push ((answeredBy_armed h s).trans harmed) _ _).trans hw)
    refine ⟨fun hnone => hends u (by rw [hnone]; rfl), fun i p hi hp => ?_⟩
    have hpress : ∀ w, pushPressed i u = w → ends w := fun w hw => hends w (by rw [hi]; exact hw)
    refine ⟨fun hnone => ⟨fun hroom => hpress _ ?_, fun hfull => hpress _ ?_⟩, fun c hc => ?_⟩
    · rw [pushPressed_of_unlisted hp hnone, State.listed, if_pos hroom]
    · rw [pushPressed_of_unlisted hp hnone, State.listed, if_neg (Nat.not_lt.mpr hfull)]
    · have hlisted := pushPressed_of_listed hp hc
      intro n v
      refine ⟨fun hor => hpress _ (hlisted.trans (if_neg fun hboth => ?_)),
        fun h3 hesc => hpress _ (hlisted.trans (if_pos ⟨h3, by rw [hesc]; rfl⟩))⟩
      obtain ⟨h3, hno⟩ := hboth
      rcases hor with hlt | hesc
      · exact absurd h3 (Nat.not_le.mpr hlt)
      · rw [hesc] at hno
        cases hno
  · have hstep := escalate_of hc hesc
    have hprio := escalated_atPriority v.call i (min (c.priority + 1) 6)
    have hlen : (v.call.escalated i (min (c.priority + 1) 6)).queue.length = v.call.queue.length := by
      show (reorder _).length = _
      rw [reorder_length, List.length_map]
    refine ⟨⟨_, reorder_perm _, reorder_order _, fun hnone => ?_, fun p rg pt hp hpe => ?_⟩, fun hroom => ?_, ?_⟩
    · have hbind : ((tget v.call.pushes i).bind fun p => p.escalation) = none := by
        cases hp : tget v.call.pushes i with
        | none => rfl
        | some p => exact hnone p hp
      rw [hbind] at hstep
      exact hstep
    · have hbind : ((tget v.call.pushes i).bind fun p => p.escalation) = some (rg, pt) := by
        rw [hp]
        exact hpe
      rw [hbind] at hstep
      exact hstep
    · rw [hstep]
      split
      · exact joinNew_calls (s := v.onCall _) (by rw [← hlen] at hroom; exact hroom) ..
      · rfl
    · rw [hstep]
      split
      · exact joinNew_atPriority (s := v.onCall _) hprio _ _
      · exact hprio

/-! ## Answer reports (R116) -/

section
variable {s : State} {cell : Nat}

theorem tap_answer (harmed : s.armed = true) (a : Nat) (c : Byte) :
    tap a (.answer c) s = if s.hasRole a .desk then answer c.toNat s else s := if_pos harmed

theorem answer_ignored_all (hcalls : s.call.calls = []) (hqueue : ∀ r ∈ s.call.queue, ∀ p, r.origin ≠ .call p) :
    answer 64 s = ignoreAnswer 64 s := by
  have hnone : (!(s.call.queue.any fun r => r.origin matches .call _)) = true := by
    rw [Bool.not_eq_true', List.any_eq_false]
    intro r hr
    have := hqueue r hr
    cases horigin : r.origin <;> simp_all
  exact (if_pos rfl).trans (if_pos ⟨hcalls, hnone⟩)

theorem answer_all (h : s.call.calls ≠ [] ∨ ∃ r ∈ s.call.queue, ∃ p, r.origin = .call p) :
    answer 64 s = removeCalls (s.call.calls.map fun c => c.push) true s := by
  refine (if_pos rfl).trans (if_neg fun ⟨hcalls, hnone⟩ => ?_)
  rcases h with h | ⟨r, hr, p, hp⟩
  · exact h hcalls
  · rw [Bool.not_eq_true', List.any_eq_false] at hnone
    exact hnone r hr (by rw [hp])

theorem answer_ignored (hcell : cell < 64)
    (h : ∀ p, tget s.board.layout cell = some (.push p) → ∀ c ∈ s.call.calls, c.push ≠ p) :
    answer cell s = ignoreAnswer cell s := by
  refine (if_neg (Nat.ne_of_lt hcell)).trans ?_
  split
  next p hp =>
    refine if_neg fun hhas => ?_
    obtain ⟨c, hc, hcp⟩ := (hasCall_iff _ _).mp hhas
    exact h p hp c hc hcp
  next => rfl

theorem answer_cell (hcell : cell < 64) {p : Nat} (hp : tget s.board.layout cell = some (.push p))
    (h : ∃ c ∈ s.call.calls, c.push = p) : answer cell s = removeCalls [p] false s := by
  refine (if_neg (Nat.ne_of_lt hcell)).trans ?_
  rw [hp]
  exact if_pos ((hasCall_iff _ _).mpr h)

theorem removeCalls_served (pushes : List Nat) (all : Bool) (s : State) : CallUnit.Served
    (s.call.removed pushes (Origin.callOf fun p => all || pushes.contains p) (Origin.callOf fun p => pushes.contains p))
    (removeCalls pushes all s).call := by
  rw [removeCalls_eq]
  exact departures_served (s.onCall (CallUnit.removed pushes (Origin.callOf fun p => all || pushes.contains p)
    (Origin.callOf fun p => pushes.contains p)))

end

/-- Settles O49: the answer that names a push, ALL, and the one that answers no call. -/
theorem answerReportsTapped : Obligations.AnswerReportsTapped := by
  intro h st cell s hans harmed hcell u ends kept ignored
  have hends : ∀ w, (if u.hasRole h.src.toNat .desk then answer cell.toNat u else u) = w → ends w := fun w hw =>
    endsAs_tapped hans (r := .answer cell)
      (Bool.eq_false_iff.mpr fun hc => absurd ((malformed_iff _ _ _).mp hc) (Nat.not_lt.mpr hcell))
      ((tap_answer ((answeredBy_armed h s).trans harmed) _ _).trans hw)
  have hkept : ∀ pushes all, kept (removeCalls pushes all u) := by
    intro pushes all
    have hserved := removeCalls_served pushes all u
    refine ⟨?_, ?_, ?_, ?_, ?_, ?_, ?_, ?_, hserved.closingLevel, hserved.fireLevel, hserved.lastIgnored⟩ <;>
      simp [removeCalls_eq]
  have hrings : ∀ pushes all, ∀ i ∈ pushes, ∀ g ∈ (removeCalls pushes all u).call.ringers, ∀ r,
      g.2.ring = some (.request r) → r.origin ≠ .call i := by
    intro pushes all i hi g hg r hr horigin
    have hwithout := (removeCalls_without pushes all u).rings g hg r hr
    simp [horigin, Origin.callOf, hi] at hwithout
  refine ⟨fun hno => hends u (if_neg (Bool.eq_false_iff.mp hno)), fun hdesk => ?_⟩
  have hanswer : ∀ w, answer cell.toNat u = w → ends w := fun w hw => hends w ((if_pos hdesk).trans hw)
  refine ⟨fun h64 => ?_, fun hlt => ?_⟩
  · have hignored : ignoreAnswer 64 u = ignored := by
      show _ = u.onCall fun k => { k with lastIgnored := some cell.toNat, mark := true }
      rw [h64]
      rfl
    rw [h64] at hanswer
    refine ⟨fun hcalls hqueue => hanswer _ ((answer_ignored_all hcalls hqueue).trans hignored), fun hsome =>
      ⟨_, rfl, hanswer _ (answer_all hsome), hkept _ _, ?_, fun r hr p => removeCalls_all_queue u hr p,
        fun g hg r hr c hc => hrings _ _ _ (List.mem_map.mpr ⟨c, hc, rfl⟩) g hg r hr, fun hsome => ?_, fun hnone => ?_⟩⟩
    · have hcalls := removeCalls_calls (u.call.calls.map fun c => c.push) true u
      rw [List.filter_eq_nil_iff.mpr fun x hx => by simpa using hx] at hcalls
      exact List.map_eq_nil_iff.mp hcalls
    · obtain ⟨c, hc⟩ := List.exists_mem_of_ne_nil _ hsome
      rw [removeCalls_listFull, if_pos]
      exact List.any_eq_true.mpr ⟨c.push, List.mem_map.mpr ⟨c, hc, rfl⟩, (hasCall_iff _ _).mpr ⟨c, hc, rfl⟩⟩
    · rw [removeCalls_listFull, hnone]
      rfl
  · refine ⟨fun hnone => hanswer _ (answer_ignored hlt hnone), fun p hp hsome =>
      ⟨_, rfl, hanswer _ (answer_cell hlt hp hsome), hkept _ _, ?_, ?_, fun r hr horigin => ?_,
        hrings _ _ _ (List.mem_singleton.mpr rfl)⟩⟩
    · rw [removeCalls_listFull]
      simp [(hasCall_iff _ _).mpr hsome]
    · rw [removeCalls_calls]
      refine List.filter_congr fun x _ => ?_
      simp [decide_not]
    · have hwithout := (removeCalls_without [p] false u).queue r hr
      simp [horigin, Origin.callOf] at hwithout

end Sys2Proof.Machine
end
section
/-! SUPPORT. The end of a ring, the next ring time, and the fire repeat timer. -/

namespace Sys2Proof.Machine

/-! ## Equal records, the same end -/

theorem ByRecords.records_eq {f : State → State} (h : ByRecords f) {s t : State} (hst : s.records = t.records) :
    (f s).records = (f t).records := by
  rw [← h s, hst, h t]

/-- A report forwarded leaves equal records on equal records, when the FIFO is the same. -/
theorem forwardReport_records {s t : State} (hst : s.records = t.records) (hfifo : s.line.reports = t.line.reports)
    (h : Hdr) (r : Report) : (forwardReport h r s).records = (forwardReport h r t).records := by
  rw [forwardReport_eq, forwardReport_eq, hfifo]
  split
  · exact hst
  · split
    · exact hst
    · exact congrArg (fun u : State => u.onLine fun l => { l with reportOverflow := true }) hst

/-! ## A ring of a push's own ringer and pattern (R108, R109) -/

section
variable {s : State} {i p : Nat} {c : Call} {r : Req}

/-- The ring was of the push's own ringer and REPEAT pattern, the call not escalated. -/
def State.ownRing (s : State) (r : Req) (c : Call) (interval limit : Nat) : Prop :=
  c.escalated = false ∧
    (∃ e, tget s.call.pushes c.push = some e ∧ e.ringer = r.ringer ∧ e.pattern = r.pattern) ∧
    ∃ pat, tget s.call.patterns r.pattern = some pat ∧ pat.repeating = some (interval, limit)

theorem repeatOf_iff (hc : s.call.calls.find? (fun c => c.push == p) = some c) (interval limit : Nat) :
    repeatOf s p r = some (interval, limit) ↔ s.ownRing r c interval limit := by
  have hpush : c.push = p := by simpa using List.find?_some hc
  unfold repeatOf State.ownRing
  rw [hc, hpush]
  cases he : tget s.call.pushes p with
  | none => simp
  | some e =>
    cases hpat : tget s.call.patterns r.pattern with
    | none => simp
    | some pat =>
      simp only [Push.owns, Bool.and_eq_true, beq_iff_eq, Bool.not_eq_true', Option.some.injEq, exists_eq_left']
      by_cases hown : (e.ringer = r.ringer ∧ e.pattern = r.pattern) ∧ c.escalated = false
      · rw [if_pos hown]
        exact ⟨fun h => ⟨hown.2, hown.1, h⟩, fun h => h.2.2⟩
      · rw [if_neg hown]
        exact ⟨nofun, fun h => absurd ⟨h.2.1, h.1⟩ hown⟩

theorem repeatOf_none (hc : s.call.calls.find? (fun c => c.push == p) = some c)
    (h : ¬∃ interval limit, s.ownRing r c interval limit) : repeatOf s p r = none := by
  rw [Option.eq_none_iff_forall_ne_some]
  rintro ⟨interval, limit⟩ heq
  exact h ⟨interval, limit, (repeatOf_iff hc _ _).mp heq⟩

theorem repeatOf_of_unlisted (hnone : ∀ c ∈ s.call.calls, c.push ≠ p) : repeatOf s p r = none := by
  unfold repeatOf
  rw [find?_push_none hnone]
  cases tget s.call.pushes p <;> rfl

/-! ## A Ring Done (R108) -/

theorem tap_ringDone (harmed : s.armed = true) (a : Nat) (n : Byte) :
    tap a (.ringDone n) s = withEntry (ringerAt s a) (fun i => ringDone i n.toNat) s := if_pos harmed

theorem ringDone_of {g : Ringer} (hg : tget s.call.ringers i = some g) {ring : Ring} (hring : g.ring = some ring) {n : Nat}
    (hn : g.number = some n) : ringDone i n s = dispatch (ringCompleted ring (onRinger s i Ringer.idle)) := by
  unfold ringDone
  rw [hg]
  dsimp only
  rw [hring]
  exact if_pos hn

theorem ringDone_stale {g : Ringer} (hg : tget s.call.ringers i = some g) {n : Nat}
    (h : g.ring = none ∨ g.number ≠ some n) : ringDone i n s = s := by
  unfold ringDone
  rw [hg]
  dsimp only
  split
  · rfl
  next hring => exact if_neg (h.resolve_left (by rw [hring]; nofun))

/-- A ring of no listed call counts for none. -/
theorem ringCompleted_of_unlisted (h : ∀ p, r.origin = .call p → ∀ c ∈ s.call.calls, c.push ≠ p) :
    ringCompleted (.request r) s = s := by
  unfold ringCompleted
  dsimp only
  split
  next p hp => rw [find?_push_none (h p hp)]
  next => rfl

/-- The rings done of the call of push `p`. -/
def State.rung (p n : Nat) (s : State) : State := s.onCall fun u => u.onCallOf p fun x => { x with rings := n }

/-- A ring of a listed call is counted; then the next ring time is set, or the call escalates. -/
theorem ringCompleted_of_call (hp : r.origin = .call p) (hc : s.call.calls.find? (fun c => c.push == p) = some c) :
    ringCompleted (.request r) s =
      match repeatOf s p r with
      | none => s.rung p (min (c.rings + 1) 15)
      | some (interval, limit) =>
        if limit ≠ 0 ∧ min (c.rings + 1) 15 ≥ limit then escalate p (s.rung p (min (c.rings + 1) 15))
        else (s.rung p (min (c.rings + 1) 15)).onCall fun u =>
          { u.onCallOf p fun c => { c with nextRing := some (s.now + interval) } with mark := true } := by
  unfold ringCompleted
  dsimp only
  rw [hp]
  dsimp only
  rw [hc] <;> rfl

/-! ## The ring timer (R109) -/

/-- The state a ring dropped at its timer's expiry leaves, less the dispatch. -/
def State.dropped (i : Nat) (ring : Ring) (s : State) : State :=
  match ring with
  | .request r =>
    match r.origin with
    | .call push =>
      match repeatOf s push r with
      | some (interval, _) => (onRinger s i Ringer.idle).onCall fun u =>
          u.onCallOf push fun c => { c with nextRing := some (s.now + interval) }
      | none => onRinger s i Ringer.idle
    | _ => onRinger s i Ringer.idle
  | .panel _ _ => onRinger s i Ringer.idle

theorem ringTimerExpires_of {g : Ringer} (hg : tget s.call.ringers i = some g) (ht : g.timer.isSome = true) {ring : Ring}
    (hring : g.ring = some ring) : ringTimerExpires i s = dispatch (s.dropped i ring) := by
  obtain ⟨t, ht⟩ := Option.isSome_iff_exists.mp ht
  unfold ringTimerExpires
  rw [hg]
  dsimp only
  rw [ht, hring] <;> rfl

theorem dropped_of_unlisted (h : ∀ p, r.origin = .call p → ∀ c ∈ s.call.calls, c.push ≠ p) :
    s.dropped i (.request r) = onRinger s i Ringer.idle := by
  unfold State.dropped
  dsimp only
  split
  next p hp => rw [repeatOf_of_unlisted (h p hp)]
  next => rfl

theorem dropped_of_once (hp : r.origin = .call p) (h : repeatOf s p r = none) :
    s.dropped i (.request r) = onRinger s i Ringer.idle := by
  unfold State.dropped
  dsimp only
  rw [hp]
  dsimp only
  rw [h]

theorem dropped_of_repeat (hp : r.origin = .call p) {interval limit : Nat} (h : repeatOf s p r = some (interval, limit)) :
    s.dropped i (.request r) = (onRinger s i Ringer.idle).onCall fun u =>
      u.onCallOf p fun c => { c with nextRing := some (s.now + interval) } := by
  unfold State.dropped
  dsimp only
  rw [hp]
  dsimp only
  rw [h]

theorem ringTimerExpires_of_none {g : Ringer} (hg : tget s.call.ringers i = some g) (h : g.timer = none ∨ g.ring = none) :
    ringTimerExpires i s = s := by
  unfold ringTimerExpires
  rw [hg]
  dsimp only
  split
  next ht hr => rcases h with h | h <;> [(rw [h] at ht; cases ht); (rw [h] at hr; cases hr)]
  next => rfl

end

/-- Settles O50: the Ring Done and the ring timer, by the ring's origin. -/
theorem ringsEnd : Obligations.RingsEnd := by
  unfold Obligations.RingsEnd
  intro idle own onCall
  refine ⟨fun h st number s hans harmed => ?_, fun i g s hg => ?_⟩
  · intro u ends
    have hends : ∀ w, withEntry (ringerAt u h.src.toNat) (fun i => ringDone i number.toNat) u = w → ends w :=
      fun w hw => endsAs_tapped hans (r := .ringDone number) rfl
        ((tap_ringDone ((answeredBy_armed h s).trans harmed) _ _).trans hw)
    refine ⟨fun hnone => hends u (by rw [hnone]; rfl), fun i g hi hg => ?_⟩
    have hdone : ∀ w, ringDone i number.toNat u = w → ends w := fun w hw => hends w (by rw [hi]; exact hw)
    refine ⟨fun hstale => hdone _ (ringDone_stale hg hstale), fun hn => ⟨fun a b hring => hdone _ (ringDone_of hg hring hn),
      fun r hring => ?_⟩⟩
    have hreq := ringDone_of hg hring hn
    refine ⟨fun hno => hdone _ (hreq.trans (congrArg dispatch (ringCompleted_of_unlisted (s := idle u i) hno))), fun p c hp hc => ?_⟩
    have hcompleted := hreq.trans (congrArg dispatch (ringCompleted_of_call (s := idle u i) hp hc))
    intro n rung
    refine ⟨fun hnone => hdone _ (hcompleted.trans ?_), fun interval limit hown => ?_⟩
    · rw [repeatOf_none (s := idle u i) hc hnone]
      rfl
    · rw [(repeatOf_iff (s := idle u i) hc interval limit).mpr hown] at hcompleted
      refine ⟨fun hlimit hle => hdone _ (hcompleted.trans (congrArg dispatch (if_pos ⟨hlimit, hle⟩))), fun hor => ?_⟩
      have hno : ¬(limit ≠ 0 ∧ min (c.rings + 1) 15 ≥ limit) := fun ⟨hne, hge⟩ =>
        hor.elim hne fun hlt => absurd hge (Nat.not_le.mpr hlt)
      refine EndsAs.of_records (hdone _ (hcompleted.trans (congrArg dispatch (if_neg hno)))) ?_
      refine forwardReport_records (dispatch_byRecords.records_eq ?_) ?_ ..
      · rfl
      · rw [(dispatch_keeps _).1, (dispatch_keeps _).1]
        rfl
  · intro ends
    have hends : ∀ w, ringTimerExpires i s = w → ends w := fun w hw => endsAs_finish_of_eq hw
    refine ⟨fun hnone => hends _ (ringTimerExpires_of_none hg hnone), fun ht => ⟨fun a b hring => hends _ (ringTimerExpires_of hg ht hring),
      fun r hring => ?_⟩⟩
    have hexp := ringTimerExpires_of hg ht hring
    refine ⟨fun hno => hends _ (hexp.trans (congrArg dispatch (dropped_of_unlisted hno))), fun p c hp hc =>
      ⟨fun hnone => hends _ (hexp.trans (congrArg dispatch (dropped_of_once hp (repeatOf_none hc hnone)))),
        fun interval limit hown => hends _ (hexp.trans (congrArg dispatch
          (dropped_of_repeat hp ((repeatOf_iff hc interval limit).mpr hown))))⟩⟩

/-! ## The next ring time and the fire repeat timer (R110, R113) -/

section
variable {s : State} {push : Nat} {c : Call}

theorem ringTimeReached_of_none (hc : ∀ c, s.call.calls.find? (fun c => c.push == push) = some c → c.nextRing = none) :
    ringTimeReached push s = s := by
  unfold ringTimeReached
  have hbind : ((s.call.calls.find? fun c => c.push == push).bind fun c => c.nextRing) = none := by
    cases h : s.call.calls.find? (fun c => c.push == push) with
    | none => rfl
    | some c => exact hc c h
  rw [hbind]

theorem ringTimeReached_of {p : Push} {t : Nat} (hc : s.call.calls.find? (fun c => c.push == push) = some c)
    (ht : c.nextRing = some t) (hp : tget s.call.pushes push = some p) : ringTimeReached push s =
      let v := (advanceTo t s).onCall fun u => u.onCallOf push fun c => { c with nextRing := none }
      if c.owed then v else joinAndDispatch p.ringer p.pattern c.priority (.call push) v := by
  have hbind : ((s.call.calls.find? fun c => c.push == push).bind fun c => c.nextRing) = some t := by
    rw [hc]
    exact ht
  have hc' : (advanceTo t s).call.calls.find? (fun c => c.push == push) = some c := hc
  have hp' : tget (advanceTo t s).call.pushes push = some p := hp
  unfold ringTimeReached
  rw [hbind]
  dsimp only
  unfold nextRingReached
  rw [hc', hp']
  dsimp only
  exact if_pos (by rw [ht]; rfl)

theorem fireTimerExpires_of {f : FireSettings} {pat : Pattern} (ht : s.call.fireTimer.isSome = true)
    (hf : s.fire.settings = some f) (hpat : tget s.call.patterns f.pattern = some pat) : fireTimerExpires s =
      match pat.repeating with
      | some (interval, limit) =>
        if s.anyFull && !s.fire.silence && (limit = 0 || s.call.fireRound < limit) then
          (queueFire f.pattern s).onCall fun u =>
            { u with fireRound := min (u.fireRound + 1) 15, fireTimer := some (secs interval) }
        else s.onCall fun u => { u with fireTimer := none }
      | none => s.onCall fun u => { u with fireTimer := none } := by
  obtain ⟨t, ht⟩ := Option.isSome_iff_exists.mp ht
  unfold fireTimerExpires
  rw [ht, hf]
  dsimp only
  rw [hpat, Option.bind_some] <;> rfl

theorem fireTimerExpires_of_none (ht : s.call.fireTimer = none) :
    fireTimerExpires s = s.onCall fun u => { u with fireTimer := none } := by
  unfold fireTimerExpires
  rw [ht]

end

/-- Settles O51: the next ring time of a call, and the fire repeat timer. -/
theorem ringTimesReached : Obligations.RingTimesReached := by
  unfold Obligations.RingTimesReached
  refine ⟨fun push c s hc => ⟨fun hnone => ?_, fun t p ht hp => ?_⟩, fun push s hno => ?_, fun s f pat hf hpat => ?_⟩
  · refine endsAs_finish_of_eq (ringTimeReached_of_none fun x hx => ?_)
    rw [hc] at hx
    cases hx
    exact hnone
  · have hreached := ringTimeReached_of hc ht hp
    intro v
    exact ⟨fun howed => endsAs_finish_of_eq (hreached.trans (if_neg (Bool.eq_false_iff.mp howed))),
      fun howed => endsAs_finish_of_eq (hreached.trans (if_pos howed))⟩
  · refine endsAs_finish_of_eq (ringTimeReached_of_none fun x hx => ?_)
    rw [find?_push_none hno] at hx
    cases hx
  · intro stopped ends
    have hends : ∀ w, fireTimerExpires s = w → ends w := fun w hw => endsAs_finish_of_eq hw
    refine ⟨fun hnone => hends _ ?_, fun hrep => hends _ ?_, fun interval limit ht hrep => ?_⟩
    · rw [fireTimerExpires_of_none hnone]
      show { s with call := { s.call with fireTimer := none } } = s
      rw [← hnone]
    · cases ht : s.call.fireTimer with
      | none => exact fireTimerExpires_of_none ht
      | some t => rw [fireTimerExpires_of (by rw [ht]; rfl) hf hpat, hrep]
    · have hexp := fireTimerExpires_of ht hf hpat
      rw [hrep] at hexp
      intro again
      have hagain : (s.anyFull && !s.fire.silence && (decide (limit = 0) || decide (s.call.fireRound < limit))) = true ↔ again := by
        simp only [again, Bool.and_eq_true, Bool.not_eq_true', Bool.or_eq_true, decide_eq_true_iff, and_assoc]
      exact ⟨fun hno => hends _ (hexp.trans (if_neg (mt hagain.mp hno))),
        fun hyes => hends _ (hexp.trans (if_pos (hagain.mpr hyes)))⟩

end Sys2Proof.Machine
end
section
/-! SUPPORT. The ends of phrases and chimes, and the paternoster's timers. -/

namespace Sys2Proof.Machine

/-! ## The end of a phrase (R147, R148, R153) -/

section
variable {f : Nat} {a : Amp} {v : State}

theorem tap_phraseDone (harmed : s.armed = true) (src : Nat) (n : Byte) :
    tap src (.phraseDone n) s = withEntry (ampAt s src) (fun i => phraseDone i n.toNat) s := if_pos harmed

theorem phraseDone_of (ha : tget v.ann.amps f = some a) (hplaying : a.state = .playing) (hn : a.number = some n) :
    phraseDone f n v = phraseEnds f v := by
  unfold phraseDone
  rw [ha]
  exact if_pos ⟨hplaying, hn⟩

theorem phraseDone_stale (ha : tget v.ann.amps f = some a) (h : a.state ≠ .playing ∨ a.number ≠ some n) :
    phraseDone f n v = v := by
  unfold phraseDone
  rw [ha]
  exact if_neg fun hc => h.elim (absurd hc.1) (absurd hc.2)

theorem phraseTimerExpires_of (ha : tget v.ann.amps f = some a) (hplaying : a.state = .playing)
    (ht : a.phraseTimer.isSome = true) : phraseTimerExpires f v = phraseEnds f v := by
  unfold phraseTimerExpires
  rw [ha]
  exact if_pos ⟨hplaying, ht⟩

theorem phraseTimerExpires_of_none (ha : tget v.ann.amps f = some a) (h : a.state ≠ .playing ∨ a.phraseTimer = none) :
    phraseTimerExpires f v = v := by
  unfold phraseTimerExpires
  rw [ha]
  refine if_neg fun hc => h.elim (absurd hc.1) fun hnone => ?_
  rw [hnone] at hc
  cases hc.2

/-- The override issues phrases and the amplifier's station can be reached (R153). -/
def State.issuesTo (v : State) (a : Amp) : Prop := v.issuing = true ∧ v.missing a.station = false

theorem not_issuesTo_iff : ¬v.issuesTo a ↔ v.issuing = false ∨ v.missing a.station = true := by
  simp only [State.issuesTo, not_and_or, Bool.not_eq_true, Bool.not_eq_false]

theorem issuesTo_iff : (v.issuing && !v.missing a.station) = true ↔ v.issuesTo a := by
  simp only [State.issuesTo, Bool.and_eq_true, Bool.not_eq_true']

theorem phraseEnds_of_silent (ha : tget v.ann.amps f = some a) (h : ¬v.issuesTo a) :
    phraseEnds f v = stepCheck (onAmp v f Amp.idle) := by
  unfold phraseEnds
  rw [ha]
  exact congrArg stepCheck (if_neg (mt issuesTo_iff.mp h))

theorem phraseEnds_of_issuing (ha : tget v.ann.amps f = some a) (h : v.issuesTo a) : phraseEnds f v = stepCheck
    (if a.owed then giveFirePhrase f (onAmp v f Amp.idle)
    else if a.origin = some .fire then
      onAmp (onAmp v f Amp.idle) f fun b => { b with gapTimer := v.fire.settings.map fun x => secs x.gap }
    else onAmp v f Amp.idle) := by
  unfold phraseEnds
  rw [ha]
  exact congrArg stepCheck (if_pos (issuesTo_iff.mpr h))

/-! ## The gap timer and the fire phrase (R152, R153) -/

theorem gapTimerExpires_of (ha : tget v.ann.amps f = some a) (ht : a.gapTimer.isSome = true) : gapTimerExpires f v =
    if v.issuing && !v.missing a.station then giveFirePhrase f (onAmp v f fun b => { b with gapTimer := none })
    else onAmp v f fun b => { b with gapTimer := none } := by
  unfold gapTimerExpires
  rw [ha]
  exact if_pos ht

theorem gapTimerExpires_of_none (ha : tget v.ann.amps f = some a) (ht : a.gapTimer = none) : gapTimerExpires f v = v := by
  unfold gapTimerExpires
  rw [ha]
  refine if_neg ?_
  rw [ht]
  exact Bool.false_ne_true

theorem giveFirePhrase_of {fs : FireSettings} (hfs : v.fire.settings = some fs) :
    giveFirePhrase f v = placePhrase f .fire (firePhrase v fs f) v := by
  unfold giveFirePhrase
  rw [hfs]

theorem placePhrase_of (ha : tget v.ann.amps f = some a) (o : AmpOrigin) (n : Nat) : placePhrase f o n v =
    leaveGate f a ((onAmp v f fun b =>
      { b with state := .playing, origin := some o, phrase := some n, number := some v.ann.counter,
               phraseTimer := some (secs 60), gen := none, gapTimer := none, owed := false,
               slot := some (.phrase n v.ann.counter) }).onAnn fun k => { k with counter := nextCounter k.counter }) := by
  unfold placePhrase
  rw [ha]
  rfl

/-- Floor `f` lies in the evacuation mask of a zone in FULL_ALARM (7.5). -/
def State.evacuates (v : State) (f : Nat) : Prop :=
  ∃ z ∈ v.fire.zones, z.2.state = .fullAlarm ∧ z.2.evacFloors.getLsbD f = true

theorem evacuates_iff : (tany v.fire.zones fun z => z.state == .fullAlarm && z.evacFloors.getLsbD f) = true ↔
    v.evacuates f := by
  simp only [tany, List.any_eq_true, Bool.and_eq_true, beq_iff_eq, State.evacuates]

theorem firePhrase_of (h : v.evacuates f) (fs : FireSettings) : firePhrase v fs f = fs.evacPhrase :=
  if_pos (evacuates_iff.mpr h)

theorem firePhrase_of_not (h : ¬v.evacuates f) (fs : FireSettings) : firePhrase v fs f = fs.alertPhrase :=
  if_neg (mt evacuates_iff.mp h)

end

/-- Settles O53: the end of a phrase by its report and its timer, the gap timer, and the fire phrase. -/
theorem phrasesEnd : Obligations.PhrasesEnd := by
  unfold Obligations.PhrasesEnd
  intro idle ended
  have hended : ∀ (v : State) (f : Nat) (a : Amp) (o : State → Prop), tget v.ann.amps f = some a →
      (∀ w, phraseEnds f v = w → o w) → ended v f a o := by
    intro v f a o ha ho
    refine ⟨fun hsilent => ho _ (phraseEnds_of_silent ha (not_issuesTo_iff.mpr hsilent)), fun fs hissuing hpresent hfs => ?_⟩
    have hends := phraseEnds_of_issuing ha ⟨hissuing, hpresent⟩
    rw [hfs] at hends
    refine ⟨fun howed => ho _ (hends.trans (congrArg stepCheck (if_pos howed))), fun howed horigin => ho _ ?_,
      fun howed horigin => ho _ ?_⟩
    · exact hends.trans (congrArg stepCheck ((if_neg (Bool.eq_false_iff.mp howed)).trans (if_pos horigin)))
    · exact hends.trans (congrArg stepCheck ((if_neg (Bool.eq_false_iff.mp howed)).trans (if_neg horigin)))
  refine ⟨fun h st number s hans harmed => ?_, fun f a s ha => ?_, fun f a fs v hfs ha => ?_⟩
  · intro u ends
    have hends : ∀ w, withEntry (ampAt u h.src.toNat) (fun i => phraseDone i number.toNat) u = w → ends w :=
      fun w hw => endsAs_tapped hans (r := .phraseDone number) rfl
        ((tap_phraseDone ((answeredBy_armed h s).trans harmed) _ _).trans hw)
    refine ⟨fun hnone => hends u (by rw [hnone]; rfl), fun f a hf ha => ?_⟩
    have hdone : ∀ w, phraseDone f number.toNat u = w → ends w := fun w hw => hends w (by rw [hf]; exact hw)
    exact ⟨fun hstale => hdone _ (phraseDone_stale ha hstale), fun hplaying hn =>
      hended u f a ends ha fun w hw => hdone w ((phraseDone_of ha hplaying hn).trans hw)⟩
  · refine ⟨fun h => endsAs_finish_of_eq (phraseTimerExpires_of_none ha h), fun hplaying ht =>
      hended s f a _ ha fun w hw => endsAs_finish_of_eq ((phraseTimerExpires_of ha hplaying ht).trans hw),
      fun ht => endsAs_finish_of_eq (gapTimerExpires_of_none ha ht), fun ht => ?_⟩
    intro stopped
    have hexp := gapTimerExpires_of ha ht
    exact ⟨fun hissuing hpresent => endsAs_finish_of_eq (hexp.trans (if_pos (issuesTo_iff.mpr ⟨hissuing, hpresent⟩))),
      fun h => endsAs_finish_of_eq (hexp.trans (if_neg (mt issuesTo_iff.mp (not_issuesTo_iff.mpr h))))⟩
  · intro evacuated given
    have hgiven : ∀ n, firePhrase v fs f = n → giveFirePhrase f v = given n := fun n hn => by
      rw [giveFirePhrase_of hfs, hn, placePhrase_of ha]
      rfl
    exact ⟨fun h => hgiven _ (firePhrase_of h fs), fun h => hgiven _ (firePhrase_of_not h fs)⟩

/-! ## The notes, gaps and rounds of a chime (R150, R151) -/

section
variable {g : Nat} {p : Playing} {x : Sounding} {c : Chime} {n : Note} {s : State}

theorem noteEnds_of_idle (hgen : s.ann.gen g = none) : noteEnds g s = s := by
  unfold noteEnds
  rw [hgen]

theorem chimeIsOver_of_idle (hgen : s.ann.gen g = none) : chimeIsOver g s = s := by
  unfold chimeIsOver
  rw [hgen]

theorem noteEnds_of (hgen : s.ann.gen g = some p) (hx : p.sounding = some x) (hc : tget s.ann.chimes p.chime = some c) :
    noteEnds g s = if c.atEnd x then endChime g s
      else s.onAnn fun u => u.setGen g (some { p with sounding := some (c.advance x) }) := by
  unfold noteEnds
  rw [hgen]
  dsimp only
  rw [hx, hc]

theorem chimeIsOver_of (hgen : s.ann.gen g = some p) (hx : p.sounding = some x) (hc : tget s.ann.chimes p.chime = some c) :
    chimeIsOver g s = if c.atEnd x then endChime g s else s := by
  unfold chimeIsOver
  rw [hgen]
  dsimp only
  rw [hx, hc]

theorem atEnd_iff (hn : c.notes[x.note]? = some n) : c.atEnd x = true ↔
    c.repeats ≤ x.round ∧ c.notes.length ≤ x.note + 1 ∧ (x.inGap = true ∨ n.gap = 0) := by
  unfold Chime.atEnd
  rw [hn]
  simp only [ge_iff_le, Bool.and_eq_true, decide_eq_true_iff, Bool.or_eq_true, beq_iff_eq, and_assoc]

theorem advance_gap (hn : c.notes[x.note]? = some n) (hgap : x.inGap = false) (hlong : n.gap ≠ 0) :
    c.advance x = { x with inGap := true, left := tenMs n.gap } := by
  unfold Chime.advance
  rw [hn]
  exact if_pos (by rw [hgap]; simpa using hlong)

theorem advance_next (hn : c.notes[x.note]? = some n) (h : x.inGap = true ∨ n.gap = 0) {m : Note}
    (hm : c.notes[x.note + 1]? = some m) :
    c.advance x = { x with note := x.note + 1, inGap := false, left := tenMs m.duration } := by
  obtain ⟨hlt, -⟩ := List.getElem?_eq_some_iff.mp hm
  unfold Chime.advance
  rw [hn]
  dsimp only
  rw [hm]
  refine (if_neg ?_).trans (if_pos hlt)
  rcases h with h | h <;> simp [h]

theorem advance_round (hn : c.notes[x.note]? = some n) (h : x.inGap = true ∨ n.gap = 0) (hlast : c.notes.length ≤ x.note + 1)
    {m : Note} (hm : c.notes[0]? = some m) :
    c.advance x = { round := x.round + 1, note := 0, inGap := false, left := tenMs m.duration } := by
  unfold Chime.advance
  rw [hn]
  dsimp only
  rw [hm]
  refine (if_neg ?_).trans (if_neg (Nat.not_lt.mpr hlast))
  rcases h with h | h <;> simp [h]

end

/-- Settles O54: a note's end by the part of the chime it ends, and the chime's end. -/
theorem chimesProgress : Obligations.ChimesProgress := by
  unfold Obligations.ChimesProgress
  refine fun g s => ⟨fun hgen => ⟨endsAs_finish_of_eq (noteEnds_of_idle hgen), endsAs_finish_of_eq (chimeIsOver_of_idle hgen)⟩,
    fun p x c n hgen hx hc hn => ?_⟩
  have hnote := noteEnds_of hgen hx hc
  have hover := chimeIsOver_of hgen hx hc
  intro isOver finished goes
  have hend : c.atEnd x = true ↔ isOver := atEnd_iff hn
  have hfinished : endChime g s = finished := by
    simp only [endChime, finished, Bool.and_eq_true, beq_iff_eq, and_assoc]
    rfl
  refine ⟨fun h => ⟨endsAs_finish_of_eq (hnote.trans ((if_pos (hend.mpr h)).trans hfinished)),
    endsAs_finish_of_eq (hover.trans ((if_pos (hend.mpr h)).trans hfinished))⟩, fun h => ?_⟩
  have hgoes : ∀ y, c.advance x = y → goes y := fun y hy =>
    endsAs_finish_of_eq (hnote.trans ((if_neg (mt hend.mp h)).trans (by rw [hy])))
  exact ⟨endsAs_finish_of_eq (hover.trans (if_neg (mt hend.mp h))), fun hgap hlong => hgoes _ (advance_gap hn hgap hlong),
    fun hgap => ⟨fun m hm => hgoes _ (advance_next hn hgap hm), fun m hlast hm => hgoes _ (advance_round hn hgap hlast hm)⟩⟩

/-! ## The stop timer and the resume timer (R16, R22) -/

theorem place_cut (p : Paternoster) : p.place .cut = { p with slot := some .cut } := if_neg fun h => h.2 rfl

theorem runCouldPass_iff (s : State) : s.runCouldPass = true ↔
    s.anyFull = false ∧ (∀ e ∈ s.shut, e.2.kind = .shaft → e.2.state = .open) ∧
      ∃ a e, s.driveStation = some a ∧ tget s.reg.stations a = some e ∧ e.presence = .present := by
  simp only [State.runCouldPass, Bool.and_eq_true, Bool.not_eq_true', shaftsOpen_iff, drivePresent_iff, and_assoc]

theorem guardsClear_iff (p : Paternoster) : p.guardsClear = true ↔ ∀ l ∈ p.landings, l.2.tripped = false := by
  simp only [Paternoster.guardsClear, tany, Bool.not_eq_true', List.any_eq_false, Bool.not_eq_true]

/-- Settles O55: the stop timer's expiry, the resume timer's start and expiry. -/
theorem chainTimers : Obligations.ChainTimers := by
  unfold Obligations.ChainTimers
  refine ⟨fun s => ?_, fun s => ?_, fun p g hg => ?_⟩
  · intro stops
    refine ⟨fun ht hstops => endsAs_finish_of_eq ((if_pos ⟨ht, hstops⟩).trans ?_), fun h => endsAs_finish_of_eq (if_neg fun hc => ?_)⟩
    · show s.onPat _ = s.onPat _
      simp only [place_cut]
    · refine h.elim (fun hnone => ?_) (absurd hc.2)
      have ht := hc.1
      rw [hnone] at ht
      cases ht
  · intro couldPass idle
    refine ⟨fun ht hheld => ?_, fun h => endsAs_finish_of_eq (if_neg fun hc => ?_)⟩
    · have hexp : resumeTimerExpires s = _ := if_pos ⟨ht, hheld⟩
      exact ⟨fun hpass => endsAs_finish_of_eq (hexp.trans ((if_pos ((runCouldPass_iff s).mpr hpass)).trans rfl)),
        fun hpass => endsAs_finish_of_eq (hexp.trans ((if_neg (mt (runCouldPass_iff s).mp hpass)).trans rfl))⟩
    · refine h.elim (fun hnone => ?_) (absurd hc.2)
      have ht := hc.1
      rw [hnone] at ht
      cases ht
  · intro ready
    have hready : (p.state = .held ∧ p.resumeTimer = none ∧ p.chain.motion = .stopped ∧ p.guardsClear = true) ↔ ready := by
      rw [guardsClear_iff]
    unfold Paternoster.tryResumeTimer
    rw [hg]
    exact ⟨fun h => if_pos (hready.mpr h), fun h => if_neg (mt hready.mp h)⟩

end Sys2Proof.Machine
end
section
/-! SUPPORT. The timers of a shutter. -/

namespace Sys2Proof.Machine

/-! ## The warn timer (R78, R79, R81) -/

section
variable {s : State} {i : Nat} {e : Shutter}

theorem awaitEntered_of_ne (he : tget s.shut i = some e) (h : e.state ≠ .awaitClear) : awaitEntered i s = s := by
  unfold awaitEntered
  rw [he]
  exact if_neg h

theorem warnExpiry_department {p : Paternoster} (hkind : e.kind = .department) : e.warnExpiry p = e.drop := by
  simp only [Shutter.warnExpiry, hkind]

theorem warnExpiry_clear {p : Paternoster} (h : e.kind = .department ∨ p.judgeShutter e = .clear) :
    e.warnExpiry p = e.drop := by
  cases hkind : e.kind with
  | department => exact warnExpiry_department hkind
  | shaft => exact warnExpiry_of_clear hkind (h.resolve_left fun hd => nomatch hkind.symm.trans hd)

/-- The shutter at its warn timer's expiry, the timer stopped first. -/
def Shutter.warned (p : Paternoster) (e : Shutter) : Shutter := { e with timer := none }.warnExpiry p

theorem warnTimerExpires_of (he : tget s.shut i = some e) (hstate : e.state = .warning) (ht : e.timer.isSome = true) :
    warnTimerExpires i s = awaitEntered i (onShutter s i (Shutter.warned s.pat)) := by
  unfold warnTimerExpires
  rw [he]
  exact if_pos ⟨hstate, ht⟩

theorem warnTimerExpires_of_none (he : tget s.shut i = some e) (h : ¬e.timer.isSome = true ∨ e.state ≠ .warning) :
    warnTimerExpires i s = s := by
  unfold warnTimerExpires
  rw [he]
  exact if_neg fun hc => h.elim (absurd hc.2) (absurd hc.1)

/-- A warn timer's expiry that leaves the shutter elsewhere than in AWAIT_CLEAR changes its record alone. -/
theorem warnTimerExpires_onShutter (hkeys : (s.shut.map Prod.fst).Nodup) (he : tget s.shut i = some e)
    (hstate : e.state = .warning) (ht : e.timer.isSome = true) {f : Shutter → Shutter} (hf : e.warned s.pat = f e)
    (hleft : (f e).state ≠ .awaitClear) : warnTimerExpires i s = onShutter s i f := by
  rw [warnTimerExpires_of he hstate ht, onShutter_congr hkeys he hf]
  exact awaitEntered_of_ne (tget_onShutter he f) hleft

/-- One judged NOT_STOPPED waits at its landing, which is handed to the Monitor when the reason is FIRE (R81). -/
theorem warnTimerExpires_notStopped (hkeys : (s.shut.map Prod.fst).Nodup) (he : tget s.shut i = some e)
    (hstate : e.state = .warning) (ht : e.timer.isSome = true) (hkind : e.kind = .shaft) {f : Nat}
    (hlanding : e.landing = some f) (hjudge : s.pat.judge f = .notStopped) : warnTimerExpires i s =
      if e.reason = .fire then addLanding f (onShutter s i Shutter.await) else onShutter s i Shutter.await := by
  have hjudged : s.pat.judgeShutter { e with timer := none } = .notStopped := (judge_of_landing hlanding).trans hjudge
  have hwait : e.warned s.pat = e.await := warnExpiry_of_notStopped hkind hjudged
  have hentered := awaitEntered_of (tget_onShutter he Shutter.await) rfl (f := f) hlanding
  have hhanded : (onShutter s i Shutter.await).onShut (handLanding s.pat f) = onShutter s i Shutter.await :=
    congrArg (fun t => { s with shut := t }) (handLanding_of_notStopped hjudge _)
  rw [warnTimerExpires_of he hstate ht, onShutter_congr hkeys he hwait, hentered]
  exact congrArg (ite _ _) hhanded

/-! ## The travel timer and the retry timer (R74, R83) -/

theorem travelTimerExpires_of (hkeys : (s.shut.map Prod.fst).Nodup) (he : tget s.shut i = some e)
    (hstate : e.state = .descending ∨ e.state = .raising) (ht : e.timer.isSome = true) :
    travelTimerExpires i s = onShutter s i fun e => e.toFaulted .travelTimeout :=
  onShutter_congr hkeys he (if_pos ⟨hstate, ht⟩)

theorem travelTimerExpires_of_none (hkeys : (s.shut.map Prod.fst).Nodup) (he : tget s.shut i = some e)
    (h : ¬e.timer.isSome = true ∨ (e.state ≠ .descending ∧ e.state ≠ .raising)) : travelTimerExpires i s = s :=
  onShutter_id hkeys he (if_neg fun hc => h.elim (absurd hc.2) fun hno => hc.1.elim hno.1 hno.2)

theorem retryTimerExpires_of (hkeys : (s.shut.map Prod.fst).Nodup) (he : tget s.shut i = some e)
    (hstate : e.state = .obstructed) (ht : e.timer.isSome = true) {f : Shutter → Shutter} (hf : e.retry = f e) :
    retryTimerExpires i s = onShutter s i f :=
  onShutter_congr hkeys he ((if_pos ⟨hstate, ht⟩).trans hf)

theorem retryTimerExpires_of_none (hkeys : (s.shut.map Prod.fst).Nodup) (he : tget s.shut i = some e)
    (h : ¬e.timer.isSome = true ∨ e.state ≠ .obstructed) : retryTimerExpires i s = s :=
  onShutter_id hkeys he (if_neg fun hc => h.elim (absurd hc.2) (absurd hc.1))

end

/-- Settles O56: the three timers of a shutter by its state, kind and landing judgment. -/
theorem shutterTimers : Obligations.ShutterTimers := by
  unfold Obligations.ShutterTimers
  intro i e s he hkeys descending faulted bare running
  refine ⟨fun ht hstate => ?_, fun ht hstate => endsAs_finish_of_eq (travelTimerExpires_of hkeys he hstate ht),
    fun ht hstate => ⟨fun hfew => ?_, fun hmany => ?_⟩, fun h => endsAs_finish_of_eq (warnTimerExpires_of_none he h),
    fun h => endsAs_finish_of_eq (travelTimerExpires_of_none hkeys he h),
    fun h => endsAs_finish_of_eq (retryTimerExpires_of_none hkeys he h)⟩
  · intro ends
    refine ⟨fun hclear => ?_, fun hkind hblocked => ?_, fun f hkind hlanding hjudge => ?_⟩
    · exact endsAs_finish_of_eq (warnTimerExpires_onShutter hkeys he hstate ht
        (warnExpiry_clear (e := { e with timer := none }) hclear) nofun)
    · exact endsAs_finish_of_eq (warnTimerExpires_onShutter hkeys he hstate ht
        (warnExpiry_of_blocked (e := { e with timer := none }) hkind hblocked) nofun)
    · have hexp := warnTimerExpires_notStopped hkeys he hstate ht hkind hlanding hjudge
      exact ⟨fun hfire => endsAs_finish_of_eq (hexp.trans (if_pos hfire)),
        fun hother => endsAs_finish_of_eq (hexp.trans (if_neg hother))⟩
  · exact endsAs_finish_of_eq (retryTimerExpires_of hkeys he hstate ht (if_pos hfew))
  · exact endsAs_finish_of_eq (retryTimerExpires_of hkeys he hstate ht (if_neg (Nat.not_lt.mpr hmany)))

end Sys2Proof.Machine
end
section
/-! SUPPORT. The NIGHT step of the closing programme, shutter by shutter. -/

namespace Sys2Proof.Machine

/-! ## A landing judgment handed over twice -/

section
variable {p : Paternoster} {e : Shutter} {f : Nat}

theorem warn_state (h : p.judgeShutter e = .clear) (hkind : e.kind = .shaft) :
    (e.warn p).state = .warning ∨ (e.warn p).state = .descending := by
  by_cases hz : e.warnTime = 0
  · rw [warn_of_zero hz, warnExpiry_of_clear (e := e.warning) hkind h]
    exact .inr rfl
  · rw [warn_of_pos hz]
    exact .inl rfl

/-- The judgment of the landing handed over again changes nothing more (R80). -/
theorem hand_hand (hlanding : e.landing = some f) : (e.hand p (p.judge f)).hand p (p.judge f) = e.hand p (p.judge f) := by
  by_cases hw : e.waits = true
  · rw [hand_of_waits hw]
    cases hj : p.judge f with
    | clear =>
      refine hand_of_not_waits (Bool.eq_false_iff.mpr fun hwaits => ?_) _
      obtain ⟨-, hstate⟩ := (waits_iff _).mp hwaits
      rcases warn_state ((judge_of_landing hlanding).trans hj) ((waits_iff e).mp hw).1 with h | h <;>
        simp [h] at hstate
    | blocked =>
      dsimp only
      by_cases ha : e.state = .awaitClear
      · rw [if_pos ha]
        unfold Shutter.hand
        split <;> rfl
      · rw [if_neg ha, hand_of_waits hw]
        exact if_neg ha
    | notStopped => exact hand_of_waits hw _
  · rw [hand_of_not_waits (Bool.eq_false_iff.mpr hw), hand_of_not_waits (Bool.eq_false_iff.mpr hw)]

theorem hand_of_handed (hlanding : e.landing = some f) (b : Bool) :
    (if b then e.hand p (p.judge f) else e).hand p (p.judge f) = e.hand p (p.judge f) := by
  split
  · exact hand_hand hlanding
  · rfl

end

/-! ## What the NIGHT step makes of one shutter (R86) -/

/-- The NIGHT step takes the shutter: OPEN, with the night flag, on a floor of the mask. -/
def Shutter.takenAtNight (floors : FloorSet) (e : Shutter) : Bool :=
  e.night && floors.getLsbD e.floor && e.state == .open

/-- The shutter in AWAIT_CLEAR for the night (R81, R86). -/
def Shutter.awaitNight (e : Shutter) : Shutter := { e.await with reason := .night }

/-- The shutter's own part in the step, before a landing judgment acts on it. -/
def Shutter.atNight (p : Paternoster) (e : Shutter) : Shutter :=
  match e.kind with
  | .department => { e with reason := .night }.warn p
  | .shaft => e.awaitNight

/-- One of the shutters listed is a SHAFT shutter of the landing, so that its judgment is asked for. -/
def State.asksAt (s : State) (l : List Nat) (landing : Option Nat) : Bool :=
  landing.isSome && l.any fun j => (tget s.shut j).any fun y => y.kind == .shaft && y.landing == landing

/-- The record that the shutters listed, taken one after the other, make of shutter `i`. -/
def State.nightRecord (s : State) (l : List Nat) (i : Nat) (e : Shutter) : Shutter :=
  let x := if i ∈ l then e.atNight s.pat else e
  if s.asksAt l e.landing then x.hand s.pat (s.pat.judgeShutter e) else x

/-- One shutter's turn in the NIGHT step. -/
def nightOne (s : State) (i : Nat) : State :=
  match tget s.shut i with
  | none => s
  | some e =>
    match e.kind with
    | .department => onShutter s i fun e => { e with reason := Reason.night }.warn s.pat
    | .shaft => enterAwait i .night s

theorem nightStep_eq (floors : FloorSet) (s : State) :
    nightStep floors s = (tkeys s.shut (Shutter.takenAtNight floors)).foldl nightOne s := rfl

section
variable {s t : State} {l : List Nat} {i j : Nat} {e x : Shutter}

theorem atNight_department (p : Paternoster) (h : e.kind = .department) : e.atNight p = { e with reason := .night }.warn p := by
  simp only [Shutter.atNight, h]

theorem atNight_shaft (p : Paternoster) (h : e.kind = .shaft) : e.atNight p = e.awaitNight := by
  simp only [Shutter.atNight, h]

theorem landing_of_loaded (h : x.loaded = e.loaded) : x.landing = e.landing := congrArg (fun r => r.2.2.2.2.1) h

theorem kind_of_loaded (h : x.loaded = e.loaded) : x.kind = e.kind := congrArg (fun r => r.2.2.2.1) h

theorem atNight_loaded (p : Paternoster) (e : Shutter) : (e.atNight p).loaded = e.loaded := by
  cases h : e.kind with
  | department =>
    rw [atNight_department p h]
    exact Shutter.warn_loaded { e with reason := .night } p
  | shaft => rw [atNight_shaft p h]; rfl

theorem not_waits_of_department (h : e.kind = .department) : e.waits = false :=
  Bool.eq_false_iff.mpr fun hw => nomatch h.symm.trans ((waits_iff e).mp hw).1

theorem nightRecord_loaded (l : List Nat) (i : Nat) (x : Shutter) : (s.nightRecord l i x).loaded = x.loaded := by
  have hown : (if i ∈ l then x.atNight s.pat else x).loaded = x.loaded := by
    split <;> [exact atNight_loaded _ _; rfl]
  unfold State.nightRecord
  dsimp only
  split
  · rw [Shutter.hand_loaded, hown]
  · exact hown

theorem nightOne_department (he : tget s.shut i = some e) (h : e.kind = .department) :
    nightOne s i = onShutter s i fun e => { e with reason := Reason.night }.warn s.pat := by
  unfold nightOne
  rw [he]
  dsimp only
  rw [h]

theorem nightOne_shaft (he : tget s.shut i = some e) (h : e.kind = .shaft) : nightOne s i =
    match e.landing with
    | none => onShutter s i Shutter.awaitNight
    | some f => (onShutter s i Shutter.awaitNight).onShut (handLanding s.pat f) := by
  have hown := tget_onShutter he Shutter.awaitNight
  have hone : nightOne s i = enterAwait i .night s := by
    unfold nightOne
    rw [he]
    dsimp only
    rw [h]
  rw [hone, enterAwait]
  cases hlanding : e.landing with
  | none => exact awaitEntered_of_no_landing hown hlanding
  | some f => exact (awaitEntered_of hown rfl hlanding).trans (if_neg nofun)

theorem asksAt_append (l : List Nat) (j : Nat) (o : Option Nat) : s.asksAt (l ++ [j]) o = (s.asksAt l o || s.asksAt [j] o) := by
  simp only [State.asksAt, List.any_append, Bool.and_or_distrib_left]

theorem asksAt_single (he : tget s.shut j = some e) (o : Option Nat) :
    s.asksAt [j] o = (o.isSome && (e.kind == .shaft && e.landing == o)) := by
  simp only [State.asksAt, List.any_cons, List.any_nil, Bool.or_false, he, Option.any_some]

theorem asksAt_none (l : List Nat) : s.asksAt l none = false := rfl

theorem asksAt_iff (l : List Nat) (f : Nat) : s.asksAt l (some f) = true ↔
    ∃ j ∈ l, ∃ y, tget s.shut j = some y ∧ y.kind = .shaft ∧ y.landing = some f := by
  simp only [State.asksAt, Option.isSome_some, Bool.true_and, List.any_eq_true, Option.any_eq_true, Bool.and_eq_true,
    beq_iff_eq]

/-- A landing no shutter listed asks about: the next one's turn adds its own question. -/
theorem nightRecord_of_handed (hne : i ≠ j) {f : Nat} (hlanding : x.landing = some f) (hasks : s.asksAt [j] (some f) = true) :
    s.nightRecord (l ++ [j]) i x = (s.nightRecord l i x).hand s.pat (s.pat.judge f) := by
  have hmem : i ∈ l ++ [j] ↔ i ∈ l := by simp [hne]
  have hjudge := judge_of_landing (p := s.pat) hlanding
  have hown : (if i ∈ l then x.atNight s.pat else x).landing = some f := by
    split <;> [exact (landing_of_loaded (atNight_loaded s.pat x)).trans hlanding; exact hlanding]
  simp only [State.nightRecord, hmem, hlanding, asksAt_append, hasks, Bool.or_true, if_true, hjudge]
  exact (hand_of_handed hown _).symm

theorem nightRecord_of_unasked (hne : i ≠ j) (hasks : s.asksAt [j] x.landing = false) :
    s.nightRecord (l ++ [j]) i x = s.nightRecord l i x := by
  have hmem : i ∈ l ++ [j] ↔ i ∈ l := by simp [hne]
  simp only [State.nightRecord, hmem, asksAt_append, hasks, Bool.or_false]

theorem nightRecord_untaken (hi : i ∉ l) : s.nightRecord l i x =
    if s.asksAt l x.landing then x.hand s.pat (s.pat.judgeShutter x) else x := by
  simp only [State.nightRecord, hi, if_false]

theorem nightRecord_taken (hi : i ∈ l) : s.nightRecord l i x =
    if s.asksAt l x.landing then (x.atNight s.pat).hand s.pat (s.pat.judgeShutter x) else x.atNight s.pat := by
  simp only [State.nightRecord, hi, if_true]

/-- A shutter that neither waits nor has had its turn stands as it did. -/
theorem nightRecord_of_still (hi : i ∉ l) (hw : x.waits = false) : s.nightRecord l i x = x := by
  rw [nightRecord_untaken hi, hand_of_not_waits hw, ite_self]

end

/-! ## The step over its shutters, one after the other -/

section
variable {s : State}

/-- What the turns of the shutters listed have left: their records, and all else as it was. -/
structure State.NightTaken (s : State) (l : List Nat) (t : State) : Prop where
  rest : { t with shut := s.shut } = s
  records : ∀ i x, tget s.shut i = some x → tget t.shut i = some (s.nightRecord l i x)

theorem State.NightTaken.pat {l : List Nat} {t : State} (h : s.NightTaken l t) : t.pat = s.pat :=
  show { t with shut := s.shut }.pat = s.pat by rw [h.rest]

section
variable {l : List Nat} {t : State} {i j : Nat} {e x : Shutter} {f : Nat}

theorem nightRecord_own (l : List Nat) (j : Nat) (e : Shutter) : s.nightRecord (l ++ [j]) j e =
    if s.asksAt (l ++ [j]) e.landing then (e.atNight s.pat).hand s.pat (s.pat.judgeShutter e) else e.atNight s.pat :=
  nightRecord_taken (by simp)

/-- A turn that changes one record alone, and asks for no judgment. -/
theorem nightTaken_onShutter (h : s.NightTaken l t) (htget : tget t.shut j = some e) (he : tget s.shut j = some e)
    {g : Shutter → Shutter} (hg : g e = s.nightRecord (l ++ [j]) j e)
    (hunasked : ∀ x : Shutter, s.asksAt [j] x.landing = false) : s.NightTaken (l ++ [j]) (onShutter t j g) := by
  refine ⟨h.rest, fun i x hx => ?_⟩
  by_cases hij : i = j
  · subst hij
    cases he.symm.trans hx
    rw [tget_onShutter htget, hg]
  · rw [nightRecord_of_unasked hij (hunasked x), ← h.records i x hx]
    show tget (tmod t.shut j g) i = _
    rw [tget_tmod, if_neg (Ne.symm hij)]

theorem nightTaken_department (h : s.NightTaken l t) (htget : tget t.shut j = some e) (he : tget s.shut j = some e)
    (hkind : e.kind = .department) : s.NightTaken (l ++ [j]) (nightOne t j) := by
  have hstill : (e.atNight s.pat).waits = false :=
    not_waits_of_department ((kind_of_loaded (atNight_loaded s.pat e)).trans hkind)
  rw [nightOne_department htget hkind, h.pat]
  refine nightTaken_onShutter h htget he ?_ fun x => by simp [asksAt_single he, hkind]
  rw [nightRecord_own, hand_of_not_waits hstill, ite_self, atNight_department _ hkind]

theorem nightTaken_shaft (h : s.NightTaken l t) (htget : tget t.shut j = some e) (he : tget s.shut j = some e)
    (hkind : e.kind = .shaft) : s.NightTaken (l ++ [j]) (nightOne t j) := by
  have hown := nightRecord_own (s := s) l j e
  rw [atNight_shaft _ hkind] at hown
  rw [nightOne_shaft htget hkind, h.pat]
  cases hlanding : e.landing with
  | none =>
    rw [hlanding, asksAt_none] at hown
    refine nightTaken_onShutter h htget he hown.symm fun x => ?_
    rw [asksAt_single he, hlanding]
    cases x.landing <;> simp
  | some f =>
    have hasked : s.asksAt [j] (some f) = true := by simp [asksAt_single he, hkind, hlanding]
    refine ⟨h.rest, fun i x hx => ?_⟩
    by_cases hij : i = j
    · subst hij
      cases he.symm.trans hx
      rw [hown, hlanding, asksAt_append, hasked, Bool.or_true, judge_of_landing hlanding]
      exact (tget_handLanding (p := s.pat) (f := f) (tget_onShutter htget Shutter.awaitNight)).trans
        (congrArg some (if_pos hlanding))
    · have hbefore : tget (tmod t.shut j Shutter.awaitNight) i = some (s.nightRecord l i x) := by
        rw [tget_tmod, if_neg (Ne.symm hij), h.records i x hx]
      refine (tget_handLanding (p := s.pat) (f := f) hbefore).trans (congrArg some ?_)
      rw [landing_of_loaded (nightRecord_loaded l i x)]
      by_cases hf : x.landing = some f
      · rw [if_pos hf, nightRecord_of_handed hij hf hasked]
      · have hunasked : s.asksAt [j] x.landing = false := by
          simp [asksAt_single he, hlanding, Ne.symm hf]
        rw [if_neg hf, nightRecord_of_unasked hij hunasked]

theorem nightTaken_append (h : s.NightTaken l t) (he : tget s.shut j = some e) (hopen : e.state = .open) (hj : j ∉ l) :
    s.NightTaken (l ++ [j]) (nightOne t j) := by
  have hstill : e.waits = false := by simp [Shutter.waits, hopen]
  have htget : tget t.shut j = some e := by rw [h.records j e he, nightRecord_of_still hj hstill]
  cases hkind : e.kind with
  | department => exact nightTaken_department h htget he hkind
  | shaft => exact nightTaken_shaft h htget he hkind

theorem nightTaken_foldl (hl : l.Nodup) (hopen : ∀ j ∈ l, ∃ e, tget s.shut j = some e ∧ e.state = .open) :
    s.NightTaken l (l.foldl nightOne s) := by
  induction l using List.reverseRecOn with
  | nil => exact ⟨rfl, fun i x hx => by simpa [State.nightRecord, State.asksAt] using hx⟩
  | append_singleton l j ih =>
    obtain ⟨hl, hj⟩ : l.Nodup ∧ j ∉ l := by
      rw [List.nodup_append] at hl
      exact ⟨hl.1, fun hj => hl.2.2 j hj j (by simp) rfl⟩
    obtain ⟨e, he, hstate⟩ := hopen j (by simp)
    rw [List.foldl_append]
    exact nightTaken_append (ih hl fun k hk => hopen k (by simp [hk])) he hstate hj

end

/-! ## What the step takes and asks -/

variable {floors : FloorSet}

theorem takenAtNight_iff (e : Shutter) : e.takenAtNight floors = true ↔
    e.night = true ∧ floors.getLsbD e.floor = true ∧ e.state = .open := by
  simp only [Shutter.takenAtNight, Bool.and_eq_true, beq_iff_eq, and_assoc]

theorem mem_taken (hkeys : (s.shut.map Prod.fst).Nodup) {i : Nat} {x : Shutter} (hx : tget s.shut i = some x) :
    i ∈ tkeys s.shut (Shutter.takenAtNight floors) ↔ x.takenAtNight floors = true := by
  rw [mem_tkeys]
  constructor
  · rintro ⟨e, he, rfl, htaken⟩
    cases (tget_of_mem hkeys he).symm.trans hx
    exact htaken
  · exact fun htaken => ⟨(i, x), mem_of_tget hx, rfl, htaken⟩

theorem nightStep_taken (hkeys : (s.shut.map Prod.fst).Nodup) (floors : FloorSet) :
    s.NightTaken (tkeys s.shut (Shutter.takenAtNight floors)) (nightStep floors s) := by
  rw [nightStep_eq]
  refine nightTaken_foldl (hkeys.sublist (List.Sublist.map _ List.filter_sublist)) fun j hj => ?_
  obtain ⟨⟨j, e⟩, he, rfl, htaken⟩ := mem_tkeys.mp hj
  exact ⟨e, tget_of_mem hkeys he, ((takenAtNight_iff e).mp htaken).2.2⟩

theorem nightStep_keys (floors : FloorSet) (s : State) : (nightStep floors s).shut.map Prod.fst = s.shut.map Prod.fst :=
  keys_of_shutterLoaded (nightStep_kept (.refl s) floors).shut

end

end Sys2Proof.Machine
end
section
/-! SUPPORT. The panel timer, the clock's moments, the step check and the kinds of step. -/

namespace Sys2Proof.Machine

/-! ## The clock's moments (R136, R140) -/

section
variable {s : State}

/-- The clock at second 0 of the next weekday. -/
def State.atMidnight (s : State) : State :=
  s.onAnn fun a => { a with clock := { set := true, second := 0, weekday := (s.ann.clock.weekday + 1) % 7, sub := 0 } }

/-- The state as the midnight step leaves it before its look at the automatic start. -/
def State.nextDay (s : State) : State :=
  s.onAnn fun a => { a with
    clock := { set := true, second := 0, weekday := (s.ann.clock.weekday + 1) % 7, sub := 0 }
    closing := if a.closing = .finished ∨ a.closing = .aborted then .waiting else a.closing
    mark := if a.closing = .finished ∨ a.closing = .aborted then true else a.mark }

theorem nextDay_eq (s : State) : s.nextDay =
    if s.ann.closing = .finished ∨ s.ann.closing = .aborted then
      s.atMidnight.onAnn fun u => { u with closing := .waiting, mark := true }
    else s.atMidnight := by
  unfold State.nextDay State.atMidnight State.onAnn
  by_cases hclosing : s.ann.closing = .finished ∨ s.ann.closing = .aborted
  · simp only [hclosing, if_true]
  · simp only [hclosing, if_false]

theorem midnight_of_unset (h : s.ann.clock.set = false) : midnight s = s :=
  if_neg (Bool.eq_false_iff.mp h)

theorem midnight_of_set (h : s.ann.clock.set = true) : midnight s =
    if tget s.ann.days ((s.ann.clock.weekday + 1) % 7) = some 0 then automaticLook s.nextDay else s.nextDay := by
  have hclock : (s.onAnn fun u => { u with clock :=
      { s.ann.clock with second := 0, sub := 0, weekday := (s.ann.clock.weekday + 1) % 7 } }) = s.atMidnight := by
    unfold State.atMidnight
    rw [← h]
  have hday : s.nextDay.ann.today = tget s.ann.days ((s.ann.clock.weekday + 1) % 7) := rfl
  unfold midnight
  refine (if_pos h).trans ?_
  dsimp only
  rw [hclock, ← nextDay_eq, hday]

theorem closingMinute_of_unset (h : s.ann.clock.set = false) : closingMinute s = s := by
  unfold closingMinute
  split
  · exact if_neg fun hc => Bool.false_ne_true (h.symm.trans hc.1)
  · rfl

theorem closingMinute_of_none (h : tget s.ann.days s.ann.clock.weekday = none) : closingMinute s = s := by
  unfold closingMinute Announce.today
  rw [h]

theorem closingMinute_of {m : Nat} (h : tget s.ann.days s.ann.clock.weekday = some m) : closingMinute s =
    if s.ann.clock.set ∧ s.ann.clock.second < 60 * m then
      automaticLook (s.onAnn fun u => { u with clock := { u.clock with second := 60 * m, sub := 0 } })
    else s := by
  unfold closingMinute Announce.today
  rw [h]

theorem panelTimerExpires_of (h : s.reg.panelTimer.isSome = true) : panelTimerExpires s = s.onReg fun r =>
    { r with panelTimer := none, panelLost := true, lostTime := some s.now, awaySecs := none } := if_pos h

theorem panelTimerExpires_of_none (h : s.reg.panelTimer = none) : panelTimerExpires s = s :=
  if_neg (by rw [h]; exact Bool.false_ne_true)

end

/-! ## The step check (R143) -/

section
variable {s : State} {t0 i n : Nat} {st : Step}

theorem offsetReached_of (hclosing : s.ann.closing = .running) (hstart : s.ann.startTime = some t0)
    (hnext : s.ann.nextStep = some i) (hstep : tget s.ann.programme i = some st) :
    offsetReached s = stepCheck (advanceTo (t0 + st.offset) s) := by
  unfold offsetReached State.stepTime
  rw [hclosing, hstart, hnext]
  dsimp only
  rw [hstep]
  rfl

theorem offsetReached_of_not_running (h : s.ann.closing ≠ .running) : offsetReached s = s := by
  have hnone : s.stepTime = none := by
    unfold State.stepTime
    split
    next hrunning _ _ => exact absurd hrunning h
    next => rfl
  unfold offsetReached
  rw [hnone]

/-- The state in which a taken step acts (R143). -/
def State.unwaited (s : State) : State := s.onAnn fun u => { u with waitGen := false, waitFloors := 0, mark := true }

/-- The step check of a programme whose next step's offset has come (R143). -/
theorem stepChecks_of_due (hclosing : s.ann.closing = .running) (hstart : s.ann.startTime = some t0)
    (hnext : s.ann.nextStep = some i) (hstep : tget s.ann.programme i = some st) (hdue : st.offset ≤ s.now - t0) :
    stepChecks (n + 1) s =
      let w := stepWaits s st.kind
      if w.1 || w.2 != 0 then
        s.onAnn fun u =>
          { u with waitGen := w.1, waitFloors := w.2, mark := u.mark || u.waitGen != w.1 || u.waitFloors != w.2 }
      else if st.kind = .finish then finishClosing (stepEffect st.kind s.unwaited)
      else match stepAfter s.ann.programme i with
        | none => finishClosing (stepEffect st.kind s.unwaited)
        | some j => stepChecks n ((stepEffect st.kind s.unwaited).onAnn fun u => { u with nextStep := some j }) := by
  rw [stepChecks, hclosing, hstart, hnext]
  dsimp only
  rw [hstep]
  refine (if_neg (Nat.not_lt.mpr hdue)).trans (congrArg (ite _ _) ?_)
  by_cases hfinish : st.kind = .finish
  · rw [if_pos hfinish, hfinish]
    rfl
  · rw [if_neg hfinish]
    cases stepAfter s.ann.programme i with
    | none => cases st.kind <;> rfl
    | some j =>
      cases hkind : st.kind with
      | finish => exact absurd hkind hfinish
      | _ => rfl

theorem setClosingLevel_closingLevel (n : Nat) (s : State) : (setClosingLevel n s).call.closingLevel = n := by
  unfold setClosingLevel
  dsimp only
  split
  · exact (dispatch_served _).closingLevel
  · rfl

theorem finishClosing_ann (s : State) : (finishClosing s).ann =
    { s.ann with closing := .finished, startTime := none, nextStep := none, waitGen := false, waitFloors := 0, mark := true } :=
  (setClosingLevel_keeps 0 _).2.2.2.2.2.2.1

theorem stepAfter_eq (t : Table Step) (i : Nat) : stepAfter t i = (t.map Prod.fst).find? fun j => decide (i < j) :=
  List.head?_filter ..

end

/-! ## The kinds of step (R144) -/

section
variable {s : State}

theorem startChime_of_none {c : Nat} {mask : FloorSet} (h : stepAmps s mask = []) : startChime c mask s = s := by
  unfold startChime
  rw [h]
  rfl

/-- The IDLE generator of lower number, which a CHIME step takes (R150). -/
def State.idleGen (s : State) : Nat := if s.ann.gen0.isNone then 0 else 1

theorem idleGen_eq (s : State) : s.idleGen = if s.ann.gen0 = none then 0 else 1 := by
  unfold State.idleGen
  cases s.ann.gen0 <;> rfl

theorem setGen_idleGen (s : State) (q : Option Playing) (a : Announce) : a.setGen s.idleGen q =
    if s.idleGen = 0 then { a with gen0 := q } else { a with gen1 := q } := by
  unfold State.idleGen
  split <;> rfl

theorem startChime_of {c : Nat} {mask : FloorSet} (h : stepAmps s mask ≠ []) : startChime c mask s =
    trySounding s.idleGen ((stepAmps s mask).foldl (fun s' f => onAmp s' f (Amp.gateOn s.idleGen)) (s.onAnn fun u =>
      { u.setGen s.idleGen (some { chime := c, gated := ofMembers (stepAmps s mask), sounding := none }) with mark := true })) :=
  if_neg (mt List.isEmpty_iff.mp h)

theorem leaveGate_of_gated {f g : Nat} {a : Amp} {p : Playing} (ha : a.gen = some g) (hp : s.ann.gen g = some p) :
    leaveGate f a s = trySounding g (s.onAnn fun k => k.setGen g (some { p with gated := dropBit p.gated f })) := by
  unfold leaveGate
  rw [ha]
  refine congrArg (trySounding g) ?_
  unfold State.onAnn
  beta_reduce
  rw [hp]
  rfl

theorem leaveGate_of_none {f : Nat} {a : Amp} (ha : a.gen = none) : leaveGate f a s = s := by
  unfold leaveGate
  rw [ha]

end

/-- Settles O57, clause by clause: the panel timer, the clock, the step check, the kinds of step with the NIGHT step
shutter by shutter, and the abandoned closing. -/
theorem panelClockAndStepMoments : Obligations.PanelClockAndStepMoments := by
  unfold Obligations.PanelClockAndStepMoments
  intro look
  refine ⟨fun s => ⟨fun h => endsAs_finish_of_eq (panelTimerExpires_of_none h), fun h => endsAs_finish_of_eq (panelTimerExpires_of h)⟩,
    fun s => ⟨fun h => ⟨endsAs_finish_of_eq (midnight_of_unset h), endsAs_finish_of_eq (closingMinute_of_unset h)⟩, fun hset => ?_⟩,
    fun s t0 i st hclosing hstart hnext hstep => ⟨endsAs_finish_of_eq (offsetReached_of hclosing hstart hnext hstep),
      stepChecks_of_early 33 hclosing hstart hnext hstep, fun hdue hfinish => ?_⟩,
    fun s h => endsAs_finish_of_eq (offsetReached_of_not_running h), ?_, fun s => ?_, fun s mask hkeys => ?_, fun s => ?_⟩
  · intro day next
    have hmidnight := midnight_of_set hset
    refine ⟨fun h => endsAs_finish_of_eq (hmidnight.trans (if_neg h)), fun h => endsAs_finish_of_eq (hmidnight.trans (if_pos h)),
      fun h => endsAs_finish_of_eq (closingMinute_of_none h), fun m hm => ?_⟩
    have hminute := closingMinute_of hm
    exact ⟨fun h => endsAs_finish_of_eq (hminute.trans (if_neg fun hc => absurd hc.2 (Nat.not_lt.mpr h))),
      fun h => endsAs_finish_of_eq (hminute.trans (if_pos ⟨hset, h⟩))⟩
  · have hcheck : stepCheck s = finishClosing (stepEffect st.kind s.unwaited) := by
      rw [stepCheck, stepChecks_of_due hclosing hstart hnext hstep hdue, hfinish]
      rfl
    rw [hcheck, finishClosing_ann]
    exact ⟨rfl, rfl, rfl, setClosingLevel_closingLevel _ _⟩
  · intro s t0 i n st hclosing hstart hnext hstep hdue named busy waits floors kept taken later
    have hbusy : ∀ mask, busyFloors s (stepAmps s mask) = busy mask := fun mask => List.filter_map
    have hwaits : stepWaits s st.kind = (waits.1, floors) := by
      simp only [floors, waits]
      cases st.kind with
      | chime c mask => exact Prod.ext (by simp only [stepWaits, stepAmps, List.isEmpty_map]; rfl) (congrArg ofMembers (hbusy mask))
      | phrase p mask => exact Prod.ext rfl (congrArg ofMembers (hbusy mask))
      | _ => rfl
    have hkept : (waits.1 || floors != 0) = true ↔ kept := by simp only [kept, Bool.or_eq_true, bne_iff_ne]
    have hcheck := stepChecks_of_due (n := n) hclosing hstart hnext hstep hdue
    rw [hwaits, stepAfter_eq] at hcheck
    refine ⟨rfl, fun hk => hcheck.trans (if_pos (hkept.mpr hk)), fun hk => ?_⟩
    have htaken := hcheck.trans (if_neg (mt hkept.mp hk))
    refine ⟨fun h => htaken.trans ?_, fun j hfinish hlater => htaken.trans ?_⟩
    · by_cases hfinish : st.kind = .finish
      · exact if_pos hfinish
      · refine (if_neg hfinish).trans ?_
        rw [show (s.ann.programme.map Prod.fst).find? (fun j => decide (i < j)) = none from h.resolve_left hfinish]
        rfl
    · refine (if_neg hfinish).trans ?_
      rw [show (s.ann.programme.map Prod.fst).find? (fun j => decide (i < j)) = some j from hlater]
      rfl
  · intro floors level
    refine ⟨fun c mask => ?_, fun n mask => rfl, fun f a o n ha => placePhrase_of ha o n, fun f a => ⟨leaveGate_of_none, fun g p =>
      leaveGate_of_gated⟩, fun p mask => rfl, fun n => rfl, fun r => rfl, rfl, rfl, fun h => ?_⟩
    · by_cases h : floors mask = []
      · exact (startChime_of_none h).trans (if_pos h).symm
      · refine (startChime_of h).trans (Eq.trans ?_ (if_neg h).symm)
        simp only [setGen_idleGen, ← idleGen_eq]
        unfold State.onAnn
        beta_reduce
        split <;> rfl
    · unfold startClosing
      rw [h]
  · intro v warned
    have htaken := nightStep_taken hkeys mask
    refine ⟨htaken.rest, nightStep_keys mask s, fun i x hx => ?_⟩
    intro night acts asked
    have hrecord : tget v.shut i = some (s.nightRecord _ i x) := htaken.records i x hx
    have hacts : i ∈ tkeys s.shut (Shutter.takenAtNight mask) ↔ acts := (mem_taken hkeys hx).trans (takenAtNight_iff x)
    have hasked : ∀ f, s.asksAt (tkeys s.shut (Shutter.takenAtNight mask)) (some f) = true ↔ asked f := fun f =>
      (asksAt_iff ..).trans ⟨fun ⟨j, hj, y, hy, hkind, hland⟩ =>
          ⟨j, y, hy, hkind, hland, (takenAtNight_iff y).mp ((mem_taken hkeys hy).mp hj)⟩,
        fun ⟨j, y, hy, hkind, hland, htaken⟩ =>
          ⟨j, (mem_taken hkeys hy).mpr ((takenAtNight_iff y).mpr htaken), y, hy, hkind, hland⟩⟩
    have hwarn : ∀ y : Shutter, y.kind = .department ∨ s.pat.judgeShutter y = .clear → y.warn s.pat = warned y.warning := by
      intro y hy
      by_cases hz : y.warnTime = 0
      · rw [warn_of_zero hz, warnExpiry_clear (e := y.warning) hy]
        exact (if_pos hz).symm
      · rw [warn_of_pos hz]
        exact (if_neg hz).symm
    refine ⟨fun hno hunasked => ?_, fun f hno hland hask => ?_, fun hyes hkind => ?_, fun f hyes hkind hland => ?_⟩
    · have hasks : s.asksAt (tkeys s.shut (Shutter.takenAtNight mask)) x.landing = false := by
        cases hland : x.landing with
        | none => rfl
        | some f => exact Bool.eq_false_iff.mpr fun hc => hunasked f hland ((hasked f).mp hc)
      rw [hrecord, nightRecord_untaken (mt hacts.mp hno), if_neg (Bool.eq_false_iff.mp hasks)]
    · rw [hrecord, nightRecord_untaken (mt hacts.mp hno), tget_handLanding hx, hland, (hasked f).mpr hask,
        judge_of_landing hland, if_pos rfl, if_pos rfl]
    · have hstill : (x.atNight s.pat).waits = false :=
        not_waits_of_department ((kind_of_loaded (atNight_loaded s.pat x)).trans hkind)
      rw [hrecord, nightRecord_taken (hacts.mpr hyes), hand_of_not_waits hstill, ite_self, atNight_department _ hkind]
      exact congrArg some (hwarn { x with reason := .night } (.inl hkind))
    · have hask : s.asksAt (tkeys s.shut (Shutter.takenAtNight mask)) x.landing = true := by
        rw [hland]
        exact (hasked f).mpr ⟨i, x, hx, hkind, hland, hyes⟩
      have hwaits : x.awaitNight.waits = true := (waits_iff _).mpr ⟨hkind, .inl rfl⟩
      have hjudge : s.pat.judgeShutter x.awaitNight = s.pat.judge f := judge_of_landing hland
      rw [hrecord, nightRecord_taken (hacts.mpr hyes), hask, if_pos rfl, judge_of_landing hland, atNight_shaft _ hkind,
        hand_of_waits hwaits]
      refine ⟨fun hclear => ?_, fun hblocked => ?_, fun hnot => ?_⟩
      · rw [hclear]
        exact congrArg some (hwarn _ (.inr (hjudge.trans hclear)))
      · rw [hblocked]
        rfl
      · rw [hnot]
        rfl
  · intro queue w off due
    have hreg : (departures s.abandoned).reg = s.reg := (departures_keeps s.abandoned).2.1
    have hoff : (departures s.abandoned).silenced = off := by
      unfold State.silenced
      rw [missing_of_reg hreg]
      rfl
    rw [abandonClosing_eq, hoff]
    rfl

end Sys2Proof.Machine
end
section
/-! SUPPORT. The board's completed passes, the flash phase, and the modes of the lamp image. -/

namespace Sys2Proof.Machine

/-! ## The board less what the end of an event derives -/

/-- The board without its image, its pass in flight and its marks. -/
def Board.bare (b : Board) : Board := { b with image := [], pass := none, testDone := false, mark := false }

theorem onBoard_records_congr {s : State} {f g : Board → Board} (h : (f s.board).bare = (g s.board).bare) :
    (s.onBoard f).records = (s.onBoard g).records := congrArg (fun b => { s.records with board := b }) h

section
variable {b : Board} {o : OnTimes} {p : Pass}

theorem startScan_bare (b : Board) : b.startScan.bare = b.bare := by
  unfold Board.startScan
  split
  · rfl
  · dsimp only
    split <;> rfl

theorem planPass_scan_congr {c : Board} (himage : b.image = c.image) (hlit : b.lit = c.lit) :
    planPass b o .scan = planPass c o .scan := by
  have hcell : litCell b .scan = litCell c .scan := by
    funext k
    simp only [litCell, himage, hlit]
  have hplan : planWith b .scan = planWith c .scan := by
    funext drive
    simp only [planWith, hcell]
  unfold planPass
  rw [hplan]

/-! ## A pass completes (R130, R132, R133) -/

theorem scanDone_of_scan (hp : b.pass = some p) (hkind : p.kind = .scan) : b.scanDone =
    if (b.recordPass p).mode = .test then (b.recordPass p).startTest else (b.recordPass p).startScan := by
  unfold Board.scanDone
  rw [hp]
  exact if_pos hkind

theorem scanDone_of_test (h : ∀ p, b.pass = some p → p.kind = .test) : b.scanDone = b := by
  unfold Board.scanDone
  cases hp : b.pass with
  | none => rfl
  | some p => exact if_neg (by rw [h p hp]; nofun)

theorem testPassDone_of_test (hp : b.pass = some p) (hkind : p.kind = .test) : b.testPassDone = b.completeTest p := by
  unfold Board.testPassDone
  rw [hp]
  exact if_pos hkind

theorem testPassDone_of_scan (h : ∀ p, b.pass = some p → p.kind = .scan) : b.testPassDone = b := by
  unfold Board.testPassDone
  cases hp : b.pass with
  | none => rfl
  | some p => exact if_neg (by rw [h p hp]; nofun)

/-- The board after a completed test pass, before a scanning pass can follow. -/
def Board.tested (p : Pass) (b : Board) : Board :=
  { b.recordPass p with
    testDone := true
    mark := true
    returnMode := none
    mode := b.returnMode.getD .dark }

theorem completeTest_eq (b : Board) (p : Pass) : b.completeTest p =
    if b.returnMode.getD .dark = .scanning then (b.tested p).startScan else b.tested p := rfl

theorem startScan_marks (b : Board) : b.startScan.mark = b.mark ∧ b.startScan.testDone = b.testDone := by
  unfold Board.startScan
  split
  · exact ⟨rfl, rfl⟩
  · dsimp only
    split <;> exact ⟨rfl, rfl⟩

theorem completeTest_marks (b : Board) (p : Pass) : (b.completeTest p).mark = true ∧ (b.completeTest p).testDone = true := by
  rw [completeTest_eq]
  split
  · exact startScan_marks (b.tested p)
  · exact ⟨rfl, rfl⟩

theorem completeTest_bare (b : Board) (p : Pass) : (b.completeTest p).bare = (b.tested p).bare := by
  rw [completeTest_eq]
  split
  · exact startScan_bare _
  · rfl

theorem wake_marks (c : Bool) (b : Board) : (b.wake c).mark = b.mark ∧ (b.wake c).testDone = b.testDone := by
  unfold Board.wake
  split
  · exact startScan_marks b
  · exact ⟨rfl, rfl⟩

end

/-- While Port A is sending, no notice clears the board's mark or its test-done indication. -/
theorem settle_boardMarks {s : State} (hbusy : s.line.portA.isSome = true) (b : State) :
    (settle b s).board.mark = s.board.mark ∧ (settle b s).board.testDone = s.board.testDone := by
  obtain ⟨c, hsettle⟩ := settle_of_busy hbusy b
  obtain ⟨hmark, hdone⟩ := wake_marks c (marked b s).board
  rw [hsettle]
  refine ⟨hmark.trans ?_, hdone.trans ?_⟩ <;> rw [marked_board]

/-! ## The flash phase (R127, R130) -/

theorem takeNotice_lit (s t : State) (f : Frame) (h : takeNotice s = some (f, t)) : t.board.lit = s.board.lit := by
  unfold takeNotice at h
  (repeat' split at h) <;> cases h <;> rfl

theorem wake_of {c : Bool} {b : Board} (hc : c = true) (hmode : b.mode = .scanning) (hpass : b.pass = none) :
    b.wake c = b.startScan := if_pos ⟨hc, hmode, hpass⟩

/-- A waiting board with its settings starts a pass, if the new phase or image gives it a slot. -/
theorem settle_wakes {s b : State} {o : OnTimes} (hmode : s.board.mode = .scanning) (hpass : s.board.pass = none)
    (ho : s.board.settings = some o) (hlit : s.board.lit ≠ b.board.lit) : (settle b s).board.pass =
      if (planPass (settle b s).board o .scan).plan = [] then none else some (planPass (settle b s).board o .scan) := by
  have hboard := marked_board b s
  have hwake : (marked b s).onBoard (Board.wake ((marked b s).board.image != b.board.image ||
      (marked b s).board.lit != b.board.lit)) = (marked b s).onBoard Board.startScan := by
    refine congrArg (fun x => { marked b s with board := x }) (wake_of ?_ ?_ ?_)
    · rw [Bool.or_eq_true]
      exact .inr (bne_iff_ne.mpr (by rw [hboard]; exact hlit))
    · rw [hboard]
      exact hmode
    · rw [hboard]
      exact hpass
  have hstart := startScan_of_settings (b := (marked b s).board) (o := o) (by rw [hboard]; exact ho)
  have hplan : planPass (settle b s).board o .scan = planPass (marked b s).board o .scan := by
    refine planPass_scan_congr ?_ ?_ <;> rw [settle_eq, hwake]
    · rw [(arbiterA_shown _).2]
      exact startScan_image _
    · rw [arbiterA_of_notice (p := fun s => s.board.lit) (fun _ _ => rfl) takeNotice_lit, State.onBoard_board, hstart]
  rw [hplan, settle_eq, hwake, arbiterA_of_notice (p := fun s => s.board.pass) (fun _ _ => rfl) takeNotice_pass,
    State.onBoard_board, hstart]

/-! ## The modes of the lamp image (R122, R124 to R126) -/

section
variable {s : State} {k : Nat}

theorem cellMode_of {a : Assignment} (h : tget s.board.layout k = some a) : cellMode s k = assignedMode s a := by
  unfold cellMode
  rw [h]

theorem pushMode_of {i : Nat} {c : Call} (hc : s.call.calls.find? (fun c => c.push == i) = some c) : pushMode s i =
    if c.state = .deferred then .flash else if c.escalated then .emphasis else .steady := by
  unfold pushMode
  rw [hc]

theorem pushMode_of_unlisted {i : Nat} (h : ∀ c ∈ s.call.calls, c.push ≠ i) : pushMode s i = .off := by
  unfold pushMode
  rw [find?_push_none h]

end

/-- Settles O59: the completions by the kind of pass in flight, the flash phase, and each assignment's display mode. -/
theorem boardPassesComplete : Obligations.BoardPassesComplete := by
  unfold Obligations.BoardPassesComplete
  refine ⟨fun s => ?_, fun b p => ⟨rfl, completeTest_marks b p⟩, fun s k => ?_⟩
  · intro taken passAfter
    have hscan : ∀ w, s.board.scanDone = w → EndsAs (exec .scanningPassCompletion s) (s.onBoard fun _ => w) :=
      fun w hw => endsAs_finish_of_eq (congrArg (fun b => { s with board := b }) hw)
    have htest : ∀ w, s.board.testPassDone = w → EndsAs (exec .testPassCompletion s) (s.onBoard fun _ => w) :=
      fun w hw => endsAs_finish_of_eq (congrArg (fun b => { s with board := b }) hw)
    refine ⟨fun p hp => ⟨fun hkind => htest _ (testPassDone_of_scan ?_), fun hkind => hscan _ (scanDone_of_test ?_)⟩,
      fun hnone => ⟨htest _ (testPassDone_of_scan ?_), hscan _ (scanDone_of_test ?_)⟩, fun p o hp ho => ?_,
      endsAs_finish_of_eq rfl, settle s (s.onBoard Board.flip), rfl, fun hflight => settle_pass (s := s.onBoard Board.flip) (.inl hflight) s,
      fun o hpass hmode ho => settle_wakes (s := s.onBoard Board.flip) hmode hpass ho ?_⟩
    · rintro q hq
      cases hp.symm.trans hq
      exact hkind
    · rintro q hq
      cases hp.symm.trans hq
      exact hkind
    · exact fun q hq => nomatch hnone.symm.trans hq
    · exact fun q hq => nomatch hnone.symm.trans hq
    · have hafter : ∀ (c : Instr) (w : Board) (q : Pass), exec c s = finish s (s.onBoard fun _ => w) → w.pass = some q →
          passAfter c q := fun c w q hc hq => ⟨_, hc, (settle_pass (.inl (by rw [State.onBoard_board, hq]; rfl)) s).trans hq⟩
      have hstarts : ∀ b : Board, b.settings = some o → (planPass b o .scan).plan ≠ [] →
          b.startScan.pass = some (planPass b o .scan) := fun b hb hplan => by
        rw [startScan_of_settings hb]
        exact if_neg hplan
      refine ⟨fun hkind hmode => ?_, fun hkind hmode hplan => ?_, fun m hkind hm => ?_⟩
      · have hdone : s.board.scanDone = (s.board.recordPass p).startScan :=
          (scanDone_of_scan hp hkind).trans (if_neg (show s.board.mode ≠ .test by rw [hmode]; nofun))
        exact ⟨(hscan _ hdone).of_records (onBoard_records_congr (startScan_bare (s.board.recordPass p))),
          fun hplan => hafter _ _ _ (congrArg (fun b => finish s { s with board := b }) hdone)
            (hstarts (s.board.recordPass p) ho hplan)⟩
      · have hdone : s.board.scanDone = { s.board.recordPass p with pass := some (planPass s.board o .test) } :=
          (scanDone_of_scan hp hkind).trans ((if_pos hmode).trans (startTest_of_plan (b := s.board.recordPass p) ho hplan))
        exact ⟨(hscan _ hdone).of_records (onBoard_records_congr rfl),
          hafter _ _ _ (congrArg (fun b => finish s { s with board := b }) hdone) rfl⟩
      · have hdone : s.board.testPassDone = s.board.completeTest p := testPassDone_of_test hp hkind
        have hexec : exec .testPassCompletion s = finish s (s.onBoard fun _ => s.board.completeTest p) :=
          congrArg (fun b => finish s { s with board := b }) hdone
        have hmode : (s.board.tested p).mode = m := by
          show s.board.returnMode.getD .dark = m
          rw [hm]
          rfl
        refine ⟨(htest _ hdone).of_records (onBoard_records_congr ?_), fun hscanning hplan => hafter _ _ _ hexec ?_,
          fun hbusy => ⟨_, hexec, ?_⟩⟩
        · rw [completeTest_bare, ← hmode]
          rfl
        · rw [completeTest_eq]
          refine (congrArg Board.pass (if_pos (hmode.trans hscanning))).trans ?_
          exact hstarts (s.board.tested p) ho hplan
        · obtain ⟨hmark, htested⟩ := settle_boardMarks (s := s.onBoard fun _ => s.board.completeTest p) hbusy s
          obtain ⟨hmark', htested'⟩ := completeTest_marks s.board p
          exact ⟨htested.trans htested', hmark.trans hmark'⟩
    · show (!s.board.lit) ≠ s.board.lit
      simp
  · intro shows fixed
    have hshows : ∀ a d, assignedMode s a = d → shows a d := fun a d hd ha => (cellMode_of ha).trans hd
    have hfixed : ∀ f p, (fixedHolds s f = true ↔ p) → fixed f p := fun f p hp =>
      ⟨fun h => hshows _ _ (if_pos (hp.mpr h)), fun h => hshows _ _ (if_neg (mt hp.mp h))⟩
    refine ⟨rfl, fun hnone => ?_, hshows _ _ rfl, fun i hno => hshows _ _ (pushMode_of_unlisted hno), fun i c hc => ?_,
      fun i z hz => ?_, fun i x hx => ?_, hfixed _ _ beq_iff_eq, hfixed _ _ Iff.rfl, hfixed _ _ Iff.rfl,
      hfixed _ _ ?_, hfixed _ _ beq_iff_eq⟩
    · unfold cellMode
      rw [hnone]
    · have hmode := pushMode_of hc
      refine ⟨fun hd => hshows _ _ (hmode.trans (if_pos hd)), fun hd he => hshows _ _ (hmode.trans ?_),
        fun hd he => hshows _ _ (hmode.trans ?_)⟩
      · exact (if_neg hd).trans (if_pos he)
      · exact (if_neg hd).trans (if_neg (Bool.eq_false_iff.mp he))
    · have hzone : ∀ d, zoneMode s i = d → shows (.zone i) d := hshows (.zone i)
      exact ⟨fun hs hf => hzone _ (by simp [zoneMode, hz, hs, hf]), fun hs hf => hzone _ (by simp [zoneMode, hz, hs, hf]),
        fun hs => hzone _ (by simp [zoneMode, hz, hs]), fun hs => hzone _ (by simp [zoneMode, hz, hs]),
        fun hs => hzone _ (by simp [zoneMode, hz, hs])⟩
    · have hshut : ∀ d, shutterMode s i = d → shows (.shutter i) d := hshows (.shutter i)
      refine ⟨fun hs => hshut _ ?_, fun hs => hshut _ ?_, fun hs => hshut _ ?_, fun hs => hshut _ ?_⟩
      · rcases hs with hs | hs <;> simp [shutterMode, hx, hs]
      · simp [shutterMode, hx, hs]
      · rcases hs with hs | hs | hs | hs <;> simp [shutterMode, hx, hs]
      · rcases hs with hs | hs <;> simp [shutterMode, hx, hs]
    · simp only [fixedHolds, tany, List.any_eq_true, beq_iff_eq]

end Sys2Proof.Machine
end
section
/-! SUPPORT. The transmissions, the poll schedule, the candidates of the Port B arbiter, and the frames the Port A
arbiter takes. -/

namespace Sys2Proof.Machine

/-! ## Transmissions that complete (R162, R179) -/

section
variable {s : State}

theorem orderSent_of {o : Order} (h : s.line.portB = .sending o) : orderSent s = freePortB s := by
  unfold orderSent
  rw [h]

theorem orderSent_of_none (h : ∀ o, s.line.portB ≠ .sending o) : orderSent s = s := by
  unfold orderSent
  split
  next o ho => exact absurd ho (h o)
  next => rfl

theorem pollSent_of {a : Nat} (h : s.line.portB = .polling a) : pollSent s = s.onLine fun l =>
    { l with portB := .awaiting a ((s.reg.settings.map fun x => x.window * ticksPerMs).getD 0) } := by
  unfold pollSent
  rw [h]

theorem pollSent_of_none (h : ∀ a, s.line.portB ≠ .polling a) : pollSent s = s := by
  unfold pollSent
  split
  next a ha => exact absurd ha (h a)
  next => rfl

/-! ## The poll schedule (R161) -/

/-- The stations of the cycle above the position. -/
def Pollable (t : Table Station) (cycle : Nat) (position : Option Nat) (a : Nat) : Prop :=
  (∀ p, position = some p → p < a) ∧ ∃ e, tget t a = some e ∧ (e.cls = .fast ∨ cycle % 4 = 0)

theorem inCycle_iff (cycle : Nat) (e : Station) : e.inCycle cycle = true ↔ e.cls = .fast ∨ cycle % 4 = 0 := by
  simp only [Station.inCycle, Bool.or_eq_true, beq_iff_eq]

section
variable {t : Table Station} {cycle : Nat} {position : Option Nat}

theorem pollable_iff (hsorted : t.Pairwise (·.1 < ·.1)) (a : Nat) : Pollable t cycle position a ↔
    a ∈ tkeys t (Station.inCycle cycle) ∧ position.all (· < a) = true := by
  have hkeys : (t.map Prod.fst).Nodup := nodup_of_rising hsorted
  have habove : position.all (· < a) = true ↔ ∀ p, position = some p → p < a := by
    cases position <;> simp
  unfold Pollable
  rw [habove, mem_tkeys, and_comm]
  refine and_congr_left fun _ => ⟨fun ⟨e, he, hcls⟩ => ⟨(a, e), mem_of_tget he, rfl, (inCycle_iff cycle e).mpr hcls⟩, ?_⟩
  rintro ⟨⟨k, e⟩, he, rfl, hcls⟩
  exact ⟨e, tget_of_mem hkeys he, (inCycle_iff cycle e).mp hcls⟩

theorem nextInCycle_of_least (hsorted : t.Pairwise (·.1 < ·.1)) {a : Nat} (ha : Pollable t cycle position a)
    (hleast : ∀ b, Pollable t cycle position b → a ≤ b) : nextInCycle t cycle position = some a := by
  obtain ⟨hmem, habove⟩ := (pollable_iff hsorted a).mp ha
  have hrising : (tkeys t (Station.inCycle cycle)).Pairwise (· < ·) :=
    List.pairwise_map.mpr (hsorted.sublist List.filter_sublist)
  obtain ⟨l, r, hsplit⟩ := List.append_of_mem hmem
  refine List.find?_eq_some_iff_append.mpr ⟨habove, l, r, hsplit, fun b hb => ?_⟩
  rw [Bool.not_eq_true', Bool.eq_false_iff]
  intro hb'
  have hlt : b < a := by
    rw [hsplit, List.pairwise_append] at hrising
    exact hrising.2.2 b hb a List.mem_cons_self
  exact absurd (hleast b ((pollable_iff hsorted b).mpr ⟨by rw [hsplit]; exact List.mem_append_left _ hb, hb'⟩))
    (Nat.not_le.mpr hlt)

theorem nextInCycle_of_none (hsorted : t.Pairwise (·.1 < ·.1)) (h : ∀ a, ¬Pollable t cycle position a) :
    nextInCycle t cycle position = none :=
  List.find?_eq_none.mpr fun a hmem habove => h a ((pollable_iff hsorted a).mpr ⟨hmem, habove⟩)

theorem choosePoll_of_next {a : Nat} (h : nextInCycle t cycle position = some a) (n : Nat) :
    choosePoll t (n + 1) cycle position = some (cycle, a) := by
  rw [choosePoll, h]

theorem choosePoll_of_none (h : nextInCycle t cycle position = none) (n : Nat) :
    choosePoll t (n + 1) cycle position = choosePoll t n ((cycle + 1) % 256) none := by
  rw [choosePoll, h]

end

/-! ## The candidates of the Port B arbiter (R179) -/

theorem firstSlot_of {α β : Type} {slot : α → Option β} {l r : Table α} {i : Nat} {e : α} {o : β}
    (hl : ∀ x ∈ l, slot x.2 = none) (ho : slot e = some o) : firstSlot slot (l ++ (i, e) :: r) = some (i, e, o) := by
  induction l with
  | nil => simp only [List.nil_append, firstSlot, ho]
  | cons x l ih =>
    obtain ⟨k, y⟩ := x
    have hy : slot y = none := hl _ List.mem_cons_self
    simp only [List.cons_append, firstSlot, hy]
    exact ih fun x hx => hl x (List.mem_cons_of_mem _ hx)

theorem firstSlot_none {α β : Type} {slot : α → Option β} {t : Table α} (h : ∀ x ∈ t, slot x.2 = none) :
    firstSlot slot t = none := by
  induction t with
  | nil => rfl
  | cons x t ih =>
    obtain ⟨k, y⟩ := x
    have hy : slot y = none := h _ List.mem_cons_self
    simp only [firstSlot, hy]
    exact ih fun x hx => h x (List.mem_cons_of_mem _ hx)

theorem takeB_poll (hrun : 4 ≤ s.line.orderRun) (hdue : s.pollDue = true) : takeB s = takePoll s := if_pos ⟨hrun, hdue⟩

section
variable (h : s.line.orderRun < 4 ∨ s.pollDue = false)
include h

theorem takeB_of_order {t : State} (ht : takeOrder s = some t) : takeB s = some t := by
  unfold takeB
  rw [if_neg fun hc => h.elim (fun hlt => absurd hc.1 (Nat.not_le.mpr hlt)) fun hno => Bool.false_ne_true (hno.symm.trans hc.2), ht]

theorem takeB_of_no_order (ht : takeOrder s = none) : takeB s = if s.pollDue = true then takePoll s else none := by
  unfold takeB
  rw [if_neg fun hc => h.elim (fun hlt => absurd hc.1 (Nat.not_le.mpr hlt)) fun hno => Bool.false_ne_true (hno.symm.trans hc.2), ht]

end

theorem takeOrder_drive {a : Nat} {o : DriveOrder} (ha : s.driveStation = some a) (ho : s.pat.slot = some o) :
    takeOrder s = some (takeDrive a o s) := by
  unfold takeOrder
  rw [ha, ho]

section
variable (hpat : s.pat.slot = none)
include hpat

theorem takeOrder_shutter {l r : Table Shutter} {i : Nat} {e : Shutter} {o : ShutterOrder} (hs : s.shut = l ++ (i, e) :: r)
    (hl : ∀ x ∈ l, x.2.slot = none) (ho : e.slot = some o) : takeOrder s = some (takeShutter i e o s) := by
  unfold takeOrder
  rw [hpat, hs, firstSlot_of hl ho]
  cases s.driveStation <;> rfl

variable (hshut : ∀ x ∈ s.shut, x.2.slot = none)
include hshut

theorem takeOrder_amp {l r : Table Amp} {f : Nat} {a : Amp} {o : AmpOrder} (hs : s.ann.amps = l ++ (f, a) :: r)
    (hl : ∀ x ∈ l, x.2.slot = none) (ho : a.slot = some o) : takeOrder s = some (takeAmp f a o s) := by
  unfold takeOrder
  rw [hpat, firstSlot_none hshut, hs, firstSlot_of hl ho]
  cases s.driveStation <;> rfl

variable (hamps : ∀ x ∈ s.ann.amps, x.2.slot = none)
include hamps

theorem takeOrder_ringer {l r : Table Ringer} {i : Nat} {g : Ringer} {o : RingerOrder} (hs : s.call.ringers = l ++ (i, g) :: r)
    (hl : ∀ x ∈ l, x.2.slot = none) (ho : g.slot = some o) : takeOrder s = some (takeRinger i g o s) := by
  unfold takeOrder
  rw [hpat, firstSlot_none hshut, firstSlot_none hamps, hs, firstSlot_of hl ho]
  cases s.driveStation <;> rfl

variable (hringers : ∀ x ∈ s.call.ringers, x.2.slot = none)
include hringers

theorem takeOrder_forwarded {o : Order} {rest : List Order} (ho : s.line.orders = o :: rest) :
    takeOrder s = some (takeForwarded o rest s) := by
  unfold takeOrder
  rw [hpat, firstSlot_none hshut, firstSlot_none hamps, firstSlot_none hringers, ho]
  cases s.driveStation <;> rfl

theorem takeOrder_none (ho : s.line.orders = []) : takeOrder s = none := by
  unfold takeOrder
  rw [hpat, firstSlot_none hshut, firstSlot_none hamps, firstSlot_none hringers, ho]
  cases s.driveStation <;> rfl

end

theorem pollDue_iff (s : State) : s.pollDue = true ↔ s.reg.settings.isSome = true ∧ s.reg.stations ≠ [] := by
  simp only [State.pollDue, Bool.and_eq_true, Bool.not_eq_true', List.isEmpty_eq_false_iff, ne_eq]

theorem arbiterB_of_busy (h : s.line.portB ≠ .free) (n : Nat) : arbiterB (n + 1) s = s := by
  rw [arbiterB, if_neg h]

theorem arbiterB_of_none (h : s.line.portB = .free) (ht : takeB s = none) (n : Nat) : arbiterB (n + 1) s = s := by
  rw [arbiterB, if_pos h, ht]

theorem arbiterB_of_taken (h : s.line.portB = .free) {t : State} (ht : takeB s = some t) (n : Nat) :
    arbiterB (n + 1) s = arbiterB n t := by
  rw [arbiterB, if_pos h, ht]

end

/-! ## The notices in their order (R180, R191) -/

theorem firstMarked_of {α : Type} {mark : α → Bool} {l r : Table α} {i : Nat} {e : α} (hl : ∀ x ∈ l, mark x.2 = false)
    (he : mark e = true) : firstMarked mark (l ++ (i, e) :: r) = some (i, e) := by
  induction l with
  | nil => exact if_pos he
  | cons x l ih =>
    obtain ⟨k, y⟩ := x
    have hy : mark y = false := hl _ List.mem_cons_self
    exact (if_neg (Bool.eq_false_iff.mp hy)).trans (ih fun x hx => hl x (List.mem_cons_of_mem _ hx))

theorem firstMarked_none {α : Type} {mark : α → Bool} {t : Table α} (h : ∀ x ∈ t, mark x.2 = false) :
    firstMarked mark t = none := by
  induction t with
  | nil => rfl
  | cons x t ih =>
    obtain ⟨k, y⟩ := x
    have hy : mark y = false := h _ List.mem_cons_self
    exact (if_neg (Bool.eq_false_iff.mp hy)).trans (ih fun x hx => h x (List.mem_cons_of_mem _ hx))

section
variable {s : State}

theorem takeNotice_zone {l r : Table Zone} {z : Nat} {e : Zone} (hs : s.fire.zones = l ++ (z, e) :: r)
    (hl : ∀ x ∈ l, x.2.mark = false) (he : e.mark = true) : takeNotice s =
      some (noticeFrame s 1 (zonePayload s z e), onZone s z fun e => { e with mark := false }) := by
  unfold takeNotice
  rw [hs, firstMarked_of hl he]

variable (hzones : ∀ e ∈ s.fire.zones, e.2.mark = false)
include hzones

theorem takeNotice_shutter {l r : Table Shutter} {i : Nat} {e : Shutter} (hs : s.shut = l ++ (i, e) :: r)
    (hl : ∀ x ∈ l, x.2.mark = false) (he : e.mark = true) : takeNotice s =
      some (noticeFrame s 2 (shutterPayload i e), onShutter s i fun e => { e with mark := false }) := by
  unfold takeNotice
  rw [firstMarked_none hzones, hs, firstMarked_of hl he]

variable (hshut : ∀ e ∈ s.shut, e.2.mark = false)
include hshut

theorem takeNotice_pat (h : s.pat.mark = true) : takeNotice s =
    some (noticeFrame s 3 (patPayload s.pat), s.onPat fun p => { p with mark := false }) := by
  unfold takeNotice
  rw [firstMarked_none hzones, firstMarked_none hshut]
  exact if_pos h

variable (hpat : s.pat.mark = false)
include hpat

theorem takeNotice_station {l r : Table Station} {a : Nat} {e : Station} (hs : s.reg.stations = l ++ (a, e) :: r)
    (hl : ∀ x ∈ l, x.2.mark = false) (he : e.mark = true) : takeNotice s =
      some (noticeFrame s 4 (stationPayload a e), onStation s a fun e => { e with mark := false }) := by
  unfold takeNotice
  rw [firstMarked_none hzones, firstMarked_none hshut, hs, firstMarked_of hl he]
  exact if_neg (Bool.eq_false_iff.mp hpat)

variable (hstations : ∀ e ∈ s.reg.stations, e.2.mark = false)
include hstations

/-- With no zone, shutter, paternoster or station marked, the notice is the panel's or a later one. -/
theorem takeNotice_late : takeNotice s =
    if s.reg.panelMark then
      some (noticeFrame s 4 (panelPayload s.reg), s.onReg fun r => { r with panelMark := false })
    else if s.call.mark then
      some (noticeFrame s 5 (callPayload s.call), s.onCall fun u => { u with mark := false })
    else if s.ann.mark then
      some (noticeFrame s 6 (closingPayload s), s.onAnn fun u => { u with mark := false })
    else
    match s.line.vetoMark, s.line.veto with
    | true, some v =>
      some (noticeFrame s 7 (vetoPayload v), s.onLine fun l => { l with veto := none, vetoMark := false })
    | _, _ =>
    if s.board.mark then
      some (noticeFrame s 8 (boardPayload s.board), s.onBoard fun b => { b with mark := false, testDone := false })
    else none := by
  unfold takeNotice
  rw [firstMarked_none hzones, firstMarked_none hshut, firstMarked_none hstations]
  exact if_neg (Bool.eq_false_iff.mp hpat)

theorem takeNotice_panel (h : s.reg.panelMark = true) : takeNotice s =
    some (noticeFrame s 4 (panelPayload s.reg), s.onReg fun r => { r with panelMark := false }) :=
  (takeNotice_late hzones hshut hpat hstations).trans (if_pos h)

variable (hpanel : s.reg.panelMark = false)
include hpanel

theorem takeNotice_call (h : s.call.mark = true) : takeNotice s =
    some (noticeFrame s 5 (callPayload s.call), s.onCall fun u => { u with mark := false }) :=
  (takeNotice_late hzones hshut hpat hstations).trans ((if_neg (Bool.eq_false_iff.mp hpanel)).trans (if_pos h))

variable (hcall : s.call.mark = false)
include hcall

theorem takeNotice_closing (h : s.ann.mark = true) : takeNotice s =
    some (noticeFrame s 6 (closingPayload s), s.onAnn fun u => { u with mark := false }) :=
  (takeNotice_late hzones hshut hpat hstations).trans ((if_neg (Bool.eq_false_iff.mp hpanel)).trans
    ((if_neg (Bool.eq_false_iff.mp hcall)).trans (if_pos h)))

variable (hann : s.ann.mark = false)
include hann

theorem takeNotice_veto {v : Veto} (hmark : s.line.vetoMark = true) (hv : s.line.veto = some v) : takeNotice s =
    some (noticeFrame s 7 (vetoPayload v), s.onLine fun l => { l with veto := none, vetoMark := false }) := by
  rw [takeNotice_late hzones hshut hpat hstations, hpanel, hcall, hann, hmark, hv]
  rfl

theorem takeNotice_board (h : s.line.vetoMark = false ∨ s.line.veto = none) : takeNotice s =
    if s.board.mark then
      some (noticeFrame s 8 (boardPayload s.board), s.onBoard fun b => { b with mark := false, testDone := false })
    else none := by
  rw [takeNotice_late hzones hshut hpat hstations, hpanel, hcall, hann]
  rcases h with h | h
  · rw [h]
    cases s.line.veto <;> rfl
  · rw [h]
    cases s.line.vetoMark <;> rfl

end

/-! ## The Port A arbiter (R180) -/

section
variable {s : State} {f : Frame}

theorem takeLocal_reply (hf : s.line.reply = some f) : takeLocal s =
    some (s.onLine fun l => { l with portA := some f, reply := none, localRun := min (s.line.localRun + 1) 4 }) := by
  unfold takeLocal
  rw [hf]
  rfl

theorem takeLocal_notice (hreply : s.line.reply = none) {t : State} (ht : takeNotice s = some (f, t)) : takeLocal s =
    some (t.onLine fun l => { l with portA := some f, localRun := min (s.line.localRun + 1) 4 }) := by
  unfold takeLocal
  rw [hreply, ht]
  rfl

theorem takeLocal_none (hreply : s.line.reply = none) (ht : takeNotice s = none) : takeLocal s = none := by
  unfold takeLocal
  rw [hreply, ht]
  rfl

variable (hport : s.line.portA = none)
include hport

theorem arbiterA_report {rest : List Frame} (hreports : s.line.reports = f :: rest)
    (h : 4 ≤ s.line.localRun ∨ (s.line.reply = none ∧ takeNotice s = none)) :
    arbiterA s = s.onLine fun l => { l with portA := some f, reports := rest, localRun := 0 } := by
  unfold arbiterA
  rw [hport, hreports]
  by_cases hrun : s.line.localRun ≥ Config.runLimit
  · exact if_pos hrun
  · obtain ⟨hreply, hnotice⟩ := h.resolve_left hrun
    refine (if_neg hrun).trans ?_
    rw [takeLocal_none hreply hnotice]
    rfl

/-- A frame of the part's own goes while no report has waited for four of them. -/
theorem arbiterA_local {t : State} (h : s.line.reports = [] ∨ s.line.localRun < 4) (ht : takeLocal s = some t) :
    arbiterA s = t := by
  unfold arbiterA
  rw [hport]
  cases hreports : s.line.reports with
  | nil => exact congrArg (fun o => Option.getD o s) ht
  | cons f rest =>
    have hrun : ¬s.line.localRun ≥ Config.runLimit :=
      Nat.not_le.mpr (h.resolve_left (by rw [hreports]; exact List.cons_ne_nil f rest))
    refine (if_neg hrun).trans ?_
    rw [ht]

theorem arbiterA_idle (hreports : s.line.reports = []) (ht : takeLocal s = none) : arbiterA s = s := by
  unfold arbiterA
  rw [hport, hreports]
  exact congrArg (fun o => Option.getD o s) ht

end

/-! ## The next frame on Port A, at the end of an event -/

/-- The Port A arbiter decides on a state whose Port A fields the event left as they stand. -/
theorem settle_arbiterA (b s : State) : ∃ m : State, settle b s = arbiterA m ∧ m.line.portASide = s.line.portASide :=
  ⟨_, settle_eq b s, arbiterB_portASide 128 s⟩

theorem portA_of_portASide {l m : LineUnit} (h : l.portASide = m.portASide) :
    l.reports = m.reports ∧ l.reply = m.reply ∧ l.portA = m.portA ∧ l.localRun = m.localRun := by
  simp only [LineUnit.portASide, Prod.mk.injEq] at h
  obtain ⟨hreports, hreply, hport, hrun, -⟩ := h
  exact ⟨hreports, hreply, hport, hrun⟩

theorem settle_reply {b s : State} {f : Frame} (hport : s.line.portA = none) (hreply : s.line.reply = some f)
    (h : s.line.reports = [] ∨ s.line.localRun < 4) : (settle b s).line.portA = some f ∧
      (settle b s).line.reply = none ∧ (settle b s).line.reports = s.line.reports := by
  obtain ⟨m, hsettle, hside⟩ := settle_arbiterA b s
  obtain ⟨hreports', hreply', hport', hrun'⟩ := portA_of_portASide hside
  rw [hsettle, arbiterA_local (hport'.trans hport) (by rw [hreports', hrun']; exact h) (takeLocal_reply (hreply'.trans hreply))]
  exact ⟨rfl, rfl, hreports'⟩

theorem settle_report {b s : State} {f : Frame} {rest : List Frame} (hport : s.line.portA = none)
    (hreports : s.line.reports = f :: rest) (h : 4 ≤ s.line.localRun) : (settle b s).line.portA = some f ∧
      (settle b s).line.reports = rest ∧ (settle b s).line.localRun = 0 ∧ (settle b s).line.reply = s.line.reply := by
  obtain ⟨m, hsettle, hside⟩ := settle_arbiterA b s
  obtain ⟨hreports', hreply', hport', hrun'⟩ := portA_of_portASide hside
  rw [hsettle, arbiterA_report (hport'.trans hport) (hreports'.trans hreports) (.inl (by rw [hrun']; exact h))]
  exact ⟨rfl, rfl, rfl, hreply'⟩

end Sys2Proof.Machine
end
section
/-! SUPPORT. What the Port B arbiter takes: each slot's order sent or discarded, and the head of the forwarded-order
FIFO. -/

namespace Sys2Proof.Machine

/-! ## A Run at its sending (R7, R11) -/

/-- A Run could be sent now (R11). -/
def State.CouldRun (s : State) : Prop :=
  s.armed = true ∧ s.pat.state = .idle ∧ s.pat.start.isSome = true ∧ s.anyFull = false ∧
    (∀ e ∈ s.shut, e.2.kind = .shaft → e.2.state = .open) ∧ ∃ a, s.driveStation = some a ∧ s.present a = true

section
variable {s : State}

theorem couldRun_of_none (h : s.runVetoAtSending = none) : s.CouldRun := by
  obtain ⟨harmed, hidle, hstart, hfull, hopen, hdrive⟩ := runVetoAtSending_none h
  exact ⟨harmed, hidle, hstart, hfull, (shaftsOpen_iff s).mp hopen, (Option.any_eq_true ..).mp hdrive⟩

theorem runVetoAtSending_of (h : s.CouldRun) : s.runVetoAtSending = none := by
  obtain ⟨harmed, hidle, hstart, hfull, hopen, hdrive⟩ := h
  have hveto : s.runVeto = none := by
    rw [runVeto_of_armed harmed, hidle, hfull, (shaftsOpen_iff s).mpr hopen, (Option.any_eq_true ..).mpr hdrive]
    rfl
  unfold State.runVetoAtSending
  rw [hveto]
  exact if_neg (by rw [← Option.not_isSome, hstart]; exact Bool.false_ne_true)

theorem runVetoAtSending_of_not (h : ¬s.CouldRun) : ∃ r, s.runVetoAtSending = some r :=
  Option.ne_none_iff_exists'.mp (mt couldRun_of_none h)

/-- Which check failed, from the reason of the veto. -/
theorem runVetoAtSending_reason {r : VetoReason} (h : s.runVetoAtSending = some r) :
    (r = .notArmed ↔ s.armed = false) ∧ (r = .fire ↔ s.armed = true ∧ s.pat.state = .idle ∧ s.anyFull = true) ∧
    (r = .shutterNotOpen ↔ s.armed = true ∧ s.pat.state = .idle ∧ s.anyFull = false ∧
      ∃ e ∈ s.shut, e.2.kind = .shaft ∧ e.2.state ≠ .open) ∧
    (r = .notArmed ∨ r = .fire ∨ r = .shutterNotOpen ∨ r = .chainNotIdle) := by
  have hopen : (∃ e ∈ s.shut, e.2.kind = .shaft ∧ e.2.state ≠ .open) ↔ s.shaftsOpen = false := by
    rw [← Bool.not_eq_true, shaftsOpen_iff]
    push Not
    rfl
  rw [hopen]
  unfold State.runVetoAtSending at h
  cases hveto : s.runVeto with
  | some r' =>
    rw [hveto] at h
    cases h
    unfold State.runVeto at hveto
    repeat' split at hveto
    all_goals cases hveto
    all_goals simp_all
  | none =>
    obtain ⟨harmed, hidle, hfull, hshut, -⟩ := runVeto_none hveto
    rw [hveto] at h
    dsimp only at h
    split at h
    · cases h
      simp [harmed, hfull, hshut]
    · cases h

/-! ## The drive order slot (R7, R11, R38) -/

theorem takeDrive_run (a : Nat) (h : s.CouldRun) : takeDrive a .run s = sendOwn a .run (s.onPat fun p => { p with slot := none }) := by
  unfold takeDrive
  rw [runVetoAtSending_of h]

theorem takeDrive_run_of_not (a : Nat) (h : ¬s.CouldRun) : takeDrive a .run s =
    (s.onPat fun p => { p with slot := none }).onPat fun p => { p with start := none, mark := true } := by
  obtain ⟨r, hr⟩ := runVetoAtSending_of_not h
  unfold takeDrive
  rw [hr]
  rfl

theorem takeDrive_stopAt (a t : Nat) (h : ∀ r, s.pat.stop = some r → r.searched = none) :
    takeDrive a (.stopAt t) s = sendOwn a (.stopAt t) (s.onPat fun p => { p with slot := none }) := by
  have hsearch : searchAgain t (s.onPat fun p => { p with slot := none }) = (t, s.onPat fun p => { p with slot := none }) := by
    unfold searchAgain
    split
    next g r hg hr => rw [h r hr]
    next => rfl
  unfold takeDrive
  dsimp only
  rw [hsearch]

theorem takeDrive_stopAt_searched (a t : Nat) {g : Geometry} {r : Stop} {k : SearchSet} (hg : s.pat.geometry = some g)
    (hr : s.pat.stop = some r) (hk : r.searched = some k) : takeDrive a (.stopAt t) s =
      sendOwn a (.stopAt (stopTarget g s.pat k).1) ((s.onPat fun p => { p with slot := none }).onPat fun p =>
        { p with stop := some { r with target := some (stopTarget g s.pat k).1 } }) := by
  have hg' : (s.onPat fun p => { p with slot := none }).pat.geometry = some g := hg
  have hr' : (s.onPat fun p => { p with slot := none }).pat.stop = some r := hr
  have hsearch : searchAgain t (s.onPat fun p => { p with slot := none }) = ((stopTarget g s.pat k).1,
      (s.onPat fun p => { p with slot := none }).onPat fun p =>
        { p with stop := some { r with target := some (stopTarget g s.pat k).1 } }) := by
    unfold searchAgain
    rw [hg', hr']
    dsimp only
    rw [hk]
    rfl
  unfold takeDrive
  dsimp only
  rw [hsearch]

end

/-! ## A Drop or a Raise discarded (R81, R82, R88) -/

/-- What becomes of shutter `i` in `w` when its Drop is discarded: a DESCENDING one waits again. -/
def Shutter.DropGivenUp (e : Shutter) (blocked : Prop) (i : Nat) (w v : State) : Prop :=
  (e.state ≠ .descending → v = w) ∧
  (e.state = .descending →
    (blocked → v = onShutter w i Shutter.obstructCar) ∧
    (¬blocked → ∀ f, e.landing = some f →
      (e.reason = .fire → v = addLanding f (onShutter w i Shutter.await)) ∧
      (e.reason ≠ .fire → v = onShutter w i Shutter.await)))

/-- What becomes of shutter `i` in `w` when its Raise is discarded: a RAISING one returns to its prior state. -/
def Shutter.RaiseGivenUp (e : Shutter) (i : Nat) (w v : State) : Prop :=
  (e.state ≠ .raising → v = w) ∧
  (e.state = .raising →
    (e.prior = some .closed → v = onShutter w i Shutter.close) ∧
    (e.prior = some (.obstructed .car) → v = onShutter w i Shutter.obstructCar) ∧
    (e.prior = some (.obstructed .jam) → v = onShutter w i Shutter.obstructJam) ∧
    ∀ c, e.prior = some (.faulted c) → v = onShutter w i fun x => x.toFaulted c)

/-- The reason a Drop is vetoed for, by the landing judgment. -/
def Judgment.veto (j : Judgment) : VetoReason := if j = .blocked then .landingBlocked else .chainMoving

section
variable {s w : State} {i : Nat} {e : Shutter}

theorem shaftDropVeto_unarmed (h : s.armed = false) (e : Shutter) : shaftDropVeto s e = some .notArmed := by
  unfold shaftDropVeto
  rw [h]
  rfl

theorem shaftDropVeto_clear (harmed : s.armed = true) (h : s.pat.judgeShutter e = .clear) : shaftDropVeto s e = none := by
  unfold shaftDropVeto
  rw [harmed, h]
  rfl

theorem shaftDropVeto_judged (harmed : s.armed = true) (h : s.pat.judgeShutter e ≠ .clear) :
    shaftDropVeto s e = some (s.pat.judgeShutter e).veto := by
  unfold shaftDropVeto
  rw [harmed]
  cases hj : s.pat.judgeShutter e with
  | clear => exact absurd hj h
  | _ => rfl

theorem dropDiscarded_notArmed (i : Nat) (w : State) : dropDiscarded i .notArmed w = w := by
  unfold dropDiscarded
  split
  · rfl
  · dsimp only
    split <;> rfl

theorem dropDiscarded_givenUp (he : tget w.shut i = some e) (hclear : w.pat.judgeShutter e ≠ .clear) :
    e.DropGivenUp (w.pat.judgeShutter e = .blocked) i w (dropDiscarded i (w.pat.judgeShutter e).veto w) := by
  unfold dropDiscarded
  rw [he]
  dsimp only
  refine ⟨fun h => if_neg h, fun h => ⟨fun hblocked => ?_, fun hblocked f hlanding => ?_⟩⟩
  · rw [hblocked]
    exact if_pos h
  · have hjudge : w.pat.judgeShutter e = .notStopped := by
      cases hj : w.pat.judgeShutter e with
      | notStopped => rfl
      | clear => exact absurd hj hclear
      | blocked => exact absurd hj hblocked
    have hentered := awaitEntered_of (tget_onShutter he Shutter.await) rfl (f := f) hlanding
    have hhanded : (onShutter w i Shutter.await).onShut (handLanding w.pat f) = onShutter w i Shutter.await :=
      congrArg (fun t => { w with shut := t }) (handLanding_of_notStopped ((judge_of_landing hlanding).symm.trans hjudge) _)
    rw [hjudge]
    refine ⟨fun hfire => (if_pos h).trans (hentered.trans (if_pos hfire)), fun hother => (if_pos h).trans (hentered.trans ?_)⟩
    exact (if_neg hother).trans hhanded

theorem raiseDiscarded_givenUp (hkeys : (w.shut.map Prod.fst).Nodup) (he : tget w.shut i = some e) :
    e.RaiseGivenUp i w (raiseDiscarded i w) := by
  have hback : ∀ g : Shutter → Shutter, e.state = .raising → e.returnPrior = g e → raiseDiscarded i w = onShutter w i g :=
    fun g h hg => onShutter_congr hkeys he ((if_pos h).trans hg)
  refine ⟨fun h => onShutter_id hkeys he (if_neg h), fun h => ⟨fun hp => hback _ h ?_, fun hp => hback _ h ?_, fun hp => hback _ h ?_,
    fun c hp => hback (fun x => x.toFaulted c) h ?_⟩⟩ <;> (unfold Shutter.returnPrior; rw [hp])

/-! ## A shutter's slot (R82, R88) -/

theorem raiseHeld_iff (s : State) (e : Shutter) : s.raiseHeld e = true ↔ e.reason = .fire ∧ e.inZone s.zoneAlarm = true := by
  simp only [State.raiseHeld, Bool.and_eq_true, beq_iff_eq]

theorem takeShutter_drop_department (h : e.kind = .department) : takeShutter i e .drop s =
    sendOwn e.station .drop (onShutter s i fun x => { x with slot := none }) := by
  simp only [takeShutter, h]

theorem takeShutter_drop_vetoed (h : e.kind = .shaft) {r : VetoReason} (hr : shaftDropVeto s e = some r) :
    takeShutter i e .drop s = dropDiscarded i r (onShutter s i fun x => { x with slot := none }) := by
  simp only [takeShutter, h, hr]

theorem takeShutter_drop_clear (h : e.kind = .shaft) (hr : shaftDropVeto s e = none) : takeShutter i e .drop s =
    sendOwn e.station .drop (onShutter s i fun x => { x with slot := none }) := by
  simp only [takeShutter, h, hr]

end

/-! ## A ringer's and an amplifier's slot (R107, R150) -/

section
variable {s : State}

theorem ringTooLow_iff (g : Option Ring) (n : Nat) : (g.any fun r => decide (r.priority < n)) = true ↔
    (∃ r, g = some (.request r) ∧ r.priority < n) ∨ ((∃ x y, g = some (.panel x y)) ∧ 7 < n) := by
  cases g with
  | none => simp
  | some ring =>
    rw [Option.any_some, decide_eq_true_iff]
    cases ring with
    | request r => simp [Ring.priority]
    | panel a b => simp [Ring.priority]

theorem discardRing_of {i : Nat} {g : Ringer} (hg : tget s.call.ringers i = some g) : discardRing i s =
    dispatch (rejoin g.ring (onRinger s i fun x => { x with ring := none, number := none, timer := none, slot := none })) := by
  unfold discardRing
  rw [hg]
  rfl

/-- A Gate on for an amplifier of the generator's gated set is unsent (R150). -/
def State.GateWaits (s : State) (p : Playing) : Prop :=
  ∃ f, p.gated.getLsbD f = true ∧ ∃ a, tget s.ann.amps f = some a ∧ ∃ x, a.slot = some (.gateOn x)

theorem gateUnsent_iff (a : Amp) : a.gateUnsent = true ↔ ∃ x, a.slot = some (.gateOn x) := by
  unfold Amp.gateUnsent
  split
  next g hg => simp [hg]
  next hno => simpa using fun x => hno x

theorem gatesSent_iff (p : Playing) : ((members p.gated).all fun f => !(tget s.ann.amps f).any Amp.gateUnsent) = true ↔
    ¬s.GateWaits p := by
  simp only [List.all_eq_true, mem_members, Bool.not_eq_true', ← Bool.not_eq_true, Option.any_eq_true, gateUnsent_iff,
    State.GateWaits, not_exists, not_and]

theorem trySounding_of_not {g : Nat} {p : Playing} (hp : s.ann.gen g = some p) (h : p.sounding.isSome = true ∨ s.GateWaits p) :
    trySounding g s = s := by
  unfold trySounding
  rw [hp]
  refine if_neg fun hc => ?_
  obtain ⟨hnone, hsent⟩ := (Bool.and_eq_true ..).mp hc
  rcases h with h | h
  · rw [Option.isNone_iff_eq_none.mp hnone] at h
    cases h
  · exact (gatesSent_iff p).mp hsent h

theorem trySounding_of {g : Nat} {p : Playing} {c : Chime} {n : Note} (hp : s.ann.gen g = some p) (hnone : p.sounding = none)
    (hsent : ¬s.GateWaits p) (hc : tget s.ann.chimes p.chime = some c) (hn : c.notes.head? = some n) : trySounding g s =
      s.onAnn fun k => k.setGen g (some
        { p with sounding := some { round := 1, note := 0, inGap := false, left := tenMs n.duration } }) := by
  unfold trySounding
  rw [hp]
  refine (if_pos ?_).trans ?_
  · rw [hnone, (gatesSent_iff p).mpr hsent]
    rfl
  · rw [hc, Option.bind_some, hn]

end

/-! ## The head of the forwarded-order FIFO (R175) -/

section
variable {s : State} {o : Order} {rest : List Order}

/-- The FIFO without the order taken. -/
def State.dequeued (rest : List Order) (s : State) : State := s.onLine fun l => { l with orders := rest }

theorem takeForwarded_sent (h : sendingVeto o s = none) : takeForwarded o rest s = sendOrder o (s.dequeued rest) := by
  unfold takeForwarded
  rw [h]
  rfl

theorem takeForwarded_vetoed {r : VetoReason} (h : sendingVeto o s = some r) :
    takeForwarded o rest s = fillVeto o r .sending (orderDiscarded o r (s.dequeued rest)) := by
  unfold takeForwarded
  rw [h]
  rfl

variable {h : Hdr} {r : VetoReason}

theorem sendingVeto_of_other {b : OrderBody} (hrun : b ≠ .run) (hdrop : b ≠ .drop) (hraise : b ≠ .raise) :
    sendingVeto ⟨h, b⟩ s = none := by
  unfold sendingVeto
  split
  next hb => exact absurd hb hrun
  next hb => exact absurd hb hdrop
  next hb => exact absurd hb hraise
  next => rfl

/-! ### A forwarded Drop -/

theorem sendingVeto_drop_all (hdst : h.dst = 255) : sendingVeto ⟨h, .drop⟩ s =
    if s.anyShaft then some (if s.armed then .forbiddenKind else .notArmed) else none := if_pos hdst

theorem sendingVeto_drop_unnamed (hdst : h.dst ≠ 255) (hat : shutterAt s h.dst.toNat = none) :
    sendingVeto ⟨h, .drop⟩ s = none := by
  refine (if_neg hdst).trans ?_
  rw [hat]
  rfl

theorem sendingVeto_drop_named (hdst : h.dst ≠ 255) {i : Nat} {e : Shutter} (hat : shutterAt s h.dst.toNat = some i)
    (he : tget s.shut i = some e) : sendingVeto ⟨h, .drop⟩ s = if e.kind = .shaft then shaftDropVeto s e else none := by
  refine (if_neg hdst).trans ?_
  rw [hat, Option.bind_some, he]

theorem orderDiscarded_drop_unnamed (hat : shutterAt s h.dst.toNat = none) :
    orderDiscarded ⟨h, .drop⟩ r (s.dequeued rest) = s.dequeued rest := by
  show withEntry (shutterAt s h.dst.toNat) _ _ = _
  rw [hat]
  rfl

theorem orderDiscarded_drop_named {i : Nat} (hat : shutterAt s h.dst.toNat = some i) :
    orderDiscarded ⟨h, .drop⟩ r (s.dequeued rest) = dropDiscarded i r (s.dequeued rest) := by
  show withEntry (shutterAt s h.dst.toNat) _ _ = _
  rw [hat]
  rfl

/-! ### A forwarded Raise -/

theorem anyRaiseHeld_iff (s : State) : s.anyRaiseHeld = true ↔
    ∃ e ∈ s.shut, e.2.reason = .fire ∧ e.2.inZone s.zoneAlarm = true := by
  simp only [State.anyRaiseHeld, tany, List.any_eq_true, raiseHeld_iff]

theorem sendingVeto_raise_all (hdst : h.dst = 255) : sendingVeto ⟨h, .raise⟩ s =
    if s.anyRaiseHeld then some .zoneInAlarm else none := if_pos hdst

theorem sendingVeto_raise_unnamed (hdst : h.dst ≠ 255) (hat : shutterAt s h.dst.toNat = none) :
    sendingVeto ⟨h, .raise⟩ s = none := by
  refine (if_neg hdst).trans ?_
  rw [hat]
  rfl

theorem sendingVeto_raise_named (hdst : h.dst ≠ 255) {i : Nat} {e : Shutter} (hat : shutterAt s h.dst.toNat = some i)
    (he : tget s.shut i = some e) : sendingVeto ⟨h, .raise⟩ s = if s.raiseHeld e then some .zoneInAlarm else none := by
  refine (if_neg hdst).trans ?_
  rw [hat, Option.bind_some, he]

theorem orderDiscarded_raise_unnamed (hat : shutterAt s h.dst.toNat = none) :
    orderDiscarded ⟨h, .raise⟩ r (s.dequeued rest) = s.dequeued rest := by
  show withEntry (shutterAt s h.dst.toNat) _ _ = _
  rw [hat]
  rfl

theorem orderDiscarded_raise_named {i : Nat} (hat : shutterAt s h.dst.toNat = some i) :
    orderDiscarded ⟨h, .raise⟩ r (s.dequeued rest) = raiseDiscarded i (s.dequeued rest) := by
  show withEntry (shutterAt s h.dst.toNat) _ _ = _
  rw [hat]
  rfl

end

end Sys2Proof.Machine
end
section
/-! SUPPORT. The transmissions and the poll schedule, assembled. -/

namespace Sys2Proof.Machine

theorem onShutter_keys (s : State) (i : Nat) (f : Shutter → Shutter) :
    (onShutter s i f).shut.map Prod.fst = s.shut.map Prod.fst := by
  show (tmod s.shut i f).map Prod.fst = _
  rw [tmod_eq_map, List.map_map]
  refine List.map_congr_left fun x _ => ?_
  dsimp only [Function.comp]
  split <;> rfl

/-- Settles O60, clause by clause: transmissions, the poll schedule, the Port B arbiter's candidates, what becomes of each
order taken, and the Port A arbiter's notices. -/
theorem transmissionsAndPollSchedule : Obligations.TransmissionsAndPollSchedule := by
  unfold Obligations.TransmissionsAndPollSchedule
  refine ⟨fun s => ?_, ⟨fun t cycle position => ?_, fun s => ?_⟩, fun s n => ?_, fun o a w => ⟨rfl, rfl, rfl, rfl⟩, fun s => ?_, fun s => ?_⟩
  · intro occupied
    refine ⟨fun o h => endsAs_finish_of_eq (orderSent_of h), fun h => endsAs_finish_of_eq (orderSent_of_none h),
      fun a x h hx => endsAs_finish_of_eq ?_, fun a h hx => endsAs_finish_of_eq ?_, fun h => endsAs_finish_of_eq (pollSent_of_none h),
      (endsAs_finish_of_eq (b := s) (s := sentA s) rfl).of_records rfl, settle s (sentA s), rfl,
      fun r hr h => settle_reply (s := sentA s) rfl hr h, fun f rest hreports h => settle_report (s := sentA s) rfl hreports h⟩
    · exact (pollSent_of h).trans (by rw [hx]; rfl)
    · exact (pollSent_of h).trans (by rw [hx]; rfl)
  · intro candidate hsorted
    exact ⟨fun a ha hleast => choosePoll_of_next (nextInCycle_of_least hsorted ha hleast) 4,
      fun h => choosePoll_of_none (nextInCycle_of_none hsorted h) 4⟩
  · refine ⟨takeB_poll, fun h => ⟨fun a o ha ho => takeB_of_order h (takeOrder_drive ha ho), fun hpat =>
      ⟨fun l i e o r hs hl ho => takeB_of_order h (takeOrder_shutter hpat hs hl ho), fun hshut =>
      ⟨fun l f a o r hs hl ho => takeB_of_order h (takeOrder_amp hpat hshut hs hl ho), fun hamps =>
      ⟨fun l i g o r hs hl ho => takeB_of_order h (takeOrder_ringer hpat hshut hamps hs hl ho), fun hringers =>
      ⟨fun o rest ho => takeB_of_order h (takeOrder_forwarded hpat hshut hamps hringers ho), fun ho =>
        takeB_of_no_order h (takeOrder_none hpat hshut hamps hringers ho)⟩⟩⟩⟩⟩⟩
  · refine ⟨fun h => arbiterB_of_busy h n, fun h => ⟨fun ht => arbiterB_of_none h ht n, fun t ht => arbiterB_of_taken h ht n⟩,
      pollDue_iff s, fun c a h => ?_⟩
    unfold takePoll
    rw [h]
  · intro put sent couldRun dropped lowered held
    refine ⟨fun a => ?_, fun i e he hkeys => ?_, fun i g a b n hg => ?_, fun f a p n g => ⟨rfl, rfl, rfl⟩, fun g p hp => ?_,
      fun h b rest => ?_⟩
    · intro w
      exact ⟨takeDrive_run a, takeDrive_run_of_not a, rfl, rfl, fun t => ⟨takeDrive_stopAt a t, fun g r k hg hr hk =>
        takeDrive_stopAt_searched a t hg hr hk⟩⟩
    · intro w
      have hkeys' : (w.shut.map Prod.fst).Nodup := by
        rw [onShutter_keys]
        exact hkeys
      have he' : tget w.shut i = some { e with slot := none } := tget_onShutter he _
      refine ⟨rfl, takeShutter_drop_department, fun hkind => ⟨fun hunarmed => ?_, fun harmed => ⟨fun hclear => ?_, fun hclear => ?_⟩⟩,
        fun hheld => ?_, fun hheld => ?_⟩
      · exact (takeShutter_drop_vetoed hkind (shaftDropVeto_unarmed hunarmed e)).trans (dropDiscarded_notArmed i w)
      · exact takeShutter_drop_clear hkind (shaftDropVeto_clear harmed hclear)
      · rw [takeShutter_drop_vetoed hkind (shaftDropVeto_judged harmed hclear)]
        have hgiven := dropDiscarded_givenUp (w := w) he' hclear
        exact hgiven
      · have hdiscard : takeShutter i e .raise s = raiseDiscarded i w := if_pos ((raiseHeld_iff s e).mpr hheld)
        rw [hdiscard]
        have hgiven := raiseDiscarded_givenUp hkeys' he'
        exact hgiven
      · exact if_neg (mt (raiseHeld_iff s e).mp hheld)
    · intro w low
      have hlow : (g.ring.any fun r => decide (r.priority < s.call.level)) = true ↔ low := ringTooLow_iff g.ring _
      exact ⟨fun h => if_neg (mt hlow.mp h), fun h => (if_pos (hlow.mpr h)).trans (discardRing_of hg), rfl⟩
    · intro unsent
      exact ⟨trySounding_of_not hp, fun c n hnone hsent hc hn => trySounding_of hp hnone hsent hc hn⟩
    · intro o w v vetoed at'
      refine ⟨fun hrun hdrop hraise => takeForwarded_sent (sendingVeto_of_other hrun hdrop hraise), ?_, ?_, ?_, ?_, ?_⟩
      · rintro rfl
        refine ⟨fun hcould => takeForwarded_sent (runVetoAtSending_of hcould), fun hcould => ?_⟩
        obtain ⟨r, hr⟩ := runVetoAtSending_of_not hcould
        exact ⟨r, takeForwarded_vetoed hr, runVetoAtSending_reason hr⟩
      · rintro rfl hdst
        have hveto := sendingVeto_drop_all (s := s) hdst
        refine ⟨fun hno => takeForwarded_sent (hveto.trans (if_neg (Bool.eq_false_iff.mp hno))), fun hyes hat => ?_⟩
        have hat' : shutterAt s h.dst.toNat = none := by
          rw [hdst]
          exact hat
        exact (takeForwarded_vetoed (hveto.trans (if_pos hyes))).trans
          (congrArg (fillVeto _ _ .sending) (orderDiscarded_drop_unnamed hat'))
      · rintro rfl hdst
        refine ⟨fun hat => takeForwarded_sent (sendingVeto_drop_unnamed hdst hat), fun i e ⟨hat, he, hkeys⟩ => ?_⟩
        have hveto := sendingVeto_drop_named hdst hat he
        refine ⟨fun hkind => takeForwarded_sent (hveto.trans (if_neg (by rw [hkind]; nofun))), fun hkind => ?_⟩
        have hshaft := hveto.trans (if_pos hkind)
        have hvetoed : ∀ r, shaftDropVeto s e = some r → v = vetoed r (dropDiscarded i r w) := fun r hr =>
          (takeForwarded_vetoed (hshaft.trans hr)).trans (congrArg (fillVeto _ _ .sending) (orderDiscarded_drop_named hat))
        refine ⟨fun hunarmed => ?_, fun harmed => ⟨fun hclear => takeForwarded_sent (hshaft.trans (shaftDropVeto_clear harmed hclear)),
          fun hclear => ⟨_, ?_, hvetoed _ (shaftDropVeto_judged harmed hclear)⟩⟩⟩
        · have hv := hvetoed _ (shaftDropVeto_unarmed hunarmed e)
          rw [dropDiscarded_notArmed] at hv
          exact hv
        · exact dropDiscarded_givenUp (w := w) he hclear
      · rintro rfl hdst hat
        have hveto := sendingVeto_raise_all (s := s) hdst
        have hat' : shutterAt s h.dst.toNat = none := by
          rw [hdst]
          exact hat
        refine ⟨fun hnone => takeForwarded_sent (hveto.trans (if_neg fun hc => ?_)), fun hsome => ?_⟩
        · obtain ⟨e, he, hheld⟩ := (anyRaiseHeld_iff s).mp hc
          exact hnone e he hheld
        · exact (takeForwarded_vetoed (hveto.trans (if_pos ((anyRaiseHeld_iff s).mpr hsome)))).trans
            (congrArg (fillVeto _ _ .sending) (orderDiscarded_raise_unnamed hat'))
      · rintro rfl hdst
        refine ⟨fun hat => takeForwarded_sent (sendingVeto_raise_unnamed hdst hat), fun i e ⟨hat, he, hkeys⟩ => ?_⟩
        have hveto := sendingVeto_raise_named hdst hat he
        refine ⟨fun hfree => takeForwarded_sent (hveto.trans (if_neg (mt (raiseHeld_iff s e).mp hfree))), fun hheld =>
          ⟨raiseDiscarded i w, raiseDiscarded_givenUp (w := w) hkeys he, ?_⟩⟩
        exact (takeForwarded_vetoed (hveto.trans (if_pos ((raiseHeld_iff s e).mpr hheld)))).trans
          (congrArg (fillVeto _ _ .sending) (orderDiscarded_raise_named hat))
  · intro frame noZone noShutter noPat noStation noPanel noCall noClosing noVeto
    have hreply : ∀ x, s.reg.settings = some x → noticeDst s = byteOf x.panel := fun x hx => by
      unfold noticeDst
      rw [hx]
    refine ⟨hreply, fun a hnone ha => ?_, fun hnone ha => ?_, fun l z e r => takeNotice_zone,
      fun l i e r hzones => takeNotice_shutter hzones, fun ⟨hzones, hshut⟩ => takeNotice_pat hzones hshut,
      fun l a e r ⟨⟨hzones, hshut⟩, hpat⟩ => takeNotice_station hzones hshut hpat,
      fun ⟨⟨⟨hzones, hshut⟩, hpat⟩, hstations⟩ => takeNotice_panel hzones hshut hpat hstations,
      fun ⟨⟨⟨⟨hzones, hshut⟩, hpat⟩, hstations⟩, hpanel⟩ => takeNotice_call hzones hshut hpat hstations hpanel,
      fun ⟨⟨⟨⟨⟨hzones, hshut⟩, hpat⟩, hstations⟩, hpanel⟩, hcall⟩ =>
        takeNotice_closing hzones hshut hpat hstations hpanel hcall,
      fun x ⟨⟨⟨⟨⟨⟨hzones, hshut⟩, hpat⟩, hstations⟩, hpanel⟩, hcall⟩, hann⟩ =>
        takeNotice_veto hzones hshut hpat hstations hpanel hcall hann,
      fun ⟨⟨⟨⟨⟨⟨⟨hzones, hshut⟩, hpat⟩, hstations⟩, hpanel⟩, hcall⟩, hann⟩, hveto⟩ hmark =>
        (takeNotice_board hzones hshut hpat hstations hpanel hcall hann hveto).trans (if_pos hmark),
      fun ⟨⟨⟨⟨⟨⟨⟨hzones, hshut⟩, hpat⟩, hstations⟩, hpanel⟩, hcall⟩, hann⟩, hveto⟩ hmark =>
        (takeNotice_board hzones hshut hpat hstations hpanel hcall hann hveto).trans (if_neg (Bool.eq_false_iff.mp hmark)),
      fun hport => ?_, arbiterA_busy⟩
    · unfold noticeDst
      rw [hnone, ha]
    · unfold noticeDst
      rw [hnone, ha]
    · intro count
      exact ⟨fun f rest hreports h => arbiterA_report hport hreports h,
        fun h => ⟨fun f hf => arbiterA_local hport h (takeLocal_reply hf),
          fun f t hnone ht => arbiterA_local hport h (takeLocal_notice hnone ht)⟩,
        fun hreports hnone ht => arbiterA_idle hport hreports (takeLocal_none hnone ht)⟩

end Sys2Proof.Machine
end
